-- ==== Sys2Proof/Word.lean ====
section
/-! DEFINITION. The widths and the numbered resources of the part (spec/00_scope.md sections 5.3 to 5.6 and
R200): bytes, words, samples, slots and blocks. -/

namespace Sys2Proof

/-- A byte of a link (R200). -/
abbrev Byte := BitVec 8

/-- A word of a link: 16 bits (R200). -/
abbrev Word := BitVec 16

/-- An audio sample: 24-bit two's complement (scope section 5.5). -/
abbrev Sample := BitVec 24

/-- A set of mute groups: bit g stands for group g (R200). -/
abbrev Groups := BitVec 16

/-- A source slot, 0 to 79 (R1). -/
abbrev SrcSlot := Fin 80

/-- A feed slot, 0 to 31 (R84). -/
abbrev FeedSlot := Fin 32

/-- A pod link, 0 to 15 (R147). -/
abbrev PodLink := Fin 16

/-- An element of a pod, 0 to 3 (scope section 5.3). -/
abbrev Element := Fin 4

/-- A far-end port, 0 to 7 (R169). -/
abbrev FarPort := Fin 8

/-- An aux input or aux output, 0 to 7 (R181). -/
abbrev AuxPort := Fin 8

/-- A byte position within the frame length of 1200 byte positions (R148). -/
abbrev FramePlace := Fin 1200

/-- One block of audio: 96 samples (scope section 5.5). -/
abbrev Block := Vector Sample 96

/-- 96 samples of silence. -/
def silence : Block := Vector.replicate 96 0

/-- The gain index OFF, which stands for silence (R101). -/
def off : Int := -192

end Sys2Proof
end

