-- ==== Sys2Proof/Config.lean ====
section
/-! DEFINITION. The value the spec leaves free: the order in which one event's changes of effective mute reach the
floor (R71). -/

namespace Sys2Proof

/-- The rank of a source slot (second argument) in the order in which one event hands several changes of
effective mute to the Floor Controller; the first argument tells one such event from another
(`State.freeCount`). It has no body: "Their order is not fixed" (R71). Lower ranks are handed first.
Free value, notes/assumptions/1.md. -/
opaque Config.attemptRank : Nat → Nat → Nat

end Sys2Proof
end

