-- ==== Sys2Proof/Syntax.lean ====
section
/-! DEFINITION. The commands and events of the part: the names they carry, the host commands with the parameters
their packets carry (R204), and `Instr`, one constructor for each row of spec/opcode_table.json. -/

namespace Sys2Proof

/-- One of the 80 origins of a source (R3). -/
inductive Origin where
  | pod (l : PodLink) (e : Element)
  | far (p : FarPort)
  | aux (a : AuxPort)
deriving DecidableEq, Repr

/-- One of the 32 destinations of a feed (R86). -/
inductive Destination where
  | podSpk (l : PodLink)
  | farSend (p : FarPort)
  | auxOut (a : AuxPort)
deriving DecidableEq, Repr

/-- One of the two scene banks (R122). -/
inductive BankName where
  | a
  | b
deriving DecidableEq, Repr

/-- The walking order of the matrix window (R137). -/
inductive WalkOrder where
  | feedMajor
  | sourceMajor
deriving DecidableEq, Repr

/-- What COUNT.GET names (R196). -/
inductive CountTarget where
  | podLink (l : PodLink)
  | farPort (p : FarPort)
  | feed (f : FeedSlot)
deriving DecidableEq, Repr

/-- The nine kinds of the error set (R187). -/
inductive ErrKind where
  | hdrCorrected
  | hdrFailed
  | payloadCheck
  | length
  | unknownCmd
  | badParam
  | busy
  | notAttached
  | bound
deriving DecidableEq, Repr

/-- The eight kinds of the notice set (R192). -/
inductive NoticeKind where
  | podLink
  | privacy
  | button
  | talkMuted
  | floor
  | slip
  | clip
  | swapDone
deriving DecidableEq, Repr

/-- The fourteen floor parameters (section 7.2 of the spec, identifiers of R204). -/
inductive ParamId where
  | maxOpen
  | holdBlocks
  | lastMic
  | nomOn
  | margin
  | hysteresis
  | voiceFloor
  | closedAtten
  | admitBurst
  | admitWindow
  | twmBlocks
  | attackShift
  | releaseShift
  | creepBlocks
deriving DecidableEq, Repr

/-- The four header bytes of a frame from a pod: frame type, element count, button byte, check (R148, R207). -/
structure PodHeader where
  frameType : Byte
  elements : Byte
  buttons : Byte
  check : Byte
deriving DecidableEq, Repr

/-- Whose ramp record a RAMP_END is about: a source's, a feed's, or a crosspoint's (R107, R110). -/
inductive RampOwner where
  | source (i : SrcSlot)
  | feed (f : FeedSlot)
  | crosspoint (f : FeedSlot) (i : SrcSlot)
deriving DecidableEq, Repr

/-- A host command with the parameters its packet carries (R204), each at the width the packet gives it: a slot,
link, port, group or code is the byte as sent, a flag is its bit, a trim or master its signed byte or word. -/
inductive HostCmd where
  | srcAttach (slot : Byte) (chair : Bool) (origin : BitVec 7) (trim : Word) (groups : Groups)
  | srcRetire (slot : Byte)
  | srcTrim (slot : Byte) (trim : Byte)
  | srcGroups (slot : Byte) (groups : Groups)
  | srcGet (slot : Byte)
  | srcMute (slot : Byte) (on : Bool)
  | grpMute (group : Byte) (on : Bool)
  | roomMute (on : Bool)
  | muteGet
  | floorGet
  | floorReset
  | feedAttach (slot : Byte) (dest : Byte) (master : Word) (excluded : Groups)
  | feedRetire (slot : Byte)
  | feedLevel (slot : Byte) (master : Word)
  | feedMute (slot : Byte) (on : Bool)
  | feedExclude (slot : Byte) (groups : Groups)
  | feedGet (slot : Byte)
  | bankSwap
  | bankCopy
  | bankGet
  | paramSet (pairs : List (Word × Word))
  | paramGet (bank : Byte)
  | xpWindow (feedStart feedEnd srcStart srcEnd : Byte) (order : Word) (feedRev srcRev : Bool)
  | xpPut (words : List Word)
  | xpPutNext (words : List Word)
  | xpTake (count : Word)
  | xpTakeNext (count : Word)
  | podSetup (link : Byte) (depth : Byte)
  | podGet (link : Byte)
  | portGet (port : Byte)
  | noteGet
  | noteMask (mask : Byte)
  | countGet (kind : Byte) (number : Byte)
  | engineReset
deriving DecidableEq, Repr

/-- The commands and events of the part, one constructor for each row of spec/opcode_table.json, in its order.
A host command's row stands for its whole packet, sent in its right form with correct checks and with the
answer-wanted flag clear; the same command sent byte by byte, with any flag, form or damage, is
packetStart, headerComplete and payloadComplete. The events carry what the outside gives at them. -/
inductive Instr where
  | srcAttach (slot : Byte) (chair : Bool) (origin : BitVec 7) (trim : Word) (groups : Groups)
  | srcRetire (slot : Byte)
  | srcTrim (slot : Byte) (trim : Byte)
  | srcGroups (slot : Byte) (groups : Groups)
  | srcGet (slot : Byte)
  | srcMute (slot : Byte) (on : Bool)
  | grpMute (group : Byte) (on : Bool)
  | roomMute (on : Bool)
  | muteGet
  | floorGet
  | floorReset
  | feedAttach (slot : Byte) (dest : Byte) (master : Word) (excluded : Groups)
  | feedRetire (slot : Byte)
  | feedLevel (slot : Byte) (master : Word)
  | feedMute (slot : Byte) (on : Bool)
  | feedExclude (slot : Byte) (groups : Groups)
  | feedGet (slot : Byte)
  | bankSwap
  | bankCopy
  | bankGet
  | paramSet (pairs : List (Word × Word))
  | paramGet (bank : Byte)
  | xpWindow (feedStart feedEnd srcStart srcEnd : Byte) (order : Word) (feedRev srcRev : Bool)
  | xpPut (words : List Word)
  | xpPutNext (words : List Word)
  | xpTake (count : Word)
  | xpTakeNext (count : Word)
  | podSetup (link : Byte) (depth : Byte)
  | podGet (link : Byte)
  | portGet (port : Byte)
  | noteGet
  | noteMask (mask : Byte)
  | countGet (kind : Byte) (number : Byte)
  | engineReset
  | powerOnReset
  | packetStart
  /-- The five header bytes as received (R184). -/
  | headerComplete (b0 b1 b2 b3 b4 : Byte)
  /-- The payload words and the payload check as received (R185). -/
  | payloadComplete (words : List Word) (check : Word)
  | turnaround
  | answerSent
  /-- The start of a mix block, with the blocks the eight aux inputs received in the period before (R181). -/
  | mixBlockStart (aux : Vector Block 8)
  | clockLoss (port : FarPort)
  | swapEffect
  | stampExpiry
  | measurement (slot : SrcSlot)
  | noiseFloorCreep (slot : SrcSlot)
  | alert (slot : SrcSlot)
  | holdExpiry (slot : SrcSlot)
  | rampEnd (owner : RampOwner)
  | sourceRetirementCompletion (slot : SrcSlot)
  | feedRetirementCompletion (slot : FeedSlot)
  | crosspointRampsEnd
  | feedsFormed
  /-- The search of a link in HUNT up to a match: the bytes of the incoming stream from the byte position at which the
  search began, and the four bytes behind them, at which it ends (R151). -/
  | huntMatch (link : PodLink) (searched : List Byte) (header : PodHeader)
  /-- The header at the expected place in PRESYNC, and the 1152 bytes behind it: room for the samples of four element
  blocks, three bytes each, of which those of the header's element count are read (R148, R152, R207). -/
  | presyncJudgement (link : PodLink) (header : PodHeader) (audio : Vector Byte 1152)
  /-- The header at the expected place in SYNC, and the bytes behind it, as above (R154). -/
  | goodFrameInSync (link : PodLink) (header : PodHeader) (audio : Vector Byte 1152)
  | badFrameInSync (link : PodLink) (header : PodHeader)
  /-- One pulse of a codec's frame clock with its incoming sample (R170). -/
  | codecPulse (port : FarPort) (sample : Sample)
deriving DecidableEq, Repr

end Sys2Proof
end

