-- ==== Sys2Proof/Decode.lean ====
section
/-! DEFINITION. The data formats of chapter 11: the packet header and its check, the payload check, the commands'
codes and parameter packing in both directions, the header of a pod's frame, and the host's table-word decoder. -/

namespace Sys2Proof

/-! ### Bytes and words (R200) -/

/-- The high byte of a word (R200). -/
def hiByte (w : Word) : Byte := w.extractLsb' 8 8

/-- The low byte of a word (R200). -/
def loByte (w : Word) : Byte := w.extractLsb' 0 8

/-- A word from its high and its low byte (R200). -/
def wordOf (hi lo : Byte) : Word := hi ++ lo

/-- A flag as a bit of a byte: 1 for on (R200). -/
def flagByte (b : Bool) : Byte := if b then 1 else 0

/-- The bits of a byte in the order in which they are sent, most significant first (R200). -/
def byteBits (b : Byte) : List Bool := [7, 6, 5, 4, 3, 2, 1, 0].map b.getLsbD

/-- Bytes as a link carries them, bit by bit (R200). -/
def lineBits (bs : List Byte) : List Bool := bs.flatMap byteBits

/-- The bytes of words, each word's high byte first (R200). -/
def wordBytes (ws : List Word) : List Byte := ws.flatMap fun w => [hiByte w, loByte w]

/-- The three bytes of an audio sample, most significant first (R200, R207). -/
def sampleBytes (x : Sample) : List Byte := [x.extractLsb' 16 8, x.extractLsb' 8 8, x.extractLsb' 0 8]

/-- An audio sample from its three bytes (R200, R207). -/
def sampleOf (hi mid lo : Byte) : Sample := hi ++ mid ++ lo

/-- The 288 bytes of a block on a pod link (R164, R207). -/
def blockBytes (b : Block) : List Byte := b.toList.flatMap sampleBytes

/-! ### The header check (R202) -/

/-- The codeword position of content bit d_i: the positions from 1 to 38 that are not powers of two, in ascending
order (R202). -/
def contentPositions : List Nat :=
  [3, 5, 6, 7, 9, 10, 11, 12, 13, 14, 15, 17, 18, 19, 20, 21, 22, 23, 24, 25, 26, 27, 28, 29, 30, 31,
   33, 34, 35, 36, 37, 38]

/-- Check bit c_k for k from 0 to 5: the exclusive-or of every content bit whose position has bit k set (R202). -/
def positionCheck (d : BitVec 32) (k : Nat) : Bool :=
  (List.range 32).foldl (fun acc i => acc ^^ ((contentPositions.getD i 0).testBit k && d.getLsbD i)) false

/-- The exclusive-or of all 32 content bits. -/
def contentParity (d : BitVec 32) : Bool :=
  (List.range 32).foldl (fun acc i => acc ^^ d.getLsbD i) false

/-- The check byte of a header: c6 to c0, bit 7 sent as 0 (R201, R202). -/
def headerCheck (d : BitVec 32) : Byte :=
  let c := fun k => positionCheck d k
  let c6 := contentParity d ^^ c 0 ^^ c 1 ^^ c 2 ^^ c 3 ^^ c 4 ^^ c 5
  BitVec.ofNat 8 ((c 0).toNat + 2 * (c 1).toNat + 4 * (c 2).toNat + 8 * (c 3).toNat + 16 * (c 4).toNat
    + 32 * (c 5).toNat + 64 * c6.toNat)

/-- The syndrome: bit k is the recomputed c_k exclusive-or the received c_k (R202). -/
def syndrome (d : BitVec 32) (chk : Byte) : Nat :=
  (List.range 6).foldl (fun acc k => acc + (positionCheck d k ^^ chk.getLsbD k).toNat * 2 ^ k) 0

/-- The parity of the 39 received bits d0 to d31 and c0 to c6 (R202). -/
def receivedParity (d : BitVec 32) (chk : Byte) : Bool :=
  (List.range 7).foldl (fun acc k => acc ^^ chk.getLsbD k) (contentParity d)

/-- What the header check shows (R184, R202). -/
inductive HeaderJudgement where
  /-- No error: the header is taken as received. -/
  | correct
  /-- A single error, in a content bit or in the check byte: the content as corrected. -/
  | corrected (content : BitVec 32)
  /-- An error the check cannot correct. -/
  | failed
deriving DecidableEq, Repr

/-- The judgement of a header's 32 content bits and check byte (the table of R202). -/
def judgeHeader (d : BitVec 32) (chk : Byte) : HeaderJudgement :=
  let s := syndrome d chk
  match receivedParity d chk with
  | false => if s = 0 then .correct else .failed
  | true =>
    if s = 0 ∨ s = 1 ∨ s = 2 ∨ s = 4 ∨ s = 8 ∨ s = 16 ∨ s = 32 then .corrected d
    else match contentPositions.idxOf? s with
      | some i => .corrected (d ^^^ BitVec.twoPow 32 i)
      | none => .failed

/-- The 32 content bits of the bytes 0 to 3 of a header: d31 is the top bit of byte 0 (R201). -/
def headerContent (b0 b1 b2 b3 : Byte) : BitVec 32 := b0 ++ b1 ++ b2 ++ b3

/-- A header's fields (R201). -/
structure Header where
  long : Bool
  wanted : Bool
  code : Byte
  p1 : Byte
  p2 : Byte
deriving DecidableEq, Repr

/-- The fields of a header's content; bits 5 to 0 of byte 0 are not read (R201). -/
def Header.ofContent (d : BitVec 32) : Header where
  long := d.getLsbD 31
  wanted := d.getLsbD 30
  code := d.extractLsb' 16 8
  p1 := d.extractLsb' 8 8
  p2 := d.extractLsb' 0 8

/-- The word count a long header names: byte 3 plus one, 1 to 256 (R200, R201). -/
def Header.wordCount (h : Header) : Nat := h.p2.toNat + 1

/-! ### The payload check (R203) and the CRC-8 (R208) -/

/-- One bit of a cyclic check: shift left, and exclusive-or the generator's low coefficients when the bit shifted
out, exclusive-or the input bit, is 1 (R203, R208). -/
def crcBit {n : Nat} (generator reg : BitVec n) (b : Bool) : BitVec n :=
  if reg.msb ^^ b then (reg <<< 1) ^^^ generator else reg <<< 1

/-- One byte of a cyclic check, most significant bit first (R203, R208). -/
def crcByte {n : Nat} (generator reg : BitVec n) (b : Byte) : BitVec n :=
  (byteBits b).foldl (crcBit generator) reg

/-- The payload check of a list of words: generator x^16 + x^12 + x^5 + 1, register at all ones (R203). -/
def crc16 (ws : List Word) : Word :=
  (wordBytes ws).foldl (crcByte 0x1021) 0xFFFF

/-- The CRC-8 of a pod frame header: generator x^8 + x^2 + x + 1, register at 0 (R208). -/
def crc8 (bs : List Byte) : Byte := bs.foldl (crcByte 0x07) 0

/-! ### Frames from a pod (R149, R207) -/

/-- The check byte agrees with the CRC-8 of the three bytes before it (R149, R208). -/
def PodHeader.checkAgrees (h : PodHeader) : Bool := h.check == crc8 [h.frameType, h.elements, h.buttons]

/-- A header is good when its check agrees, its frame type is the pod audio frame type 0x3A, and its element count
is 1 to 4; it is bad otherwise (R149, R207). -/
def PodHeader.good (h : PodHeader) : Bool :=
  h.checkAgrees && h.frameType == 0x3A && decide (1 ≤ h.elements.toNat) && decide (h.elements.toNat ≤ 4)

/-- The MUTE press flag: bit 0 of the button byte (R207). -/
def PodHeader.mutePress (h : PodHeader) : Bool := h.buttons.getLsbD 0

/-- The CHAIR press flag: bit 1 of the button byte (R207). -/
def PodHeader.chairPress (h : PodHeader) : Bool := h.buttons.getLsbD 1

/-- The privacy level: bit 2 of the button byte (R207). -/
def PodHeader.privacy (h : PodHeader) : Bool := h.buttons.getLsbD 2

/-- The element count of a good header (R149). -/
def PodHeader.count (h : PodHeader) : Nat := h.elements.toNat

/-- The four bytes of a header, in the order in which they come (R148). -/
def PodHeader.bytes (h : PodHeader) : List Byte := [h.frameType, h.elements, h.buttons, h.check]

/-- The search of R151: every byte position of a stream is tested in turn as the start of a header, one byte after the
start of the position tested before, until the four bytes at one form a good header. The answer is that header with the
number of positions before it, or none while the stream holds no match. -/
def searchHeader : List Byte → Option (Nat × PodHeader)
  | [] => none
  | b0 :: rest =>
    match rest with
    | b1 :: b2 :: b3 :: _ =>
      if (PodHeader.mk b0 b1 b2 b3).good then some (0, ⟨b0, b1, b2, b3⟩)
      else (searchHeader rest).map fun r => (r.1 + 1, r.2)
    | _ => none

/-- The block of an element from the bytes behind a frame's header: element e's sample n is the three bytes from
288 e + 3 n on (R148, R207). -/
def elementBlock (audio : Vector Byte 1152) (e : Element) : Block :=
  Vector.ofFn fun n => sampleOf audio[288 * e.val + 3 * n.val] audio[288 * e.val + 3 * n.val + 1]
    audio[288 * e.val + 3 * n.val + 2]

/-- The element blocks of a frame: as many as its element count, in element order (R148). -/
def framedBlocks (h : PodHeader) (audio : Vector Byte 1152) : List Block :=
  ((List.finRange 4).take h.count).map (elementBlock audio)

/-! ### Command codes and parameters (R204) -/

/-- The codes of the short commands (R204 and section 10.7). -/
def shortCodes : List Nat :=
  [0x02, 0x03, 0x05, 0x06, 0x10, 0x11, 0x12, 0x18, 0x19, 0x21, 0x23, 0x25, 0x30, 0x31, 0x32, 0x34, 0x3B, 0x3C,
   0x40, 0x41, 0x48, 0x50, 0x51, 0x52, 0x5F]

/-- The codes of the long commands (R204 and section 10.7). -/
def longCodes : List Nat := [0x01, 0x04, 0x20, 0x22, 0x24, 0x33, 0x38, 0x39, 0x3A]

/-- A code that names a command of the summary table (R186 check 1). -/
def knownCode (code : Byte) : Bool := shortCodes.contains code.toNat || longCodes.contains code.toNat

/-- A code that names a read command (R188). -/
def readCode (code : Byte) : Bool :=
  [0x05, 0x25, 0x12, 0x18, 0x32, 0x34, 0x3B, 0x3C, 0x41, 0x48, 0x50, 0x52].contains code.toNat

/-- The identifier and value pairs of a PARAM.SET payload; none for an odd number of words (R126). -/
def wordPairs : List Word → Option (List (Word × Word))
  | [] => some []
  | [_] => none
  | i :: v :: rest => (wordPairs rest).map ((i, v) :: ·)

/-- The words of a PARAM.SET payload. -/
def pairWords : List (Word × Word) → List Word
  | [] => []
  | (i, v) :: rest => i :: v :: pairWords rest

/-- A short packet's command from its code and parameter bytes; none for a code that is not a short command's
(R204). That bits 7 to 1 of ROOM.MUTE's P1 are ignored, as R204 says of the other bytes with a flag in bit 0, is the
model's choice (notes/assumptions/20.md). -/
def decodeShort (code p1 p2 : Byte) : Option HostCmd :=
  match code.toNat with
  | 0x02 => some (.srcRetire p1)
  | 0x03 => some (.srcTrim p1 p2)
  | 0x05 => some (.srcGet p1)
  | 0x06 => some (.srcMute p1 (p2.getLsbD 0))
  | 0x10 => some (.grpMute p1 (p2.getLsbD 0))
  | 0x11 => some (.roomMute (p1.getLsbD 0))
  | 0x12 => some .muteGet
  | 0x18 => some .floorGet
  | 0x19 => some .floorReset
  | 0x21 => some (.feedRetire p1)
  | 0x23 => some (.feedMute p1 (p2.getLsbD 0))
  | 0x25 => some (.feedGet p1)
  | 0x30 => some .bankSwap
  | 0x31 => some .bankCopy
  | 0x32 => some .bankGet
  | 0x34 => some (.paramGet p1)
  | 0x3B => some (.xpTake (wordOf p1 p2))
  | 0x3C => some (.xpTakeNext (wordOf p1 p2))
  | 0x40 => some (.podSetup p1 p2)
  | 0x41 => some (.podGet p1)
  | 0x48 => some (.portGet p1)
  | 0x50 => some .noteGet
  | 0x51 => some (.noteMask p2)
  | 0x52 => some (.countGet p1 p2)
  | 0x5F => some .engineReset
  | _ => none

/-- A long packet's command from its code and payload words; none for a code that is not a long command's or a word
count the command does not accept (R204 and section 10.7). That bits 15 to 2 of XP.WINDOW's word 3 are ignored is the
model's choice (notes/assumptions/20.md). -/
def decodeLong (code : Byte) (ws : List Word) : Option HostCmd :=
  match code.toNat with
  | 0x01 => match ws with
    | [w0, w1, w2] => some (.srcAttach (hiByte w0) (w0.getLsbD 7) (w0.extractLsb' 0 7) w1 w2)
    | _ => none
  | 0x04 => match ws with
    | [w0, w1] => some (.srcGroups (loByte w0) w1)
    | _ => none
  | 0x20 => match ws with
    | [w0, w1, w2] => some (.feedAttach (hiByte w0) (loByte w0) w1 w2)
    | _ => none
  | 0x22 => match ws with
    | [w0, w1] => some (.feedLevel (loByte w0) w1)
    | _ => none
  | 0x24 => match ws with
    | [w0, w1] => some (.feedExclude (loByte w0) w1)
    | _ => none
  | 0x33 => if ws.length = 0 ∨ 256 < ws.length then none else (wordPairs ws).map .paramSet
  | 0x38 => match ws with
    | [w0, w1, w2, w3] =>
      some (.xpWindow (hiByte w0) (loByte w0) (hiByte w1) (loByte w1) w2 (w3.getLsbD 0) (w3.getLsbD 1))
    | _ => none
  | 0x39 => if ws.length = 0 ∨ 256 < ws.length then none else some (.xpPut ws)
  | 0x3A => if ws.length = 0 ∨ 256 < ws.length then none else some (.xpPutNext ws)
  | _ => none

/-- A packet's body: what its code's parameters arrive in (R183). -/
inductive PacketBody where
  | short (p1 p2 : Byte)
  | long (words : List Word)
deriving DecidableEq, Repr

/-- The command of a complete packet, or the kind of the check of R186 that it fails: UNKNOWN_CMD, then LENGTH. -/
def decodePacket (code : Byte) (body : PacketBody) : Except ErrKind HostCmd :=
  if knownCode code then
    match (match body with
      | .short p1 p2 => decodeShort code p1 p2
      | .long ws => decodeLong code ws) with
    | some c => .ok c
    | none => .error .length
  else .error .unknownCmd

/-- The code of a command (R204). -/
def HostCmd.code : HostCmd → Byte
  | .srcAttach .. => 0x01
  | .srcRetire .. => 0x02
  | .srcTrim .. => 0x03
  | .srcGroups .. => 0x04
  | .srcGet .. => 0x05
  | .srcMute .. => 0x06
  | .grpMute .. => 0x10
  | .roomMute .. => 0x11
  | .muteGet => 0x12
  | .floorGet => 0x18
  | .floorReset => 0x19
  | .feedAttach .. => 0x20
  | .feedRetire .. => 0x21
  | .feedLevel .. => 0x22
  | .feedMute .. => 0x23
  | .feedExclude .. => 0x24
  | .feedGet .. => 0x25
  | .bankSwap => 0x30
  | .bankCopy => 0x31
  | .bankGet => 0x32
  | .paramSet .. => 0x33
  | .paramGet .. => 0x34
  | .xpWindow .. => 0x38
  | .xpPut .. => 0x39
  | .xpPutNext .. => 0x3A
  | .xpTake .. => 0x3B
  | .xpTakeNext .. => 0x3C
  | .podSetup .. => 0x40
  | .podGet .. => 0x41
  | .portGet .. => 0x48
  | .noteGet => 0x50
  | .noteMask .. => 0x51
  | .countGet .. => 0x52
  | .engineReset => 0x5F

/-- The body a host sends for a command; bits not read are sent as 0 (R204). -/
def HostCmd.body : HostCmd → PacketBody
  | .srcAttach slot chair origin trim groups =>
    .long [wordOf slot (BitVec.ofBool chair ++ origin), trim, groups]
  | .srcRetire slot => .short slot 0
  | .srcTrim slot trim => .short slot trim
  | .srcGroups slot groups => .long [wordOf 0 slot, groups]
  | .srcGet slot => .short slot 0
  | .srcMute slot on => .short slot (flagByte on)
  | .grpMute group on => .short group (flagByte on)
  | .roomMute on => .short (flagByte on) 0
  | .muteGet => .short 0 0
  | .floorGet => .short 0 0
  | .floorReset => .short 0 0
  | .feedAttach slot dest master excluded => .long [wordOf slot dest, master, excluded]
  | .feedRetire slot => .short slot 0
  | .feedLevel slot master => .long [wordOf 0 slot, master]
  | .feedMute slot on => .short slot (flagByte on)
  | .feedExclude slot groups => .long [wordOf 0 slot, groups]
  | .feedGet slot => .short slot 0
  | .bankSwap => .short 0 0
  | .bankCopy => .short 0 0
  | .bankGet => .short 0 0
  | .paramSet pairs => .long (pairWords pairs)
  | .paramGet bank => .short bank 0
  | .xpWindow fs fe ss se order fr sr =>
    .long [wordOf fs fe, wordOf ss se, order, wordOf 0 (flagByte fr + 2 * flagByte sr)]
  | .xpPut words => .long words
  | .xpPutNext words => .long words
  | .xpTake count => .short (hiByte count) (loByte count)
  | .xpTakeNext count => .short (hiByte count) (loByte count)
  | .podSetup link depth => .short link depth
  | .podGet link => .short link 0
  | .portGet port => .short port 0
  | .noteGet => .short 0 0
  | .noteMask mask => .short 0 mask
  | .countGet kind number => .short kind number
  | .engineReset => .short 0 0

/-- The bytes 0 to 3 of the header of a packet (R201). -/
def packetContent (code : Byte) (wanted : Bool) : PacketBody → Byte × Byte × Byte × Byte
  | .short p1 p2 => (if wanted then 0x40 else 0x00, code, p1, p2)
  | .long ws => (if wanted then 0xC0 else 0x80, code, 0, BitVec.ofNat 8 (ws.length - 1))

/-! ### The host's decoder of table words -/

/-- The command a word of spec/opcode_table.json's bits spells: the table gives no row any bits, so none. -/
def decodeTableWord (_nbits _w : Nat) : Option Instr := none

end Sys2Proof
end

