-- ==== Sys2Proof/Machine/State.lean ====
section
/-! DEFINITION. The state of the part as plain data: every record, list, buffer, counter, flag and output the spec
gives it, with its value after power-on reset, and the queue of waiting commands. -/

namespace Sys2Proof.Machine

/-! ### Records of sources and feeds -/

/-- The lifecycle state of a source or feed slot (R1, R84). -/
inductive Lifecycle where
  | free
  | active
  | retiring
deriving DecidableEq, Repr

/-- The class of a source (R5). -/
inductive SrcClass where
  | chair
  | delegate
  | remote
  | program
deriving DecidableEq, Repr

/-- The voice state of a source (R1). -/
inductive VoiceState where
  | quiet
  | voiced
deriving DecidableEq, Repr

/-- The floor state of a source (R56); the hold count is present in HOLD alone (R1). `opened` is OPEN. -/
inductive FloorState where
  | closed
  | pending
  | opened
  | hold (count : Nat)
  | last
  | ungated
deriving DecidableEq, Repr

/-- A ramp record: start value, duration in blocks, blocks done (R105). -/
structure Ramp where
  start : Int
  duration : Nat
  done : Nat
deriving DecidableEq, Repr

/-- What the ramp unit holds for one source or feed slot: current gain, target gain, optional ramp record (R105). -/
structure GainUnit where
  current : Int
  target : Int
  ramp : Option Ramp
deriving DecidableEq, Repr

/-- The gain of a FREE slot: OFF, OFF, no ramp record (R1, R84). -/
def GainUnit.free : GainUnit where
  current := off
  target := off
  ramp := none

/-- A source record (R1). `s` is the level estimate S, `n` the noise floor N, `twm` the talk-while-muted count.
`inBlock` is the block the source received at the start of the mix block in progress, until its measurement takes
it (R3, R19). `twmRose` is the model's own: on while a measurement has raised the talk-while-muted count and ALERT has
not yet been judged for that rise (R29, notes/assumptions/6.md). -/
structure Source where
  state : Lifecycle
  origin : Option Origin
  cls : Option SrcClass
  trim : Int
  groups : Groups
  userMute : Bool
  privacy : Bool
  effMute : Bool
  s : Nat
  n : Nat
  creep : Nat
  voice : VoiceState
  twm : Nat
  twmRose : Bool
  alert : Bool
  floorState : Option FloorState
  gain : GainUnit
  inBlock : Option Block
deriving DecidableEq, Repr

/-- The record of a FREE source slot (the last column of R1's table). -/
def Source.free : Source where
  state := .free
  origin := none
  cls := none
  trim := 0
  groups := 0
  userMute := false
  privacy := false
  effMute := false
  s := 0
  n := 0
  creep := 0
  voice := .quiet
  twm := 0
  twmRose := false
  alert := false
  floorState := none
  gain := .free
  inBlock := none

/-- A feed record (R84). -/
structure Feed where
  state : Lifecycle
  dest : Option Destination
  master : Int
  muted : Bool
  excluded : Groups
  gain : GainUnit
  clips : Nat
deriving DecidableEq, Repr

/-- The record of a FREE feed slot that keeps a clip counter (R84, R91, R99). -/
def Feed.free (clips : Nat) : Feed where
  state := .free
  dest := none
  master := off
  muted := false
  excluded := 0
  gain := .free
  clips := clips

/-! ### Mute Logic and Floor Controller -/

/-- The mutes of the sixteen groups and the room mute (section 3.1). -/
structure MuteUnit where
  groups : Groups
  room : Bool
deriving DecidableEq, Repr

/-- An admission stamp: its block number, and whether it is still live (R59). -/
structure Stamp where
  block : BitVec 32
  live : Bool
deriving DecidableEq, Repr

/-- The floor list, oldest admission first; the pending queue in its chair part and its delegate part; the admission
stamp list, oldest first; the block number (section 4.1, R57 to R59). -/
structure FloorCtl where
  list : List SrcSlot
  chairs : List SrcSlot
  delegates : List SrcSlot
  stamps : List Stamp
  block : BitVec 32
deriving DecidableEq, Repr

/-- The Floor Controller after a reset (R83). -/
def FloorCtl.reset : FloorCtl where
  list := []
  chairs := []
  delegates := []
  stamps := []
  block := 0

/-! ### Bank Store -/

/-- One bank's fourteen floor parameters (section 7.2). -/
structure Params where
  maxOpen : Nat
  holdBlocks : Nat
  lastMic : Bool
  nomOn : Bool
  margin : Nat
  hysteresis : Nat
  voiceFloor : Nat
  closedAtten : Nat
  admitBurst : Nat
  admitWindow : Nat
  twmBlocks : Nat
  attackShift : Nat
  releaseShift : Nat
  creepBlocks : Nat
deriving DecidableEq, Repr

/-- The default floor parameters (section 7.2). -/
def Params.default : Params where
  maxOpen := 4
  holdBlocks := 500
  lastMic := true
  nomOn := true
  margin := 20
  hysteresis := 6
  voiceFloor := 60
  closedAtten := 30
  admitBurst := 4
  admitWindow := 250
  twmBlocks := 250
  attackShift := 1
  releaseShift := 5
  creepBlocks := 50

/-- A value for every pair of a feed slot and a source slot. -/
abbrev Matrix (α : Type) := Vector (Vector α 80) 32

/-- The same value at every pair. -/
def Matrix.const {α : Type} (x : α) : Matrix α := Vector.replicate 32 (Vector.replicate 80 x)

/-- A scene bank: its crosspoints and its floor parameters (R122). -/
structure Bank where
  xp : Matrix Int
  params : Params
deriving DecidableEq, Repr

/-- The default contents of a bank (R122). -/
def Bank.default : Bank where
  xp := Matrix.const off
  params := .default

/-- The swap state (R128). -/
inductive SwapState where
  | settled
  | swapPending
  | ramping
deriving DecidableEq, Repr

/-- The matrix window (R137). -/
structure Window where
  feedStart : FeedSlot
  feedEnd : FeedSlot
  srcStart : SrcSlot
  srcEnd : SrcSlot
  order : WalkOrder
  feedRev : Bool
  srcRev : Bool
deriving DecidableEq, Repr

/-- The default window: feeds 0 to 31 and sources 0 to 79, FEED-MAJOR, both reverse flags off (R137). -/
def Window.default : Window where
  feedStart := 0
  feedEnd := 31
  srcStart := 0
  srcEnd := 79
  order := .feedMajor
  feedRev := false
  srcRev := false

/-- The Bank Store: both banks, the operating-bank selector, the swap state, the window and its cursor (chapter 7). -/
structure BankStore where
  a : Bank
  b : Bank
  operating : BankName
  swap : SwapState
  window : Window
  cursor : Nat
deriving DecidableEq, Repr

/-- The Bank Store after a reset (R122, R123, R128, R137, R139). -/
def BankStore.reset : BankStore where
  a := .default
  b := .default
  operating := .a
  swap := .settled
  window := .default
  cursor := 0

/-- A crosspoint ramp: former operating value, new operating value, duration, blocks done (R110). -/
structure XpRamp where
  start : Int
  target : Int
  duration : Nat
  done : Nat
deriving DecidableEq, Repr

/-! ### Pod links -/

/-- The framing state of a pod link (R147). -/
inductive Framing where
  | hunt
  | presync
  | sync
deriving DecidableEq, Repr

/-- The indicator codes of a pod element (R53). -/
inductive Indicator where
  | dark
  | priv
  | alert
  | muted
  | live
  | waiting
  | idle
deriving DecidableEq, Repr

/-- What the header of an outgoing pod frame carries (R163), fixed when its mix block begins. -/
structure OutHead where
  noFeed : Bool
  tag : Option SrcSlot
  codes : Vector Indicator 4
deriving DecidableEq, Repr

/-- The header fields held before any mix block has begun: no feed, no tag, DARK (notes/assumptions/3.md). -/
def OutHead.reset : OutHead where
  noFeed := true
  tag := none
  codes := Vector.replicate 4 .dark

/-- A pod link record (R147). `place` is the byte position in the frame period where the link expects its next header,
or, in HUNT, where its search began (R151, R152, R159). `holding` is the frame holding: empty, or the element blocks of one
frame, as many as its count (R150). `head` and `sent` are the outgoing frame of the latest mix block that has begun
(R163, R166) and the bytes of the latest frame sent to the pod (R207). -/
structure Pod where
  framing : Framing
  goodRun : Nat
  badRun : Nat
  depth : Nat
  elements : Nat
  privacy : Bool
  place : FramePlace
  holding : Option (List Block)
  goodFrames : Nat
  headerErrors : Nat
  syncLosses : Nat
  head : OutHead
  sent : Option (List Byte)
deriving DecidableEq, Repr

/-- A pod link record after power-on reset (R147, R168). -/
def Pod.reset : Pod where
  framing := .hunt
  goodRun := 0
  badRun := 0
  depth := 2
  elements := 1
  privacy := false
  place := 0
  holding := none
  goodFrames := 0
  headerErrors := 0
  syncLosses := 0
  head := .reset
  sent := none

/-! ### Far-end ports -/

/-- The state of a far-end port (R169). -/
inductive PortState where
  | down
  | priming
  | running
deriving DecidableEq, Repr

/-- A far-end port record (R169). The input assembly is `fill` samples at the head of `asm`, the rest of it 0.
`codecOut` is the sample the latest pulse carried out to the codec (R170). -/
structure Port where
  state : PortState
  input : List Block
  asm : Block
  fill : Fin 96
  output : List Block
  primed : Bool
  send : Block
  seen : Bool
  idle : Nat
  inOver : Nat
  inUnder : Nat
  outOver : Nat
  outUnder : Nat
  clockLosses : Nat
  codecOut : Sample
deriving DecidableEq, Repr

/-- A far-end port record after power-on reset (R169). -/
def Port.reset : Port where
  state := .down
  input := []
  asm := silence
  fill := 0
  output := []
  primed := false
  send := silence
  seen := false
  idle := 8
  inOver := 0
  inUnder := 0
  outOver := 0
  outUnder := 0
  clockLosses := 0
  codecOut := 0

/-! ### The mix block in progress -/

/-- A source as the Mixer reads it for a mix block: origin, groups, used gain, received block (R113). -/
structure SrcView where
  origin : Option Origin
  groups : Groups
  gain : Int
  block : Block
deriving DecidableEq, Repr

/-- A feed as the Mixer reads it for a mix block: destination, excluded groups, used gain (R113). -/
structure FeedView where
  dest : Option Destination
  excluded : Groups
  gain : Int
deriving DecidableEq, Repr

/-- What the Mixer has read for the mix block in progress: none for a FREE slot, and the used crosspoint of every pair
(R85, R109, R110, R113). -/
structure MixView where
  srcs : Vector (Option SrcView) 80
  feeds : Vector (Option FeedView) 32
  xp : Matrix Int
deriving DecidableEq, Repr

/-- The blocks a mix block gives its destinations: the audio of every pod's frame, the output write of every far-end port
and the block of every aux output (R85, R86, R117). -/
structure BlockOutputs where
  pods : Vector Block 16
  far : Vector Block 8
  aux : Vector Block 8
deriving DecidableEq, Repr

/-! ### Notice Unit and Control Link Interface -/

/-- A set of notice kinds (R192), also the notice mask (R193). -/
structure NoticeSet where
  podLink : Bool
  privacy : Bool
  button : Bool
  talkMuted : Bool
  floor : Bool
  slip : Bool
  clip : Bool
  swapDone : Bool
deriving DecidableEq, Repr

/-- The empty notice set. -/
def NoticeSet.none : NoticeSet := ⟨false, false, false, false, false, false, false, false⟩

/-- Every notice kind. -/
def NoticeSet.all : NoticeSet := ⟨true, true, true, true, true, true, true, true⟩

/-- The Notice Unit: notice set, notice mask, and the attention line it drives (R192, R193). -/
structure NoticeUnit where
  set : NoticeSet
  mask : NoticeSet
  attention : Bool
deriving DecidableEq, Repr

/-- The Notice Unit after a reset: nothing in the set, every kind enabled, the line released (R197, R199). -/
def NoticeUnit.reset : NoticeUnit where
  set := .none
  mask := .all
  attention := false

/-- The error set (R187). -/
structure ErrSet where
  hdrCorrected : Bool
  hdrFailed : Bool
  payloadCheck : Bool
  length : Bool
  unknownCmd : Bool
  badParam : Bool
  busy : Bool
  notAttached : Bool
  bound : Bool
deriving DecidableEq, Repr

/-- The empty error set. -/
def ErrSet.none : ErrSet := ⟨false, false, false, false, false, false, false, false, false⟩

/-- What taking a command leaves for its answer: the DATA words of a read, the kinds a NOTE.GET removed (R194), the
counters a COUNT.GET is to clear (R196), and whether the command was ENGINE.RESET (R198). -/
structure Reply where
  words : Option (List Word)
  removed : NoticeSet
  clears : Option CountTarget
  engineReset : Bool
deriving DecidableEq, Repr

/-- The reply of a packet that leaves nothing: a write, or a packet refused or not reached. -/
def Reply.plain : Reply where
  words := Option.none
  removed := .none
  clears := Option.none
  engineReset := false

/-- One answer the part sends (R189): each names the command code of the packet it answers. -/
inductive Answer where
  | data (code : Byte) (words : List Word)
  | ack (code : Byte)
  | errorReport (code : Byte) (kinds : ErrSet)
deriving DecidableEq, Repr

/-- The receive state of the Control Link Interface (R182). PAYLOAD holds the answer-wanted flag, command code and word
count of its packet's header; OWED the command code and reply of the packet; ANSWERING the answers it sends. -/
inductive LinkState where
  | idle
  | header
  | payload (wanted : Bool) (code : Byte) (count : Nat)
  | discard
  | owed (code : Byte) (reply : Reply)
  | answering (answers : List Answer) (reply : Reply)
deriving DecidableEq, Repr

/-- The Control Link Interface: receive state with the owed answer, and error set (chapter 10). -/
structure ControlLink where
  rx : LinkState
  errors : ErrSet
deriving DecidableEq, Repr

/-- The Control Link Interface after power-on reset (R199). -/
def ControlLink.reset : ControlLink where
  rx := .idle
  errors := .none

/-! ### The whole part -/

/-- The state of the part. `mix` is the mix block in progress as the Mixer has read it, until its feeds are formed;
`outputsDue` holds, when an ENGINE.RESET has cut the mix block in progress short, the blocks of its destinations, which
they are still to be given when its feeds are formed (R85, R163, R176, R181; notes/assumptions/4.md); `auxOut` the block each aux output last
took; `freeCount` the model's own counter for the free values of Config; `pending` the commands and events waiting, first
in, first out. -/
structure State where
  srcs : Vector Source 80
  feeds : Vector Feed 32
  mute : MuteUnit
  floor : FloorCtl
  banks : BankStore
  xpRamps : Matrix (Option XpRamp)
  pods : Vector Pod 16
  ports : Vector Port 8
  auxOut : Vector Block 8
  mix : Option MixView
  outputsDue : Option BlockOutputs
  notice : NoticeUnit
  ctl : ControlLink
  freeCount : Nat
  pending : List Instr
deriving DecidableEq, Repr

/-- The part after power-on reset (R199), with nothing waiting. -/
def State.reset : State where
  srcs := Vector.replicate 80 .free
  feeds := Vector.replicate 32 (.free 0)
  mute := ⟨0, false⟩
  floor := .reset
  banks := .reset
  xpRamps := Matrix.const Option.none
  pods := Vector.replicate 16 .reset
  ports := Vector.replicate 8 .reset
  auxOut := Vector.replicate 8 silence
  mix := Option.none
  outputsDue := Option.none
  notice := .reset
  ctl := .reset
  freeCount := 0
  pending := []

/-- Why the part stops with a fault: nothing in the spec does, so there is no constructor and nobody raises one. -/
inductive Fault where
deriving DecidableEq, Repr

/-- Why a command has no meaning in the model. -/
inductive Refusal where
  /-- Raised by an arm of Machine/Dispatch.lean whose row has no meaning yet; no arm does. Safe: it stops. -/
  | notModelled (mnemonic : String)
deriving DecidableEq, Repr

end Sys2Proof.Machine
end

