-- ==== Sys2Proof/Machine/Ops.lean ====
section
/-! DEFINITION. The named operations over the part's registers: clamps and counters, reads and writes of records, and
the readings of the Bank Store's operating and edit banks. -/

namespace Sys2Proof.Machine

/-! ### Clamps and counters -/

/-- A value outside the range is replaced by the nearest end of that range (scope section 5.2). -/
def clampInt (lo hi v : Int) : Int := max lo (min hi v)

/-- A gain index brought into -192 to +24 (R101). -/
def clampGain (v : Int) : Int := clampInt (-192) 24 v

/-- A source trim, clamped to -120 to +24 (R101). -/
def clampTrim (v : Int) : Int := clampInt (-120) 24 v

/-- A 16-bit counter raised by `k`, stopping at 65 535 (scope section 5.6). -/
def raise (c k : Nat) : Nat := min 65535 (c + k)

/-! ### Records -/

/-- The source records with the one of slot `i` replaced. -/
def State.setSrc (s : State) (i : SrcSlot) (x : Source) : State := { s with srcs := s.srcs.set i x }

/-- Every source record replaced by a function of its slot and itself. -/
def State.mapSrcs (s : State) (f : SrcSlot → Source → Source) : State :=
  { s with srcs := Vector.ofFn fun i => f i s.srcs[i] }

/-- The feed records with the one of slot `f` replaced. -/
def State.setFeed (s : State) (f : FeedSlot) (x : Feed) : State := { s with feeds := s.feeds.set f x }

/-- Every feed record replaced by a function of its slot and itself. -/
def State.mapFeeds (s : State) (g : FeedSlot → Feed → Feed) : State :=
  { s with feeds := Vector.ofFn fun f => g f s.feeds[f] }

/-- The pod link records with the one of link `l` replaced. -/
def State.setPod (s : State) (l : PodLink) (x : Pod) : State := { s with pods := s.pods.set l x }

/-- The far-end port records with the one of port `p` replaced. -/
def State.setPort (s : State) (p : FarPort) (x : Port) : State := { s with ports := s.ports.set p x }

/-- A matrix of values given pair by pair. -/
def Matrix.ofFn {α : Type} (g : FeedSlot → SrcSlot → α) : Matrix α :=
  Vector.ofFn fun f => Vector.ofFn fun i => g f i

/-- A matrix with the value of one pair replaced. -/
def Matrix.put {α : Type} (m : Matrix α) (f : FeedSlot) (i : SrcSlot) (x : α) : Matrix α :=
  m.set f (m[f].set i x)

/-- Every source slot, in order. -/
def srcSlots : List SrcSlot := List.finRange 80

/-- Every feed slot, in order. -/
def feedSlots : List FeedSlot := List.finRange 32

/-! ### The operating and the edit bank (R123) -/

/-- The bank of a name. -/
def BankStore.bank (b : BankStore) : BankName → Bank
  | .a => b.a
  | .b => b.b

/-- The other bank's name. -/
def otherBank : BankName → BankName
  | .a => .b
  | .b => .a

/-- The operating bank (R123). -/
def BankStore.opBank (b : BankStore) : Bank := b.bank b.operating

/-- The edit bank: the one that is not operating (R123). -/
def BankStore.editBank (b : BankStore) : Bank := b.bank (otherBank b.operating)

/-- The Bank Store with its edit bank replaced. -/
def BankStore.setEdit (b : BankStore) (x : Bank) : BankStore :=
  match b.operating with
  | .a => { b with b := x }
  | .b => { b with a := x }

/-- The floor parameters in use: those of the operating bank (R21, R123). -/
def State.params (s : State) : Params := s.banks.opBank.params

/-! ### Readings of a source record -/

/-- A source of a floor class: CHAIR or DELEGATE (R5). -/
def Source.floorClass (x : Source) : Bool := x.cls == some .chair || x.cls == some .delegate

/-- A source of class CHAIR. -/
def Source.isChair (x : Source) : Bool := x.cls == some .chair

/-- A source of class DELEGATE. -/
def Source.isDelegate (x : Source) : Bool := x.cls == some .delegate

/-- An ACTIVE source. -/
def Source.isActive (x : Source) : Bool := x.state == .active

/-- A non-FREE source. -/
def Source.inUse (x : Source) : Bool := x.state != .free

/-- A source whose origin is an element of pod l (R42). -/
def Source.onPod (x : Source) (l : PodLink) : Bool :=
  match x.origin with
  | some (.pod l' _) => l' == l
  | _ => false

/-- A floor state that gates the source open: OPEN, HOLD, LAST, or UNGATED (R75, R102). -/
def gateOpen : Option FloorState → Bool
  | some .closed => false
  | some .pending => false
  | _ => true

/-- HOLD, with any count. -/
def isHold : Option FloorState → Bool
  | some (.hold _) => true
  | _ => false

/-- A feed slot that is ACTIVE or RETIRING. -/
def Feed.inUse (x : Feed) : Bool := x.state != .free

end Sys2Proof.Machine
end

