-- ==== Sys2Proof/Machine/Flags.lean ====
section
/-! DEFINITION. The flags of the part: the notice set with the attention line that follows it, the error set, their
encodings (R206), and the indicator codes. -/

namespace Sys2Proof.Machine

/-! ### Notice kinds (R192, R193, R206) -/

/-- The set with a kind added; a kind already there changes nothing (R192). -/
def NoticeSet.add (n : NoticeSet) : NoticeKind → NoticeSet
  | .podLink => { n with podLink := true }
  | .privacy => { n with privacy := true }
  | .button => { n with button := true }
  | .talkMuted => { n with talkMuted := true }
  | .floor => { n with floor := true }
  | .slip => { n with slip := true }
  | .clip => { n with clip := true }
  | .swapDone => { n with swapDone := true }

/-- Whether a kind stands in the set. -/
def NoticeSet.has (n : NoticeSet) : NoticeKind → Bool
  | .podLink => n.podLink
  | .privacy => n.privacy
  | .button => n.button
  | .talkMuted => n.talkMuted
  | .floor => n.floor
  | .slip => n.slip
  | .clip => n.clip
  | .swapDone => n.swapDone

/-- The kinds of either set. -/
def NoticeSet.union (n m : NoticeSet) : NoticeSet where
  podLink := n.podLink || m.podLink
  privacy := n.privacy || m.privacy
  button := n.button || m.button
  talkMuted := n.talkMuted || m.talkMuted
  floor := n.floor || m.floor
  slip := n.slip || m.slip
  clip := n.clip || m.clip
  swapDone := n.swapDone || m.swapDone

/-- The set holds at least one kind that the mask enables (R193). -/
def NoticeSet.meets (n mask : NoticeSet) : Bool :=
  n.podLink && mask.podLink || n.privacy && mask.privacy || n.button && mask.button
    || n.talkMuted && mask.talkMuted || n.floor && mask.floor || n.slip && mask.slip
    || n.clip && mask.clip || n.swapDone && mask.swapDone

/-- The word of a notice set, one bit per kind (R206). -/
def NoticeSet.toWord (n : NoticeSet) : Word :=
  BitVec.ofNat 16 (n.podLink.toNat + 2 * n.privacy.toNat + 4 * n.button.toNat + 8 * n.talkMuted.toNat
    + 16 * n.floor.toNat + 32 * n.slip.toNat + 64 * n.clip.toNat + 128 * n.swapDone.toNat)

/-- The notice mask of a byte: 1 enables the kind (R206). -/
def NoticeSet.ofByte (b : Byte) : NoticeSet where
  podLink := b.getLsbD 0
  privacy := b.getLsbD 1
  button := b.getLsbD 2
  talkMuted := b.getLsbD 3
  floor := b.getLsbD 4
  slip := b.getLsbD 5
  clip := b.getLsbD 6
  swapDone := b.getLsbD 7

/-- The Notice Unit with its set replaced, the attention line following at once (R193). -/
def NoticeUnit.withSet (u : NoticeUnit) (n : NoticeSet) : NoticeUnit where
  set := n
  mask := u.mask
  attention := n.meets u.mask

/-- The Notice Unit with its mask replaced, the attention line following at once (R193, R195). -/
def NoticeUnit.withMask (u : NoticeUnit) (m : NoticeSet) : NoticeUnit where
  set := u.set
  mask := m
  attention := u.set.meets m

/-- A notice kind added by the block that raises it (R192). -/
def State.addNotice (s : State) (k : NoticeKind) : State :=
  { s with notice := s.notice.withSet (s.notice.set.add k) }

/-- A notice kind added when a condition holds. -/
def State.addNoticeIf (s : State) (c : Bool) (k : NoticeKind) : State := if c then s.addNotice k else s

/-! ### Error kinds (R187, R206) -/

/-- The set with a kind added; a kind already there changes nothing (R187). -/
def ErrSet.add (e : ErrSet) : ErrKind → ErrSet
  | .hdrCorrected => { e with hdrCorrected := true }
  | .hdrFailed => { e with hdrFailed := true }
  | .payloadCheck => { e with payloadCheck := true }
  | .length => { e with length := true }
  | .unknownCmd => { e with unknownCmd := true }
  | .badParam => { e with badParam := true }
  | .busy => { e with busy := true }
  | .notAttached => { e with notAttached := true }
  | .bound => { e with bound := true }

/-- Whether a kind stands in the set. -/
def ErrSet.has (e : ErrSet) : ErrKind → Bool
  | .hdrCorrected => e.hdrCorrected
  | .hdrFailed => e.hdrFailed
  | .payloadCheck => e.payloadCheck
  | .length => e.length
  | .unknownCmd => e.unknownCmd
  | .badParam => e.badParam
  | .busy => e.busy
  | .notAttached => e.notAttached
  | .bound => e.bound

/-- The word of an error set, one bit per kind (R206). -/
def ErrSet.toWord (e : ErrSet) : Word :=
  BitVec.ofNat 16 (e.hdrCorrected.toNat + 2 * e.hdrFailed.toNat + 4 * e.payloadCheck.toNat + 8 * e.length.toNat
    + 16 * e.unknownCmd.toNat + 32 * e.badParam.toNat + 64 * e.busy.toNat + 128 * e.notAttached.toNat
    + 256 * e.bound.toNat)

/-- An error kind added to the error set (R187). -/
def State.addError (s : State) (k : ErrKind) : State :=
  { s with ctl := { s.ctl with errors := s.ctl.errors.add k } }

/-! ### Indicator codes (R53, R207) -/

/-- The value of an indicator code (R207). -/
def Indicator.toNat : Indicator → Nat
  | .dark => 0
  | .priv => 1
  | .alert => 2
  | .muted => 3
  | .live => 4
  | .waiting => 5
  | .idle => 6

/-- The code of an ACTIVE source of a pod whose held privacy is given (R53, lines 2 to 7). -/
def indicatorOf (heldPrivacy : Bool) (x : Source) : Indicator :=
  if heldPrivacy then .priv
  else if x.alert then .alert
  else if x.effMute then .muted
  else match x.floorState with
    | some .opened => .live
    | some (.hold _) => .live
    | some .last => .live
    | some .pending => .waiting
    | _ => .idle

/-- The indicator code of element e of pod l from the records as they stand (R53): DARK when no ACTIVE source has
origin POD(l,e). -/
def indicatorAt (s : State) (l : PodLink) (e : Element) : Indicator :=
  match srcSlots.find? (fun i => s.srcs[i].isActive && s.srcs[i].origin == some (.pod l e)) with
  | some i => indicatorOf s.pods[l].privacy s.srcs[i]
  | none => .dark

end Sys2Proof.Machine
end

