-- ==== Sys2Proof/Machine/Operands.lean ====
section
/-! DEFINITION. The operand forms of the commands: slot, link, port, group, bank, order and count numbers, origin and
destination codes (R204), the slot checks that several commands share, and the packing of answer words (R205). -/

namespace Sys2Proof.Machine

/-! ### Numbers and codes (R204); none for a code that names nothing (R200) -/

/-- A number below n, as named by a byte. -/
def numberBelow (n : Nat) (b : Byte) : Option (Fin n) := if h : b.toNat < n then some ⟨b.toNat, h⟩ else none

/-- An origin code: 4l + e, 64 + p, 72 + a; codes 80 to 127 name nothing (R204). -/
def originOfCode (c : BitVec 7) : Option Origin :=
  if c.toNat < 64 then some (.pod ⟨c.toNat / 4 % 16, Nat.mod_lt _ (by decide)⟩ ⟨c.toNat % 4, Nat.mod_lt _ (by decide)⟩)
  else if c.toNat < 72 then some (.far ⟨c.toNat % 8, Nat.mod_lt _ (by decide)⟩)
  else if c.toNat < 80 then some (.aux ⟨c.toNat % 8, Nat.mod_lt _ (by decide)⟩)
  else none

/-- The code of an origin (R204). -/
def originCode : Origin → Nat
  | .pod l e => 4 * l.val + e.val
  | .far p => 64 + p.val
  | .aux a => 72 + a.val

/-- A destination code: l, 16 + p, 24 + a; codes 32 to 255 name nothing (R204). -/
def destOfCode (c : Byte) : Option Destination :=
  if c.toNat < 16 then some (.podSpk ⟨c.toNat % 16, Nat.mod_lt _ (by decide)⟩)
  else if c.toNat < 24 then some (.farSend ⟨c.toNat % 8, Nat.mod_lt _ (by decide)⟩)
  else if c.toNat < 32 then some (.auxOut ⟨c.toNat % 8, Nat.mod_lt _ (by decide)⟩)
  else none

/-- The code of a destination (R204). -/
def destCode : Destination → Nat
  | .podSpk l => l.val
  | .farSend p => 16 + p.val
  | .auxOut a => 24 + a.val

/-- A bank code: 0 A, 1 B (R204). -/
def bankOfCode (c : Byte) : Option BankName :=
  match c.toNat with
  | 0 => some .a
  | 1 => some .b
  | _ => none

/-- An order code: 0 FEED-MAJOR, 1 SOURCE-MAJOR (R204). -/
def orderOfCode (c : Word) : Option WalkOrder :=
  match c.toNat with
  | 0 => some .feedMajor
  | 1 => some .sourceMajor
  | _ => none

/-- A parameter identifier, 1 to 14 (R204). -/
def paramOfId (w : Word) : Option ParamId :=
  match w.toNat with
  | 1 => some .maxOpen
  | 2 => some .holdBlocks
  | 3 => some .lastMic
  | 4 => some .nomOn
  | 5 => some .margin
  | 6 => some .hysteresis
  | 7 => some .voiceFloor
  | 8 => some .closedAtten
  | 9 => some .admitBurst
  | 10 => some .admitWindow
  | 11 => some .twmBlocks
  | 12 => some .attackShift
  | 13 => some .releaseShift
  | 14 => some .creepBlocks
  | _ => none

/-- A COUNT.GET target kind and number (R196, R204). -/
def countTargetOf (kind number : Byte) : Option CountTarget :=
  match kind.toNat with
  | 0 => (numberBelow 16 number).map .podLink
  | 1 => (numberBelow 8 number).map .farPort
  | 2 => (numberBelow 32 number).map .feed
  | _ => none

/-- The class an origin and a chair flag give (R5); none where R5 refuses. -/
def classOf (o : Origin) (chair : Bool) : Option SrcClass :=
  match o, chair with
  | .pod _ _, false => some .delegate
  | .pod _ _, true => some .chair
  | .far _, false => some .remote
  | .aux _, false => some .program
  | .far _, true => none
  | .aux _, true => none

/-! ### Slot checks -/

/-- The slot of a command that needs an ACTIVE source: BAD_PARAM outside 0 to 79, NOT_ATTACHED for a FREE slot, BUSY
for a RETIRING one (the table of section 1.4, R13). -/
def activeSrc (slot : Byte) (s : State) : Except ErrKind SrcSlot :=
  match numberBelow 80 slot with
  | none => .error .badParam
  | some i =>
    match s.srcs[i].state with
    | .free => .error .notAttached
    | .retiring => .error .busy
    | .active => .ok i

/-- The slot of a command that needs an ACTIVE feed (the table of section 5.4, R92). -/
def activeFeed (slot : Byte) (s : State) : Except ErrKind FeedSlot :=
  match numberBelow 32 slot with
  | none => .error .badParam
  | some f =>
    match s.feeds[f].state with
    | .free => .error .notAttached
    | .retiring => .error .busy
    | .active => .ok f

/-- An origin held by an ACTIVE or RETIRING record, in any slot (R6). -/
def originHeld (s : State) (o : Origin) : Bool :=
  srcSlots.any fun i => s.srcs[i].inUse && s.srcs[i].origin == some o

/-- A destination held by an ACTIVE or RETIRING record, in any slot (R87). -/
def destHeld (s : State) (d : Destination) : Bool :=
  feedSlots.any fun f => s.feeds[f].inUse && s.feeds[f].dest == some d

/-! ### Answer words (R205) -/

/-- A word from a number. -/
def natWord (n : Nat) : Word := BitVec.ofNat 16 n

/-- A gain as a signed word (R205). -/
def gainWord (v : Int) : Word := BitVec.ofInt 16 v

/-- A word of a high and a low byte, given as numbers. -/
def bytesWord (hi lo : Nat) : Word := natWord (hi * 256 + lo)

/-- The code of a lifecycle state (R205). -/
def Lifecycle.code : Lifecycle → Nat
  | .free => 0
  | .active => 1
  | .retiring => 2

/-- The code of a class (R205). -/
def SrcClass.code : SrcClass → Nat
  | .chair => 0
  | .delegate => 1
  | .remote => 2
  | .program => 3

/-- The code of a floor state (R205). -/
def FloorState.code : FloorState → Nat
  | .closed => 0
  | .pending => 1
  | .opened => 2
  | .hold _ => 3
  | .last => 4
  | .ungated => 5

/-- The code of a framing state (R205). -/
def Framing.code : Framing → Nat
  | .hunt => 0
  | .presync => 1
  | .sync => 2

/-- The code of a port state (R205). -/
def PortState.code : PortState → Nat
  | .down => 0
  | .priming => 1
  | .running => 2

/-- The code of a swap state (R205). -/
def SwapState.code : SwapState → Nat
  | .settled => 0
  | .swapPending => 1
  | .ramping => 2

/-- The code of a bank (R204, R205). -/
def bankCode : BankName → Nat
  | .a => 0
  | .b => 1

end Sys2Proof.Machine
end

