-- ==== Sys2Proof/Machine/Packets.lean ====
section
/-! DEFINITION. What every packet of the control link shares (R182, R186 to R191): its start, the taking or refusing of
its command, and the answer it owes. -/

namespace Sys2Proof.Machine

/-- What becomes of a command when its own checks are made (R186): refused with one kind and no other effect, or
taken, with what it leaves for its answer and the state it leaves. -/
inductive Taken where
  | refused (k : ErrKind)
  | taken (r : Reply) (s : State)
deriving DecidableEq, Repr

/-- A write taken. -/
def Taken.write (s : State) : Taken := .taken .plain s

/-- A read taken: its DATA words, from the state as it stands (R186). -/
def Taken.read (ws : List Word) (s : State) : Taken := .taken { Reply.plain with words := some ws } s

/-- An owed answer abandoned (R191): the kinds a NOTE.GET removed return to the notice set (R194), an ENGINE.RESET's
error set is emptied (R198), no counter is cleared (R196). -/
def abandon (r : Reply) (s : State) : State :=
  { s with
    notice := s.notice.withSet (s.notice.set.union r.removed)
    ctl := { s.ctl with errors := if r.engineReset then .none else s.ctl.errors } }

/-- A packet start in every state in which the host owns the line (R182): an owed answer is abandoned (R191), a packet
cut short in PAYLOAD adds LENGTH (R185). In ANSWERING the part owns the line and nothing is received (R190). -/
def openPacket (s : State) : State :=
  match s.ctl.rx with
  | .answering _ _ => s
  | .owed _ r =>
    let s := abandon r s
    { s with ctl := { s.ctl with rx := .header } }
  | .payload _ _ _ =>
    let s := s.addError .length
    { s with ctl := { s.ctl with rx := .header } }
  | _ => { s with ctl := { s.ctl with rx := .header } }

/-- The interface once a packet has been judged (R186, R188): OWED when its answer is owed, because the answer-wanted
flag is set or the code names a read, and IDLE otherwise. An ENGINE.RESET that owes no answer empties the error
set (R198). -/
def owe (code : Byte) (wanted : Bool) (r : Reply) (s : State) : State :=
  if wanted || readCode code then { s with ctl := { s.ctl with rx := .owed code r } }
  else { s with ctl := { rx := .idle, errors := if r.engineReset then .none else s.ctl.errors } }

/-- A packet judged: a refused one adds its kind to the error set and has no other effect (R186, R187). -/
def settle (code : Byte) (wanted : Bool) (s : State) : Taken → State
  | .refused k => owe code wanted .plain (s.addError k)
  | .taken r s' => owe code wanted r s'

/-- A host command's whole packet, in its right form, with correct checks and the answer-wanted flag clear: its start,
then its taking or refusing. While the part owns the line it is not received (R190). -/
def hostPacket (code : Byte) (take : State → Taken) (s : State) : State :=
  match s.ctl.rx with
  | .answering _ _ => s
  | _ => settle code false (openPacket s) (take (openPacket s))

end Sys2Proof.Machine
end

