-- ==== Sys2Proof/Machine/Ramps.lean ====
section
/-! DEFINITION. The ramp unit (chapter 6, sections 6.2 and 6.3): targets and their composition, ramps and their steps,
and the retargeting at the end of an event. -/

namespace Sys2Proof.Machine

/-! ### Ramps (R105 to R108) -/

/-- The duration of a ramp from the magnitude of its difference: 1 to 2, 3 to 12, 13 to 216 (R106). -/
def rampDuration (diff : Nat) : Nat := if diff ≤ 2 then 1 else if diff ≤ 12 then 4 else 16

/-- The value a ramp from `a` to `b` over `d` blocks uses in its block `j`: A + trunc((B - A) j / D) (R107). -/
def rampUsed (a b : Int) (j d : Nat) : Int := a + ((b - a) * j).tdiv d

/-- A new ramp record from the current gain toward `b`, with 0 blocks done (R105, R106). -/
def GainUnit.rampTo (g : GainUnit) (b : Int) : GainUnit where
  current := g.current
  target := b
  ramp := some ⟨g.current, rampDuration (b - g.current).natAbs, 0⟩

/-- A target handed to the ramp unit (R105): nothing when it is the target held; otherwise the new target, with no
ramp record when it equals the current gain and a new one when it does not. -/
def GainUnit.hand (g : GainUnit) (b : Int) : GainUnit :=
  if b = g.target then g
  else if b = g.current then { g with target := b, ramp := none }
  else g.rampTo b

/-- The step of a block's start: the current gain becomes the used value and the blocks done rise by one (R107). A
record that has used its last step has no further one. -/
def GainUnit.step (g : GainUnit) : GainUnit :=
  match g.ramp with
  | some r =>
    if r.done < r.duration then
      { current := rampUsed r.start g.target (r.done + 1) r.duration
        target := g.target
        ramp := some { r with done := r.done + 1 } }
    else g
  | none => g

/-- A ramp record that has used its last step is removed at the end of the block (R107). -/
def GainUnit.finish (g : GainUnit) : GainUnit :=
  match g.ramp with
  | some r => if r.duration ≤ r.done then { g with ramp := none } else g
  | none => g

/-- The fade of a RETIRING slot has used its last value: the current gain is OFF and no step is left (R11, R91). -/
def GainUnit.fadedOut (g : GainUnit) : Bool :=
  g.current == off && (match g.ramp with
    | some r => decide (r.duration ≤ r.done)
    | none => true)

/-- A crosspoint ramp's step (R110: "The crosspoint ramps step under R107"). -/
def XpRamp.step (r : XpRamp) : XpRamp := if r.done < r.duration then { r with done := r.done + 1 } else r

/-- The used crosspoint of a pair: the step of its ramp when one is present, and otherwise the value the operating bank
holds (R110). -/
def usedCrosspoint (held : Int) : Option XpRamp → Int
  | some r => rampUsed r.start r.target r.done r.duration
  | none => held

/-- A crosspoint ramp that has used its last step is removed (R111). -/
def XpRamp.finish (r : Option XpRamp) : Option XpRamp :=
  match r with
  | some x => if x.duration ≤ x.done then none else r
  | none => none

/-! ### The source target (R75, R102) -/

/-- NOM(n), in half-decibels, for n from 0 to 8 (R75). -/
def nom (n : Nat) : Int := [0, 0, 6, 10, 12, 14, 16, 17, 18].getD n 18

/-- The gate attenuation: 0 when gated open, ClosedAtten when CLOSED or PENDING (R75). -/
def gateAttenuation (p : Params) (f : Option FloorState) : Int := if gateOpen f then 0 else p.closedAtten

/-- The NOM attenuation: NOM(n) for a floor class while NomOn is on, 0 otherwise (R75, R102). -/
def nomAttenuation (p : Params) (n : Nat) (x : Source) : Int := if x.floorClass && p.nomOn then nom n else 0

/-- The target gain of a source (R102): OFF when it is effectively muted or not ACTIVE, and otherwise trim - gate
attenuation - NOM attenuation, clamped to -192 to +24. -/
def composeTarget (p : Params) (n : Nat) (x : Source) : Int :=
  if x.effMute || !x.isActive then off
  else clampGain (x.trim - gateAttenuation p x.floorState - nomAttenuation p n x)

/-- A source's target composed again and handed to the ramp unit (R103, R105). -/
def retarget (s : State) (x : Source) : Source :=
  { x with gain := x.gain.hand (composeTarget s.params s.floor.list.length x) }

/-- The target of one source composed again. -/
def retargetAt (i : SrcSlot) (s : State) : State := s.setSrc i (retarget s s.srcs[i])

/-- Every ACTIVE floor-class source's target composed again (R82, R103: FLOOR.RESET and the swap effect). -/
def retargetFloor (s : State) : State :=
  s.mapSrcs fun _ x => if x.isActive && x.floorClass then retarget s x else x

/-- Whether an event hands a source on to the ramp unit at its end (R76, R103): its effective mute changed, or it is an
ACTIVE floor-class source and the NOM count or its gate changed. -/
def handedOn (before s : State) (i : SrcSlot) : Bool :=
  let x := s.srcs[i]
  let x0 := before.srcs[i]
  x.isActive && (x.effMute != x0.effMute
    || x.floorClass && (s.floor.list.length != before.floor.list.length
        || gateOpen x.floorState != gateOpen x0.floorState))

/-- FLOOR set when the membership or the order of the floor list or of the pending queue changed (R80). -/
def noteFloor (before s : State) : State :=
  s.addNoticeIf (s.floor.list != before.floor.list || s.floor.chairs != before.floor.chairs
    || s.floor.delegates != before.floor.delegates) .floor

/-- The end of an event that began in `before`: the targets are handed on once, from the state the whole event has
left, and FLOOR is set once (R76, R80, R103). -/
def finishEvent (before s : State) : State :=
  (noteFloor before s).mapSrcs fun i x => if handedOn before s i then retarget s x else x

end Sys2Proof.Machine
end

