-- ==== Sys2Proof/Machine/Floor.lean ====
section
/-! DEFINITION. The Floor Controller (chapter 4): stamps, admission, eviction, pending service, holds, removals, and its
work at a block start and at a swap effect. -/

namespace Sys2Proof.Machine

/-! ### Floor states and collections -/

/-- The floor state of a source (R56). -/
def State.floorState (s : State) (i : SrcSlot) : Option FloorState := s.srcs[i].floorState

/-- A source's floor state replaced. -/
def State.setFloorState (s : State) (i : SrcSlot) (f : FloorState) : State :=
  s.setSrc i { s.srcs[i] with floorState := some f }

/-- A source taken out of the floor list and of both parts of the pending queue; the entries behind it close up (R57). -/
def FloorCtl.without (c : FloorCtl) (i : SrcSlot) : FloorCtl where
  list := c.list.erase i
  chairs := c.chairs.erase i
  delegates := c.delegates.erase i
  stamps := c.stamps
  block := c.block

/-- A source taken out of the collections and made CLOSED; its hold count goes with its floor state (R69 step 1). -/
def closeSource (i : SrcSlot) (s : State) : State :=
  { s with floor := s.floor.without i }.setFloorState i .closed

/-- A source joins the tail of its class part of the pending queue as PENDING (R58). -/
def joinTail (i : SrcSlot) (s : State) : State :=
  let c := s.floor
  let c := if s.srcs[i].isChair then { c with chairs := c.chairs ++ [i] } else { c with delegates := c.delegates ++ [i] }
  { s with floor := c }.setFloorState i .pending

/-- An OPEN member leaves the floor list for the head of its class part of the pending queue as PENDING (R58). -/
def moveToHead (i : SrcSlot) (s : State) : State :=
  let c := s.floor.without i
  let c := if s.srcs[i].isChair then { c with chairs := i :: c.chairs } else { c with delegates := i :: c.delegates }
  { s with floor := c }.setFloorState i .pending

/-- The head of the pending queue: the first CHAIR entry, or else the first DELEGATE entry (R58). -/
def FloorCtl.queueHead (c : FloorCtl) : Option SrcSlot :=
  match c.chairs with
  | i :: _ => some i
  | [] => c.delegates.head?

/-- The pending queue is empty. -/
def FloorCtl.queueEmpty (c : FloorCtl) : Bool := c.chairs.isEmpty && c.delegates.isEmpty

/-! ### Admission stamps (R59) -/

/-- The age of the block number since a stamp, modulo 2^32 (R59). -/
def stampAge (c : FloorCtl) (t : Stamp) : Nat := (c.block - t.block).toNat

/-- The number of live stamps (R59). -/
def FloorCtl.liveStamps (c : FloorCtl) : Nat := (c.stamps.filter (·.live)).length

/-- The admission window is exhausted: at least AdmitBurst stamps are live (R59). -/
def windowExhausted (s : State) : Bool := decide (s.params.admitBurst ≤ s.floor.liveStamps)

/-- The stamp of an admission: the block number as it stands, appended at the tail; the oldest stamp is dropped when the
list already holds AdmitBurst (R59). -/
def pushStamp (s : State) : State :=
  let c := s.floor
  { s with floor := { c with stamps := c.stamps.drop (c.stamps.length + 1 - s.params.admitBurst) ++ [⟨c.block, true⟩] } }

/-- A live stamp whose age has reached AdmitWindow (R59, R77). -/
def stampExpired (s : State) (t : Stamp) : Bool := t.live && decide (s.params.admitWindow ≤ stampAge s.floor t)

/-- Some live stamp has reached AdmitWindow. -/
def stampDue (s : State) : Bool := s.floor.stamps.any (stampExpired s)

/-- Stamps that have reached AdmitWindow stop being live; they stay in the list, and one not live stays so (R59). -/
def expireStamps (s : State) : State :=
  { s with floor := { s.floor with
      stamps := s.floor.stamps.map fun t => if stampExpired s t then { t with live := false } else t } }

/-! ### Admission (R62 to R65) -/

/-- The member a full floor gives up to an attempt: a LAST member, or else the oldest HOLD member, or else, for a CHAIR,
the oldest OPEN DELEGATE (R62 steps 3 and 4, R63 steps 2 to 4). -/
def evictee (chair : Bool) (s : State) : Option SrcSlot :=
  (s.floor.list.find? fun i => s.floorState i == some .last)
    <|> (s.floor.list.find? fun i => isHold (s.floorState i))
    <|> (if chair then s.floor.list.find? fun i => s.floorState i == some .opened && s.srcs[i].isDelegate else none)

/-- A member evicted: an OPEN DELEGATE goes PENDING to the head of the delegate part, a LAST or HOLD member becomes
CLOSED (R64 step 1). -/
def evict (i : SrcSlot) (s : State) : State :=
  if s.floorState i == some .opened then moveToHead i s else closeSource i s

/-- An admission, with the member it evicts (R64). -/
def admitSource (i : SrcSlot) (e : Option SrcSlot) (s : State) : State :=
  let s := match e with
    | some e => evict e s
    | none => s
  let c := s.floor.without i
  pushStamp ({ s with floor := { c with list := c.list ++ [i] } }.setFloorState i .opened)

/-- An admission attempt, for a DELEGATE under R62 and for a CHAIR under R63; none when it fails. -/
def tryAdmit (i : SrcSlot) (s : State) : Option State :=
  let chair := s.srcs[i].isChair
  if !chair && windowExhausted s then none
  else if s.floor.list.length < s.params.maxOpen then some (admitSource i none s)
  else match evictee chair s with
    | some e => some (admitSource i (some e) s)
    | none => none

/-- An attempt from CLOSED: a failed one places the source in the queue (R62, R63). -/
def attempt (i : SrcSlot) (s : State) : State := (tryAdmit i s).getD (joinTail i s)

/-- Pending service: the head of the queue is tried until a try fails or the queue is empty, `fuel` tries at most
(R65). -/
def serve : Nat → State → State
  | 0, s => s
  | fuel + 1, s =>
    match s.floor.queueHead with
    | none => s
    | some i =>
      match tryAdmit i s with
      | some s' => serve fuel s'
      | none => s

/-- As many tries as one pending service can need: every admission takes a chair out of the queue, putting at most one
delegate in, or takes a delegate out (R65: "It always ends"). -/
def serveFuel (c : FloorCtl) : Nat := 2 * c.chairs.length + c.delegates.length

/-- One pending service (R65). -/
def pendingService (s : State) : State := serve (serveFuel s.floor) s

/-- Pending service when the event asks for it. -/
def serviceIf (b : Bool) (s : State) : State := if b then pendingService s else s

/-! ### Removal (R69) and the end of a hold (R67) -/

/-- A source removed from the collection it stands in; the flag says whether the floor list became shorter. A source in
neither collection is left as it is (R69). -/
def removeSource (i : SrcSlot) (s : State) : State × Bool :=
  if s.floor.list.contains i then (closeSource i s, true)
  else if s.floor.chairs.contains i || s.floor.delegates.contains i then (closeSource i s, false)
  else (s, false)

/-- Several sources removed within one event; the flag says whether the floor list became shorter (R69). -/
def removeSources (is : List SrcSlot) (s : State) : State × Bool :=
  is.foldl (fun (a : State × Bool) i => ((removeSource i a.1).1, a.2 || (removeSource i a.1).2)) (s, false)

/-- A hold expires: the one member of the floor becomes LAST when LastMic is on and the queue is empty, and otherwise
the member leaves the floor list as CLOSED; the flag says whether it left (R67). -/
def expireHold (i : SrcSlot) (s : State) : State × Bool :=
  if s.params.lastMic && s.floor.list == [i] && s.floor.queueEmpty then (s.setFloorState i .last, false)
  else (closeSource i s, true)

/-! ### What a measurement does at the floor (R60, R66, R67) -/

/-- The Floor Controller's action on the voice state handed to it for an ACTIVE floor-class source (the table of R60),
with the pending service it makes (R65, R66, R69). -/
def floorAction (i : SrcSlot) (s : State) : State :=
  let x := s.srcs[i]
  match x.floorState, x.voice with
  | some .closed, .voiced => if x.effMute then s else attempt i s
  | some .pending, .quiet => closeSource i s
  | some .opened, .quiet =>
    if s.params.holdBlocks = 0 then
      let (s', shorter) := expireHold i s
      serviceIf shorter s'
    else serviceIf (!s.floor.queueEmpty) (s.setFloorState i (.hold s.params.holdBlocks))
  | some (.hold _), .voiced => s.setFloorState i .opened
  | some (.hold c), .quiet =>
    if c ≤ 1 then
      let (s', shorter) := expireHold i s
      serviceIf shorter s'
    else s.setFloorState i (.hold (c - 1))
  | some .last, .voiced => s.setFloorState i .opened
  | _, _ => s

/-- The handover at the end of a measurement: acted on for an ACTIVE CHAIR or DELEGATE source alone (R27, R60). -/
def floorHandover (i : SrcSlot) (s : State) : State :=
  if s.srcs[i].isActive && s.srcs[i].floorClass then floorAction i s else s

/-! ### The block start and the swap effect (R77, R78) -/

/-- The Floor Controller's own work when stamps have stopped being live: pending service once, targets, FLOOR (R77). -/
def stampService (s : State) : State :=
  if stampDue s then finishEvent s (pendingService (expireStamps s)) else s

/-- R78 step 1: when LastMic is off, a LAST member is removed and becomes CLOSED. -/
def swapLast (s : State) : State :=
  if s.params.lastMic then s
  else match s.floor.list.find? fun i => s.floorState i == some .last with
    | some i => closeSource i s
    | none => s

/-- A hold count lowered to HoldBlocks (R78 step 2). -/
def lowerHold (h : Nat) : Option FloorState → Option FloorState
  | some (.hold c) => some (.hold (min c h))
  | f => f

/-- R78 step 2: every hold count lowered to HoldBlocks, and each hold that is thereby 0 expired, the oldest first. -/
def swapHolds (s : State) : State :=
  let s := s.mapSrcs fun _ x => { x with floorState := lowerHold s.params.holdBlocks x.floorState }
  s.floor.list.foldl (fun s' i => if s'.floorState i == some (.hold 0) then (expireHold i s').1 else s') s

/-- The member a floor longer than MaxOpen gives up: LAST, then HOLD oldest first, then OPEN DELEGATE newest first, then
OPEN CHAIR newest first (R78 step 3). -/
def surplus (s : State) : Option SrcSlot :=
  (s.floor.list.find? fun i => s.floorState i == some .last)
    <|> (s.floor.list.find? fun i => isHold (s.floorState i))
    <|> (s.floor.list.reverse.find? fun i => s.floorState i == some .opened && s.srcs[i].isDelegate)
    <|> (s.floor.list.reverse.find? fun i => s.floorState i == some .opened && s.srcs[i].isChair)

/-- R78 step 3: members removed while the floor list is longer than MaxOpen. -/
def shrinkFloor : Nat → State → State
  | 0, s => s
  | fuel + 1, s =>
    if s.floor.list.length ≤ s.params.maxOpen then s
    else match surplus s with
      | some i => shrinkFloor fuel (evict i s)
      | none => s

/-- R78 step 4: the oldest stamps dropped until the list holds AdmitBurst. -/
def swapStamps (s : State) : State :=
  { s with floor := { s.floor with stamps := s.floor.stamps.drop (s.floor.stamps.length - s.params.admitBurst) } }

/-- R78 steps 1 to 4, under the parameters of the new operating bank. -/
def floorSwap (s : State) : State :=
  let s := swapHolds (swapLast s)
  swapStamps (shrinkFloor s.floor.list.length s)

/-- The whole of the Floor Controller's work at a swap effect: R78, the liveness of the stamps under the new
AdmitWindow, pending service once, the targets of every ACTIVE floor-class source, and FLOOR (R77, R78, R103). -/
def floorSwapWork (s : State) : State :=
  retargetFloor (noteFloor s (pendingService (expireStamps (floorSwap s))))

/-! ### FLOOR.GET and FLOOR.RESET (R81, R82) -/

/-- The words of a FLOOR.GET (R81, R205). Bits 7 to 0 of word 4, 6 to 3 of a member's first word and 6 to 0 of a pending
entry's word, which the layout does not name, are 0: the model's choice (notes/assumptions/21.md). -/
def floorWords (s : State) : List Word :=
  let c := s.floor
  let code := fun i => match s.floorState i with
    | some f => f.code
    | none => 0
  let count := fun i => match s.floorState i with
    | some (.hold n) => n
    | _ => 0
  let chair := fun i => (s.srcs[(i : SrcSlot)].isChair).toNat
  [c.block.extractLsb' 16 16, c.block.extractLsb' 0 16, bytesWord c.list.length c.liveStamps,
    bytesWord c.list.length (c.chairs.length + c.delegates.length), bytesWord c.stamps.length 0]
    ++ c.stamps.flatMap (fun t => [t.block.extractLsb' 16 16, t.block.extractLsb' 0 16])
    ++ c.list.flatMap (fun i => [bytesWord i.val (128 * chair i + code i), natWord (count i)])
    ++ (c.chairs ++ c.delegates).map (fun i => bytesWord i.val (128 * chair i))

/-- FLOOR.GET (R81). -/
def takeFloorGet (s : State) : Taken := .read (floorWords s) s

/-- Every member and every queue entry CLOSED, both collections and the stamp list emptied (R82 steps 1 and 2). -/
def clearFloor (s : State) : State :=
  let c := s.floor
  let s := s.mapSrcs fun i x =>
    if c.list.contains i || c.chairs.contains i || c.delegates.contains i then { x with floorState := some .closed }
    else x
  { s with floor := { c with list := [], chairs := [], delegates := [], stamps := [] } }

/-- FLOOR.RESET (R82). -/
def takeFloorReset (s : State) : Taken := .write (retargetFloor (noteFloor s (clearFloor s)))

/-- FLOOR.GET as a host command (R81). -/
def execFloorGet (s : State) : Host.Outcome State Fault Refusal := .next (hostPacket 0x18 takeFloorGet s)

/-- FLOOR.RESET as a host command (R82). -/
def execFloorReset (s : State) : Host.Outcome State Fault Refusal := .next (hostPacket 0x19 takeFloorReset s)

/-- STAMP_EXPIRY: when a live stamp's age has reached AdmitWindow it stops being live, and pending service follows
(R59, R77). Otherwise the event does not come about. -/
def execStampExpiry (s : State) : Host.Outcome State Fault Refusal := .next (stampService s)

/-- The expiry of a hold whose count is 0: LAST or CLOSED, and after a removal pending service, targets and FLOOR (R67,
R69). -/
def holdExpiry (i : SrcSlot) (s : State) : State :=
  let (s', shorter) := expireHold i s
  finishEvent s (serviceIf shorter s')

/-- HOLD_EXPIRY: the hold of an ACTIVE floor-class member whose hold count is 0 expires (R67). Otherwise the event does
not come about. -/
def execHoldExpiry (i : SrcSlot) (s : State) : Host.Outcome State Fault Refusal :=
  .next (if s.srcs[i].isActive && s.srcs[i].floorClass && s.floorState i == some (.hold 0) then holdExpiry i s else s)

end Sys2Proof.Machine
end

