-- ==== Sys2Proof/Machine/Mute.lean ====
section
/-! DEFINITION. The Mute Logic (chapter 3): the effective mute, the handing on of its changes, the intake of a pod
frame's buttons and privacy, and the mute commands. -/

namespace Sys2Proof.Machine

/-! ### The effective mute and its changes (R38, R39) -/

/-- The effective mute of a non-FREE source: on when user mute, privacy, a muted group or the room mute of a DELEGATE
holds it (R38). -/
def deriveMute (m : MuteUnit) (x : Source) : Bool :=
  x.userMute || x.privacy || (x.groups &&& m.groups) != 0 || m.room && x.isDelegate

/-- A change of effective mute written, with what it hands to the Level Monitor: going off clears the talk-while-muted
count and ALERT (R30, R39). -/
def setMute (v : Bool) (x : Source) : Source :=
  { x with effMute := v, twm := if v then x.twm else 0, alert := v && x.alert }

/-- A change of effective mute handed to the Floor Controller: on removes the source, off makes an attempt while it is
VOICED (R70, R71). The flag says whether the floor list became shorter by a removal. -/
def handToFloor (a : State × Bool) (i : SrcSlot) : State × Bool :=
  let (s, shorter) := a
  if s.srcs[i].effMute then
    let (s', sh) := removeSource i s
    (s', shorter || sh)
  else if s.srcs[i].voice == .voiced then (attempt i s, shorter)
  else (s, shorter)

/-- A slot put into a list ordered by rank, before the first of a higher rank. -/
def insertByRank (rank : SrcSlot → Nat) (i : SrcSlot) : List SrcSlot → List SrcSlot
  | [] => [i]
  | j :: rest => if rank i ≤ rank j then i :: j :: rest else j :: insertByRank rank i rest

/-- The slots in the free order of one event (R71; `Config.attemptRank`). -/
def inFreeOrder (event : Nat) (is : List SrcSlot) : List SrcSlot :=
  is.foldr (insertByRank fun i => Config.attemptRank event i.val) []

/-- The non-FREE sources among the affected whose effective mute, derived from the inputs as they stand, differs from
the one they hold. -/
def muteChanges (affected : SrcSlot → Bool) (s : State) : List SrcSlot :=
  srcSlots.filter fun i =>
    affected i && s.srcs[i].inUse && deriveMute s.mute s.srcs[i] != s.srcs[i].effMute

/-- The effective mutes of the affected sources derived again, and every change handed on within the one event (R38,
R39): first to the Level Monitor, then, for each ACTIVE floor-class source in the free order, to the Floor Controller,
then pending service once if the floor list became shorter (R69), then the targets and FLOOR (R76, R80). When nothing
changes, nothing is handed on. -/
def deriveMutes (affected : SrcSlot → Bool) (s : State) : State :=
  match muteChanges affected s with
  | [] => s
  | changed =>
    let s1 := s.mapSrcs fun i x => if changed.contains i then setMute (deriveMute s.mute x) x else x
    let floorBound := changed.filter fun i => s.srcs[i].isActive && s.srcs[i].floorClass
    let (s2, shorter) := (inFreeOrder s.freeCount floorBound).foldl handToFloor (s1, false)
    finishEvent s { serviceIf shorter s2 with freeCount := s.freeCount + 1 }

/-! ### Pod buttons and privacy (R42, R46, R48, R49) -/

/-- The MUTE press acts: the pod has at least one ACTIVE source (R42). -/
def mutePressActs (s : State) (l : PodLink) (pressed : Bool) : Bool :=
  pressed && srcSlots.any fun i => s.srcs[i].isActive && s.srcs[i].onPod l

/-- The CHAIR press acts: the pod has at least one ACTIVE source of class CHAIR (R46). -/
def chairPressActs (s : State) (l : PodLink) (pressed : Bool) : Bool :=
  pressed && srcSlots.any fun i => s.srcs[i].isActive && s.srcs[i].onPod l && s.srcs[i].isChair

/-- The user mute a MUTE press sets on all ACTIVE sources of the pod: on when at least one of them has it off, off when
all have it on (R42). -/
def mutePressValue (s : State) (l : PodLink) : Bool :=
  srcSlots.any fun i => s.srcs[i].isActive && s.srcs[i].onPod l && !s.srcs[i].userMute

/-- All that a frame of pod l carries for the Mute Logic, taken as one event (R49): the MUTE press, the CHAIR press and
the privacy level are applied to their own items, then every affected effective mute is derived once. -/
def frameIntake (l : PodLink) (mutePress chairPress privacy : Bool) (s : State) : State :=
  let mutes := mutePressActs s l mutePress
  let value := mutePressValue s l
  let chairs := chairPressActs s l chairPress
  let changes := privacy != s.pods[l].privacy
  let s1 := s.mapSrcs fun _ x =>
    if x.onPod l then
      { x with
        userMute := if mutes && x.isActive then value else x.userMute
        privacy := if changes && x.inUse then privacy else x.privacy }
    else x
  let s2 := { s1 with mute := { s1.mute with room := if chairs then !s1.mute.room else s1.mute.room } }
  let s3 := s2.setPod l { s2.pods[l] with privacy := privacy }
  let s4 := (s3.addNoticeIf (mutes || chairs) .button).addNoticeIf changes .privacy
  deriveMutes (fun i => s.srcs[i].onPod l && (changes || mutes && s.srcs[i].isActive && s.srcs[i].userMute != value)
    || chairs && s.srcs[i].isDelegate) s4

/-! ### The mute commands -/

/-- SRC.MUTE (R41). -/
def takeSrcMute (slot : Byte) (on : Bool) (s : State) : Taken :=
  match activeSrc slot s with
  | .error k => .refused k
  | .ok i => .write (deriveMutes (· == i) (s.setSrc i { s.srcs[i] with userMute := on }))

/-- The group mutes with one group's mute set. -/
def setGroup (g : Groups) (i : Fin 16) (on : Bool) : Groups :=
  if on then g ||| BitVec.twoPow 16 i.val else g &&& ~~~(BitVec.twoPow 16 i.val)

/-- GRP.MUTE (R44). -/
def takeGrpMute (group : Byte) (on : Bool) (s : State) : Taken :=
  match numberBelow 16 group with
  | none => .refused .badParam
  | some g =>
    if s.mute.groups.getLsbD g.val = on then .write s
    else .write (deriveMutes (fun i => s.srcs[i].groups.getLsbD g.val)
      { s with mute := { s.mute with groups := setGroup s.mute.groups g on } })

/-- ROOM.MUTE (R45). -/
def takeRoomMute (on : Bool) (s : State) : Taken :=
  if s.mute.room = on then .write s
  else .write (deriveMutes (fun i => s.srcs[i].isDelegate) { s with mute := { s.mute with room := on } })

/-- The word of 16 effective mutes: slot 16w + b in bit b (R205). -/
def muteWord (s : State) (w : Nat) : Word :=
  (srcSlots.filter fun i => i.val / 16 == w).foldl
    (fun acc i => if s.srcs[i].effMute then acc ||| BitVec.twoPow 16 (i.val % 16) else acc) 0

/-- The words of a MUTE.GET (R52, R205). Bits 15 to 1 of word 1, which the layout does not name, are 0: the model's choice
(notes/assumptions/21.md). -/
def muteWords (s : State) : List Word :=
  [s.mute.groups, natWord s.mute.room.toNat] ++ (List.range 5).map (muteWord s)

/-- MUTE.GET (R52). -/
def takeMuteGet (s : State) : Taken := .read (muteWords s) s

/-- SRC.MUTE as a host command (R41). -/
def execSrcMute (slot : Byte) (on : Bool) (s : State) : Host.Outcome State Fault Refusal :=
  .next (hostPacket 0x06 (takeSrcMute slot on) s)

/-- GRP.MUTE as a host command (R44). -/
def execGrpMute (group : Byte) (on : Bool) (s : State) : Host.Outcome State Fault Refusal :=
  .next (hostPacket 0x10 (takeGrpMute group on) s)

/-- ROOM.MUTE as a host command (R45). -/
def execRoomMute (on : Bool) (s : State) : Host.Outcome State Fault Refusal :=
  .next (hostPacket 0x11 (takeRoomMute on) s)

/-- MUTE.GET as a host command (R52). -/
def execMuteGet (s : State) : Host.Outcome State Fault Refusal := .next (hostPacket 0x12 takeMuteGet s)

end Sys2Proof.Machine
end

