-- ==== Sys2Proof/Machine/Level.lean ====
section
/-! DEFINITION. The Level Monitor (chapter 2): the block level, the estimates S and N, the voice decision, the
talk-while-muted count and ALERT, and the measurement that works through them. -/

namespace Sys2Proof.Machine

/-! ### The block level (R20) -/

/-- The exact sum of squares of a block's samples (R20). -/
def sumSquares (b : Block) : Nat := b.toList.foldl (fun acc x => acc + x.toInt.natAbs ^ 2) 0

/-- L is at least n (for n from 1 to 200): 20 log10(ms / 8388608^2) is at least n - 200 - 1/2, which is
(sum / (96 * 2^46))^40 at least 10^(2n - 401), in integers (R20). The exact half is never met, since 10 to an odd
multiple of 1/40 is irrational. -/
def levelReaches (sum n : Nat) : Bool := decide ((96 * 2 ^ 46) ^ 40 ≤ sum ^ 40 * 10 ^ (401 - 2 * n))

/-- The block level L, 0 to 200, of a sum of squares: how many of the levels 1 to 200 it reaches (R20). -/
def levelOfSum (sum : Nat) : Nat := ((List.range 200).filter fun k => levelReaches sum (k + 1)).length

/-- The block level L of a delivered block (R20). -/
def blockLevel (b : Block) : Nat := levelOfSum (sumSquares b)

/-! ### The estimates (R22 to R24) -/

/-- S moved toward 8L by one step (R22). -/
def moveLevel (p : Params) (level s : Nat) : Nat :=
  let goal := 8 * level
  if s < goal then s + max 1 ((goal - s) / 2 ^ p.attackShift)
  else if goal < s then s - max 1 ((s - goal) / 2 ^ p.releaseShift)
  else s

/-- N raised by one and the creep count returned to 0 when the count has reached CreepBlocks (R24). -/
def creepRise (p : Params) (x : Source) : Source :=
  if p.creepBlocks ≤ x.creep then { x with n := x.n + 1, creep := 0 } else x

/-- N and the creep count after S has moved, judged against the voice state as it stood before (R23, R24). -/
def moveNoise (p : Params) (x : Source) : Source :=
  if x.s < x.n then { x with n := x.s, creep := 0 }
  else if x.voice == .quiet && decide (x.n < x.s) then creepRise p { x with creep := x.creep + 1 }
  else x

/-- The voice decision from the new S and N (R25, R26). -/
def decideVoice (p : Params) (x : Source) : VoiceState :=
  match x.voice with
  | .quiet => if x.n + 8 * p.margin ≤ x.s ∧ 8 * p.voiceFloor ≤ x.s then .voiced else .quiet
  | .voiced => if x.s < x.n + 8 * (p.margin - p.hysteresis) ∨ x.s < 8 * p.voiceFloor then .quiet else .voiced

/-- ALERT judged for a rise of the talk-while-muted count: it goes on when the count stands at or above TwmBlocks
(R29). -/
def judgeRise (p : Params) (x : Source) : Source :=
  { x with alert := x.alert || decide (p.twmBlocks ≤ x.twm), twmRose := false }

/-- The talk-while-muted count and ALERT after the voice decision (R28 to R30): cleared when the measurement makes the
source QUIET, raised for an ACTIVE, VOICED, effectively muted source whose ALERT is off. `old` is the voice state before
the decision. -/
def moveTwm (p : Params) (old : VoiceState) (x : Source) : Source :=
  if old == .voiced && x.voice == .quiet then { x with twm := 0, alert := false }
  else if x.isActive && x.voice == .voiced && x.effMute && !x.alert then
    judgeRise p { x with twm := x.twm + 1, twmRose := true }
  else x

/-- The level part of a measurement with block level L: S, then N and the creep count, then the voice state, then the
talk-while-muted count and ALERT (R19 steps 2 to 5). -/
def measureLevel (p : Params) (level : Nat) (x : Source) : Source :=
  let x1 := moveNoise p { x with s := moveLevel p level x.s }
  moveTwm p x.voice { x1 with voice := decideVoice p x1 }

/-! ### The measurement (R19) -/

/-- One measurement of source i from its received block, taken whole (R19): the level part, TALK_MUTED when it turns
ALERT on (R29), the handover to the Floor Controller (R27, R60), and the end of the event (R76, R80). -/
def measure (i : SrcSlot) (b : Block) (s : State) : State :=
  let x := measureLevel s.params (blockLevel b) s.srcs[i]
  let s1 := (s.setSrc i { x with inBlock := none }).addNoticeIf (x.alert && !s.srcs[i].alert) .talkMuted
  finishEvent s (floorHandover i s1)

/-- MEASUREMENT of a source slot: taken of a non-FREE source that has received its block in the mix block in progress and
has not been measured in it (R19). Otherwise the event does not come about: a FREE slot is not measured. -/
def execMeasurement (i : SrcSlot) (s : State) : Host.Outcome State Fault Refusal :=
  .next (match s.srcs[i].inBlock with
    | some b => if s.srcs[i].inUse then measure i b s else s
    | none => s)

/-- NOISE_FLOOR_CREEP: when the creep count of a QUIET source with S above N has reached CreepBlocks, N rises by one and
the count returns to 0 (R24). Otherwise the event does not come about. -/
def execNoiseFloorCreep (i : SrcSlot) (s : State) : Host.Outcome State Fault Refusal :=
  let x := s.srcs[i]
  .next (if x.inUse && x.voice == .quiet && decide (x.n < x.s) then s.setSrc i (creepRise s.params x) else s)

/-- ALERT: when a measurement's rise has brought the talk-while-muted count of an ACTIVE, VOICED, effectively muted
source to TwmBlocks while ALERT is off, ALERT goes on and TALK_MUTED is set (R28, R29). Otherwise the event does not come
about: a count that stands at or above TwmBlocks without a rise, as a swap effect can leave it, waits for the next
measurement that raises it (R36). MEASUREMENT judges its own rise (notes/assumptions/6.md). -/
def execAlert (i : SrcSlot) (s : State) : Host.Outcome State Fault Refusal :=
  let x := s.srcs[i]
  .next (if x.isActive && x.voice == .voiced && x.effMute && !x.alert && x.twmRose
      && decide (s.params.twmBlocks ≤ x.twm) then
    (s.setSrc i (judgeRise s.params x)).addNotice .talkMuted
  else s)

/-- Creep counts brought below a new CreepBlocks at a swap effect (R36). -/
def adjustCreep (p : Params) (x : Source) : Source :=
  if p.creepBlocks ≤ x.creep then { x with creep := p.creepBlocks - 1 } else x

/-- The Level Monitor fields of a source whose pod link leaves SYNC (R34). -/
def resetLevel (x : Source) : Source :=
  { x with s := 0, n := 0, creep := 0, voice := .quiet, twm := 0, alert := false }

end Sys2Proof.Machine
end

