-- ==== Sys2Proof/Machine/Sources.lean ====
section
/-! DEFINITION. The Source Table (chapter 1): attach, retire, trim, groups, read, and retirement completion. -/

namespace Sys2Proof.Machine

/-- The floor state of a new source: CLOSED for a floor class, UNGATED otherwise (R7). -/
def attachFloorState : SrcClass → FloorState
  | .chair => .closed
  | .delegate => .closed
  | .remote => .ungated
  | .program => .ungated

/-- The privacy a new source copies: the held privacy of its pod link, off for FAR and AUX origins (R7, R17). -/
def originPrivacy (s : State) : Origin → Bool
  | .pod l _ => s.pods[l].privacy
  | _ => false

/-- The record an accepted SRC.ATTACH fills, before its effective mute and target are derived (R7). -/
def attachedSource (s : State) (o : Origin) (c : SrcClass) (trim : Int) (groups : Groups) : Source :=
  { Source.free with
    state := .active
    origin := some o
    cls := some c
    trim := clampTrim trim
    groups := groups
    privacy := originPrivacy s o
    floorState := some (attachFloorState c) }

/-- SRC.ATTACH: the checks of R6 in their order, then the record of R7 with its effective mute, its target, and the
attach fade-in when the target is not OFF. -/
def takeSrcAttach (slot : Byte) (chair : Bool) (origin : BitVec 7) (trim : Word) (groups : Groups) (s : State) : Taken :=
  match numberBelow 80 slot, originOfCode origin with
  | some i, some o =>
    match classOf o chair with
    | none => .refused .badParam
    | some c =>
      if s.srcs[i].inUse then .refused .busy
      else if originHeld s o then .refused .bound
      else
        let x := attachedSource s o c trim.toInt groups
        .write (s.setSrc i (retarget s { x with effMute := deriveMute s.mute x }))
  | _, _ => .refused .badParam

/-- A slot made FREE: the record takes the FREE values, and its origin is released with it (R11). -/
def freeSource (i : SrcSlot) (s : State) : State := s.setSrc i .free

/-- A source retired once the floor has let it go: FREE at once when its current gain is OFF, and otherwise RETIRING with
a ramp from the current gain to OFF, replacing any ramp in progress (R9 steps 2 to 4; notes/assumptions/2.md). -/
def retireSource (i : SrcSlot) (s : State) : State :=
  let x := s.srcs[i]
  if x.gain.current = off then freeSource i s
  else s.setSrc i { x with state := .retiring, twm := 0, alert := false, gain := x.gain.rampTo off }

/-- SRC.RETIRE: the floor removal with its pending service, targets and FLOOR (R9 step 1, R69, R73), then the rest of
R9. -/
def takeSrcRetire (slot : Byte) (s : State) : Taken :=
  match activeSrc slot s with
  | .error k => .refused k
  | .ok i =>
    let (s1, shorter) := removeSource i s
    .write (retireSource i (finishEvent s (serviceIf shorter s1)))

/-- SRC.TRIM (R14). -/
def takeSrcTrim (slot trim : Byte) (s : State) : Taken :=
  match activeSrc slot s with
  | .error k => .refused k
  | .ok i => .write (retargetAt i (s.setSrc i { s.srcs[i] with trim := clampTrim trim.toInt }))

/-- SRC.GROUPS (R15). -/
def takeSrcGroups (slot : Byte) (groups : Groups) (s : State) : Taken :=
  match activeSrc slot s with
  | .error k => .refused k
  | .ok i => .write (deriveMutes (· == i) (s.setSrc i { s.srcs[i] with groups := groups }))

/-- The twelve words of a SRC.GET (R16, R205). -/
def sourceWords (i : SrcSlot) (x : Source) : List Word :=
  let code := fun (o : Option Nat) => o.getD 0
  let held := match x.floorState with
    | some (.hold n) => some n
    | _ => none
  let ramp := x.gain.ramp
  [natWord (i.val * 256 + x.state.code * 64 + x.origin.isSome.toNat * 32 + code (x.cls.map (·.code)) * 8
      + x.userMute.toNat * 4 + x.privacy.toNat * 2 + x.effMute.toNat),
    wordOf (BitVec.ofNat 8 (code (x.origin.map originCode))) (BitVec.ofInt 8 x.trim),
    x.groups,
    natWord x.s,
    natWord x.n,
    natWord (x.creep * 256 + (x.voice == .voiced).toNat * 128 + x.alert.toNat * 64 + x.floorState.isSome.toNat * 32
      + code (x.floorState.map (·.code)) * 4 + held.isSome.toNat * 2 + ramp.isSome.toNat),
    natWord x.twm,
    natWord (code held),
    gainWord x.gain.current,
    gainWord x.gain.target,
    gainWord ((ramp.map (·.start)).getD 0),
    bytesWord (code (ramp.map (·.duration))) (code (ramp.map (·.done)))]

/-- SRC.GET (R16): taken in every slot state. -/
def takeSrcGet (slot : Byte) (s : State) : Taken :=
  match numberBelow 80 slot with
  | none => .refused .badParam
  | some i => .read (sourceWords i s.srcs[i]) s

/-- SRC.ATTACH as a host command (R6, R7). -/
def execSrcAttach (slot : Byte) (chair : Bool) (origin : BitVec 7) (trim : Word) (groups : Groups) (s : State) :
    Host.Outcome State Fault Refusal :=
  .next (hostPacket 0x01 (takeSrcAttach slot chair origin trim groups) s)

/-- SRC.RETIRE as a host command (R9). -/
def execSrcRetire (slot : Byte) (s : State) : Host.Outcome State Fault Refusal :=
  .next (hostPacket 0x02 (takeSrcRetire slot) s)

/-- SRC.TRIM as a host command (R14). -/
def execSrcTrim (slot trim : Byte) (s : State) : Host.Outcome State Fault Refusal :=
  .next (hostPacket 0x03 (takeSrcTrim slot trim) s)

/-- SRC.GROUPS as a host command (R15). -/
def execSrcGroups (slot : Byte) (groups : Groups) (s : State) : Host.Outcome State Fault Refusal :=
  .next (hostPacket 0x04 (takeSrcGroups slot groups) s)

/-- SRC.GET as a host command (R16). -/
def execSrcGet (slot : Byte) (s : State) : Host.Outcome State Fault Refusal :=
  .next (hostPacket 0x05 (takeSrcGet slot) s)

/-- SOURCE_RETIREMENT_COMPLETION: a RETIRING source whose fade has used OFF becomes FREE at the end of the block (R11).
Otherwise, and on a slot already FREE, it does nothing (R198). -/
def execSourceRetirementCompletion (i : SrcSlot) (s : State) : Host.Outcome State Fault Refusal :=
  .next (if s.srcs[i].state == .retiring && s.srcs[i].gain.fadedOut then freeSource i s else s)

end Sys2Proof.Machine
end

