-- ==== Sys2Proof/Machine/Feeds.lean ====
section
/-! DEFINITION. The Feed Table (chapter 5): attach, retire, level, mute, exclude, read, and retirement completion. -/

namespace Sys2Proof.Machine

/-- A feed master, clamped to OFF to +24 (R101). -/
def clampMaster (v : Int) : Int := clampInt (-192) 24 v

/-- The target of a feed: OFF while its feed mute is on or it is not ACTIVE, its master otherwise (R84, R104). -/
def feedTarget (x : Feed) : Int := if x.muted || x.state != .active then off else x.master

/-- A feed's target composed again and handed to the ramp unit (R104, R105). -/
def retargetFeed (x : Feed) : Feed := { x with gain := x.gain.hand (feedTarget x) }

/-- FEED.ATTACH: the checks of R87 in their order, then the record of R88 with its fade-in and a zeroed clip counter. -/
def takeFeedAttach (slot dest : Byte) (master : Word) (excluded : Groups) (s : State) : Taken :=
  match numberBelow 32 slot, destOfCode dest with
  | some f, some d =>
    if s.feeds[f].inUse then .refused .busy
    else if destHeld s d then .refused .bound
    else .write (s.setFeed f (retargetFeed
      { Feed.free 0 with state := .active, dest := some d, master := clampMaster master.toInt, excluded := excluded }))
  | _, _ => .refused .badParam

/-- A feed slot made FREE, keeping its clip counter (R91, R99). -/
def freeFeed (f : FeedSlot) (s : State) : State := s.setFeed f (.free s.feeds[f].clips)

/-- FEED.RETIRE: FREE at once when the current gain is OFF, and otherwise RETIRING with a ramp from the current gain to
OFF, replacing any ramp in progress (R89; notes/assumptions/2.md). -/
def takeFeedRetire (slot : Byte) (s : State) : Taken :=
  match activeFeed slot s with
  | .error k => .refused k
  | .ok f =>
    if s.feeds[f].gain.current = off then .write (freeFeed f s)
    else .write (s.setFeed f { s.feeds[f] with state := .retiring, gain := s.feeds[f].gain.rampTo off })

/-- FEED.LEVEL (R93). -/
def takeFeedLevel (slot : Byte) (master : Word) (s : State) : Taken :=
  match activeFeed slot s with
  | .error k => .refused k
  | .ok f => .write (s.setFeed f (retargetFeed { s.feeds[f] with master := clampMaster master.toInt }))

/-- FEED.MUTE (R94). -/
def takeFeedMute (slot : Byte) (on : Bool) (s : State) : Taken :=
  match activeFeed slot s with
  | .error k => .refused k
  | .ok f => .write (s.setFeed f (retargetFeed { s.feeds[f] with muted := on }))

/-- FEED.EXCLUDE (R95). -/
def takeFeedExclude (slot : Byte) (groups : Groups) (s : State) : Taken :=
  match activeFeed slot s with
  | .error k => .refused k
  | .ok f => .write (s.setFeed f { s.feeds[f] with excluded := groups })

/-- The eight words of a FEED.GET (R98, R205). Bits 3 to 1 of word 0 and 7 to 0 of word 1, which the layout does not name,
are 0: the model's choice (notes/assumptions/21.md). -/
def feedWords (f : FeedSlot) (x : Feed) : List Word :=
  let code := fun (o : Option Nat) => o.getD 0
  let ramp := x.gain.ramp
  [natWord (f.val * 256 + x.state.code * 64 + x.dest.isSome.toNat * 32 + x.muted.toNat * 16 + ramp.isSome.toNat),
    bytesWord (code (x.dest.map destCode)) 0,
    gainWord x.master,
    x.excluded,
    gainWord x.gain.current,
    gainWord x.gain.target,
    gainWord ((ramp.map (·.start)).getD 0),
    bytesWord (code (ramp.map (·.duration))) (code (ramp.map (·.done)))]

/-- FEED.GET (R98): taken in every slot state. -/
def takeFeedGet (slot : Byte) (s : State) : Taken :=
  match numberBelow 32 slot with
  | none => .refused .badParam
  | some f => .read (feedWords f s.feeds[f]) s

/-- FEED.ATTACH as a host command (R87, R88). -/
def execFeedAttach (slot dest : Byte) (master : Word) (excluded : Groups) (s : State) :
    Host.Outcome State Fault Refusal :=
  .next (hostPacket 0x20 (takeFeedAttach slot dest master excluded) s)

/-- FEED.RETIRE as a host command (R89). -/
def execFeedRetire (slot : Byte) (s : State) : Host.Outcome State Fault Refusal :=
  .next (hostPacket 0x21 (takeFeedRetire slot) s)

/-- FEED.LEVEL as a host command (R93). -/
def execFeedLevel (slot : Byte) (master : Word) (s : State) : Host.Outcome State Fault Refusal :=
  .next (hostPacket 0x22 (takeFeedLevel slot master) s)

/-- FEED.MUTE as a host command (R94). -/
def execFeedMute (slot : Byte) (on : Bool) (s : State) : Host.Outcome State Fault Refusal :=
  .next (hostPacket 0x23 (takeFeedMute slot on) s)

/-- FEED.EXCLUDE as a host command (R95). -/
def execFeedExclude (slot : Byte) (groups : Groups) (s : State) : Host.Outcome State Fault Refusal :=
  .next (hostPacket 0x24 (takeFeedExclude slot groups) s)

/-- FEED.GET as a host command (R98). -/
def execFeedGet (slot : Byte) (s : State) : Host.Outcome State Fault Refusal :=
  .next (hostPacket 0x25 (takeFeedGet slot) s)

/-- FEED_RETIREMENT_COMPLETION: a RETIRING feed whose fade has used OFF becomes FREE at the end of the block (R91).
Otherwise, and on a slot already FREE, it does nothing (R198). -/
def execFeedRetirementCompletion (f : FeedSlot) (s : State) : Host.Outcome State Fault Refusal :=
  .next (if s.feeds[f].state == .retiring && s.feeds[f].gain.fadedOut then freeFeed f s else s)

end Sys2Proof.Machine
end

