-- ==== Sys2Proof/Machine/Banks.lean ====
section
/-! DEFINITION. The Bank Store's parameters, swap and copy (chapter 7, sections 7.1 to 7.3). -/

namespace Sys2Proof.Machine

/-! ### Floor parameters (R124 to R127) -/

/-- A value clamped into a range of naturals (R124). -/
def clampNat (lo hi : Nat) (v : Int) : Nat := (clampInt lo hi v).toNat

/-- A value stored as off or on: below 0 off, above 1 on (R124). -/
def clampFlag (v : Int) : Bool := decide (1 ≤ v)

/-- One parameter written, clamped to its range; Hysteresis is clamped to the Margin as it stands, and a Margin below
the Hysteresis lowers it (R124, R125). -/
def writeParam (p : Params) (id : ParamId) (v : Int) : Params :=
  match id with
  | .maxOpen => { p with maxOpen := clampNat 1 8 v }
  | .holdBlocks => { p with holdBlocks := clampNat 0 5000 v }
  | .lastMic => { p with lastMic := clampFlag v }
  | .nomOn => { p with nomOn := clampFlag v }
  | .margin => { p with margin := clampNat 0 60 v, hysteresis := min p.hysteresis (clampNat 0 60 v) }
  | .hysteresis => { p with hysteresis := clampNat 0 p.margin v }
  | .voiceFloor => { p with voiceFloor := clampNat 0 200 v }
  | .closedAtten => { p with closedAtten := clampNat 0 192 v }
  | .admitBurst => { p with admitBurst := clampNat 1 8 v }
  | .admitWindow => { p with admitWindow := clampNat 1 5000 v }
  | .twmBlocks => { p with twmBlocks := clampNat 1 5000 v }
  | .attackShift => { p with attackShift := clampNat 0 4 v }
  | .releaseShift => { p with releaseShift := clampNat 2 8 v }
  | .creepBlocks => { p with creepBlocks := clampNat 1 255 v }

/-- The identifiers of a list of pairs; none when one of them names no parameter (R126). -/
def readPairs : List (Word × Word) → Option (List (ParamId × Int))
  | [] => some []
  | (w, v) :: rest =>
    match paramOfId w, readPairs rest with
    | some id, some ps => some ((id, v.toInt) :: ps)
    | _, _ => none

/-- The pairs applied in packet order, each against what the pairs before it have left (R126). -/
def writeParams (p : Params) (ps : List (ParamId × Int)) : Params :=
  ps.foldl (fun p a => writeParam p a.1 a.2) p

/-- PARAM.SET: the word count of its packet (1 to 128 pairs), then the checks of R126 in their order, then the pairs. -/
def takeParamSet (pairs : List (Word × Word)) (s : State) : Taken :=
  if pairs.length = 0 ∨ 128 < pairs.length then .refused .length
  else if s.banks.swap ≠ .settled then .refused .busy
  else match readPairs pairs with
    | none => .refused .badParam
    | some ps =>
      let b := s.banks.editBank
      .write { s with banks := s.banks.setEdit { b with params := writeParams b.params ps } }

/-- The fourteen values of a PARAM.GET, identifiers 1 to 14 in order (R127, R205). -/
def paramWords (p : Params) : List Word :=
  [p.maxOpen, p.holdBlocks, p.lastMic.toNat, p.nomOn.toNat, p.margin, p.hysteresis, p.voiceFloor, p.closedAtten,
    p.admitBurst, p.admitWindow, p.twmBlocks, p.attackShift, p.releaseShift, p.creepBlocks].map natWord

/-- PARAM.GET (R127). -/
def takeParamGet (bank : Byte) (s : State) : Taken :=
  match bankOfCode bank with
  | none => .refused .badParam
  | some n => .read (paramWords (s.banks.bank n).params) s

/-! ### Swap and copy (R128 to R136) -/

/-- BANK.SWAP (R129). -/
def takeBankSwap (s : State) : Taken :=
  if s.banks.swap = .settled then .write { s with banks := { s.banks with swap := .swapPending } }
  else .refused .busy

/-- BANK.COPY (R134). -/
def takeBankCopy (s : State) : Taken :=
  if s.banks.swap = .settled then .write { s with banks := s.banks.setEdit s.banks.opBank }
  else .refused .busy

/-- BANK.GET (R135, R205). Bits 15 to 9 and 7 to 2, which the layout does not name, are 0: the model's choice
(notes/assumptions/21.md). -/
def takeBankGet (s : State) : Taken :=
  .read [natWord (bankCode s.banks.operating * 256 + s.banks.swap.code)] s

/-- The crosspoint ramps a swap makes: one for every pair whose values differ between the former operating bank and the
new one (R110). -/
def swapRamps (former new : Bank) : Matrix (Option XpRamp) :=
  Matrix.ofFn fun f i =>
    let a := former.xp[f][i]
    let b := new.xp[f][i]
    if a = b then none else some ⟨a, b, rampDuration (b - a).natAbs, 0⟩

/-- The swap effect within a block's start (R130): the roles exchange, the state becomes RAMPING, crosspoint ramps are
made (R110), creep counts are adjusted (R36), and the Floor Controller does its work (R78). -/
def swapEffect (s : State) : State :=
  let former := s.banks.opBank
  let new := s.banks.editBank
  let s1 := { s with
    banks := { s.banks with operating := otherBank s.banks.operating, swap := .ramping }
    xpRamps := swapRamps former new }
  floorSwapWork (s1.mapSrcs fun _ x => adjustCreep s1.params x)

/-- The end of the crosspoint ramps (R111, R132): in RAMPING, every ramp that has used its last step is removed, and when
none is left the swap state becomes SETTLED and SWAP_DONE is set. -/
def crosspointRampsEnd (s : State) : State :=
  let ramps := Matrix.ofFn fun f i => XpRamp.finish s.xpRamps[f][i]
  let s1 := { s with xpRamps := ramps }
  if feedSlots.all fun f => srcSlots.all fun i => ramps[f][i].isNone then
    { s1 with banks := { s1.banks with swap := .settled } }.addNotice .swapDone
  else s1

/-- BANK.SWAP as a host command (R129). -/
def execBankSwap (s : State) : Host.Outcome State Fault Refusal := .next (hostPacket 0x30 takeBankSwap s)

/-- BANK.COPY as a host command (R134). -/
def execBankCopy (s : State) : Host.Outcome State Fault Refusal := .next (hostPacket 0x31 takeBankCopy s)

/-- BANK.GET as a host command (R135). -/
def execBankGet (s : State) : Host.Outcome State Fault Refusal := .next (hostPacket 0x32 takeBankGet s)

/-- PARAM.SET as a host command (R126). -/
def execParamSet (pairs : List (Word × Word)) (s : State) : Host.Outcome State Fault Refusal :=
  .next (hostPacket 0x33 (takeParamSet pairs) s)

/-- PARAM.GET as a host command (R127). -/
def execParamGet (bank : Byte) (s : State) : Host.Outcome State Fault Refusal :=
  .next (hostPacket 0x34 (takeParamGet bank) s)

/-- SWAP_EFFECT: in SWAP_PENDING the swap takes effect (R130). Otherwise the event does not come about. -/
def execSwapEffect (s : State) : Host.Outcome State Fault Refusal :=
  .next (if s.banks.swap = .swapPending then swapEffect s else s)

/-- CROSSPOINT_RAMPS_END: the end of a block in RAMPING (R111, R132). Otherwise the event does not come about. -/
def execCrosspointRampsEnd (s : State) : Host.Outcome State Fault Refusal :=
  .next (if s.banks.swap = .ramping then crosspointRampsEnd s else s)

/-- RAMP_END: a ramp record that has used its last step is removed at the end of the block (R107, R111). A record with
steps left, as one made in that block has, is not removed. -/
def execRampEnd (owner : RampOwner) (s : State) : Host.Outcome State Fault Refusal :=
  .next (match owner with
    | .source i => s.setSrc i { s.srcs[i] with gain := s.srcs[i].gain.finish }
    | .feed f => s.setFeed f { s.feeds[f] with gain := s.feeds[f].gain.finish }
    | .crosspoint f i => { s with xpRamps := Matrix.put s.xpRamps f i (XpRamp.finish s.xpRamps[f][i]) })

end Sys2Proof.Machine
end

