-- ==== Sys2Proof/Machine/MatrixWindow.lean ====
section
/-! DEFINITION. The matrix window, its walk and cursor, and the XP commands (section 7.4). -/

namespace Sys2Proof.Machine

/-! ### The walk (R137 to R139) -/

/-- The feed list of a window: its feed slots in ascending order, or descending when feed-reverse is on (R138). -/
def Window.feedList (w : Window) : List FeedSlot :=
  let l := feedSlots.filter fun f => decide (w.feedStart ≤ f ∧ f ≤ w.feedEnd)
  if w.feedRev then l.reverse else l

/-- The source list of a window, formed in the same way (R138). -/
def Window.srcList (w : Window) : List SrcSlot :=
  let l := srcSlots.filter fun i => decide (w.srcStart ≤ i ∧ i ≤ w.srcEnd)
  if w.srcRev then l.reverse else l

/-- The walk of a window: position k is the k-th pair (R138). -/
def Window.walk (w : Window) : List (FeedSlot × SrcSlot) :=
  match w.order with
  | .feedMajor => w.feedList.flatMap fun f => w.srcList.map fun i => (f, i)
  | .sourceMajor => w.srcList.flatMap fun i => w.feedList.map fun f => (f, i)

/-- A crosspoint word as stored: OFF below -192, +24 above +24 (R143). -/
def storedCrosspoint (w : Word) : Int := clampGain w.toInt

/-- One word written to the pair at the cursor, after which the cursor advances (R139, R141). The pair is the walk's. -/
def writeStep (walk : List (FeedSlot × SrcSlot)) (a : Matrix Int × Nat) (w : Word) : Matrix Int × Nat :=
  (match walk[a.2]? with
    | some (f, i) => Matrix.put a.1 f i (storedCrosspoint w)
    | none => a.1,
   (a.2 + 1) % walk.length)

/-- Words written into the edit bank along the window from a position of its walk (R141, R142). -/
def writeWalk (start : Nat) (ws : List Word) (s : State) : State :=
  let walk := s.banks.window.walk
  let b := s.banks.editBank
  let (xp, cursor) := ws.foldl (writeStep walk) (b.xp, start)
  { s with banks := { s.banks.setEdit { b with xp := xp } with cursor := cursor } }

/-- The values of the edit bank read along the window from a position of its walk (R144, R145). -/
def readWalk (start count : Nat) (s : State) : List Word :=
  let walk := s.banks.window.walk
  (List.range count).map fun k =>
    match walk[(start + k) % walk.length]? with
    | some (f, i) => gainWord s.banks.editBank.xp[f][i]
    | none => 0

/-! ### The XP commands -/

/-- XP.WINDOW (R140). -/
def takeXpWindow (fs fe ss se : Byte) (order : Word) (fr sr : Bool) (s : State) : Taken :=
  match numberBelow 32 fs, numberBelow 32 fe, numberBelow 80 ss, numberBelow 80 se, orderOfCode order with
  | some a, some b, some c, some d, some o =>
    if a ≤ b ∧ c ≤ d then
      .write { s with banks := { s.banks with window := ⟨a, b, c, d, o, fr, sr⟩, cursor := 0 } }
    else .refused .badParam
  | _, _, _, _, _ => .refused .badParam

/-- A matrix write from a position: its word count (1 to 256), then R133, then the words (R141, R142). -/
def takeXpWrite (start : Nat) (words : List Word) (s : State) : Taken :=
  if words.length = 0 ∨ 256 < words.length then .refused .length
  else if s.banks.swap ≠ .settled then .refused .busy
  else .write (writeWalk start words s)

/-- XP.PUT: from the first position (R141). -/
def takeXpPut (words : List Word) (s : State) : Taken := takeXpWrite 0 words s

/-- XP.PUTNEXT: from the cursor as it stands (R142). -/
def takeXpPutNext (words : List Word) (s : State) : Taken := takeXpWrite s.banks.cursor words s

/-- A matrix read from a position: the count 1 to 256, the values, and the cursor at the position after them (R144,
R145). -/
def takeXpRead (start : Nat) (count : Word) (s : State) : Taken :=
  if count.toNat = 0 ∨ 256 < count.toNat then .refused .badParam
  else .read (readWalk start count.toNat s)
    { s with banks := { s.banks with cursor := (start + count.toNat) % s.banks.window.walk.length } }

/-- XP.TAKE: from the first position (R144). -/
def takeXpTake (count : Word) (s : State) : Taken := takeXpRead 0 count s

/-- XP.TAKENEXT: from the cursor as it stands (R145). -/
def takeXpTakeNext (count : Word) (s : State) : Taken := takeXpRead s.banks.cursor count s

/-- XP.WINDOW as a host command (R140). -/
def execXpWindow (fs fe ss se : Byte) (order : Word) (fr sr : Bool) (s : State) : Host.Outcome State Fault Refusal :=
  .next (hostPacket 0x38 (takeXpWindow fs fe ss se order fr sr) s)

/-- XP.PUT as a host command (R141). -/
def execXpPut (words : List Word) (s : State) : Host.Outcome State Fault Refusal :=
  .next (hostPacket 0x39 (takeXpPut words) s)

/-- XP.PUTNEXT as a host command (R142). -/
def execXpPutNext (words : List Word) (s : State) : Host.Outcome State Fault Refusal :=
  .next (hostPacket 0x3A (takeXpPutNext words) s)

/-- XP.TAKE as a host command (R144). -/
def execXpTake (count : Word) (s : State) : Host.Outcome State Fault Refusal :=
  .next (hostPacket 0x3B (takeXpTake count) s)

/-- XP.TAKENEXT as a host command (R145). -/
def execXpTakeNext (count : Word) (s : State) : Host.Outcome State Fault Refusal :=
  .next (hostPacket 0x3C (takeXpTakeNext count) s)

end Sys2Proof.Machine
end

