-- ==== Sys2Proof/Machine/Pods.lean ====
section
/-! DEFINITION. The Pod Link Interface (chapter 8): framing, good and bad frames, the loss of a link, sync depth, the
outgoing frame, and the pod commands. -/

namespace Sys2Proof.Machine

/-! ### Frames taken in SYNC (R154, R158, R159) -/

/-- A good frame in SYNC (R154): runs and counter, reported element count, holding, then the intake of its buttons and
privacy as one event (R49). -/
def goodFrame (l : PodLink) (h : PodHeader) (audio : Vector Byte 1152) (s : State) : State :=
  let p := s.pods[l]
  frameIntake l h.mutePress h.chairPress h.privacy
    (s.setPod l { p with
      badRun := 0
      goodFrames := raise p.goodFrames 1
      elements := h.count
      holding := some (framedBlocks h audio) })

/-- The byte position `k` after another, in the frame period of 1200 (R148, R151). -/
def placeAfter (k : Nat) (p : FramePlace) : FramePlace := ⟨(p.val + k) % 1200, Nat.mod_lt _ (by decide)⟩

/-- The byte position one after another in the frame period (R152, R159). -/
def nextPlace (p : FramePlace) : FramePlace := placeAfter 1 p

/-- The loss of SYNC (R159): HUNT with both runs 0 and the holding empty, the sync-loss counter, POD_LINK, the Level
Monitor's reset of the pod's sources (R34), and their removal from the floor as one removal (R74). -/
def loseSync (l : PodLink) (s : State) : State :=
  let p := s.pods[l]
  let s1 := (s.setPod l { p with
    framing := .hunt
    goodRun := 0
    badRun := 0
    holding := none
    place := nextPlace p.place
    syncLosses := raise p.syncLosses 1 }).addNotice .podLink
  let s2 := s1.mapSrcs fun _ x => if x.inUse && x.onPod l then resetLevel x else x
  let (s3, shorter) := removeSources (srcSlots.filter fun i => s2.srcs[i].isActive && s2.srcs[i].onPod l) s2
  finishEvent s2 (serviceIf shorter s3)

/-- A bad frame in SYNC (R158): holding emptied, header-error counter, bad-header run, and the loss of SYNC when the run
reaches 4. -/
def badFrame (l : PodLink) (s : State) : State :=
  let p := s.pods[l]
  let s1 := s.setPod l { p with holding := none, headerErrors := raise p.headerErrors 1, badRun := p.badRun + 1 }
  if 4 ≤ p.badRun + 1 then loseSync l s1 else s1

/-! ### HUNT and PRESYNC (R151 to R153) -/

/-- A match in HUNT, `k` positions after the one at which the search began (R151). Its frame is not taken. -/
def huntMatch (l : PodLink) (k : Nat) (h : PodHeader) (s : State) : State :=
  s.setPod l { s.pods[l] with
    framing := .presync, goodRun := 1, elements := h.count, place := placeAfter k s.pods[l].place }

/-- The entry into SYNC (R153): state and runs, POD_LINK, and the frame taken as a good frame in SYNC. -/
def enterSync (l : PodLink) (h : PodHeader) (audio : Vector Byte 1152) (s : State) : State :=
  goodFrame l h audio
    ((s.setPod l { s.pods[l] with framing := .sync, goodRun := 0, badRun := 0 }).addNotice .podLink)

/-- The judgement of a header in PRESYNC (R152). -/
def judgePresync (l : PodLink) (h : PodHeader) (audio : Vector Byte 1152) (s : State) : State :=
  let p := s.pods[l]
  if h.good then
    let s1 := s.setPod l { p with goodRun := p.goodRun + 1, elements := h.count }
    if p.depth ≤ p.goodRun + 1 then enterSync l h audio s1 else s1
  else s.setPod l { p with framing := .hunt, goodRun := 0, place := nextPlace p.place }

/-- HUNT_MATCH: the search of a link in HUNT through the bytes of its stream, from the position at which it began, to the
first match (R151). While the stream holds no match nothing changes, and outside HUNT the event does not come about. -/
def execHuntMatch (l : PodLink) (searched : List Byte) (h : PodHeader) (s : State) : Host.Outcome State Fault Refusal :=
  .next (if s.pods[l].framing = .hunt then
      match searchHeader (searched ++ h.bytes) with
      | some (k, m) => huntMatch l k m s
      | none => s
    else s)

/-- PRESYNC_JUDGEMENT: the header at the expected place of a link in PRESYNC (R152). Otherwise the event does not come
about. -/
def execPresyncJudgement (l : PodLink) (h : PodHeader) (audio : Vector Byte 1152) (s : State) :
    Host.Outcome State Fault Refusal :=
  .next (if s.pods[l].framing = .presync then judgePresync l h audio s else s)

/-- GOOD_FRAME_IN_SYNC: a good header at the expected place of a link in SYNC (R154). Otherwise the event does not come
about. -/
def execGoodFrameInSync (l : PodLink) (h : PodHeader) (audio : Vector Byte 1152) (s : State) :
    Host.Outcome State Fault Refusal :=
  .next (if s.pods[l].framing = .sync ∧ h.good = true then goodFrame l h audio s else s)

/-- BAD_FRAME_IN_SYNC: a bad header at the expected place of a link in SYNC (R158). Otherwise the event does not come
about. -/
def execBadFrameInSync (l : PodLink) (h : PodHeader) (s : State) : Host.Outcome State Fault Refusal :=
  .next (if s.pods[l].framing = .sync ∧ h.good = false then badFrame l s else s)

/-! ### The outgoing frame (R79, R97, R163, R207) -/

/-- The speaking tag: the slot of the OPEN member nearest the tail of the floor list, or none (R79). -/
def speakingTag (s : State) : Option SrcSlot :=
  s.floor.list.reverse.find? fun i => s.floorState i == some .opened

/-- What the outgoing frame of pod l carries, from the records as they stand when the block begins (R163). -/
def outHead (s : State) (l : PodLink) : OutHead where
  noFeed := !destHeld s (.podSpk l)
  tag := speakingTag s
  codes := Vector.ofFn fun e => indicatorAt s l e

/-- The five header bytes of an outgoing frame (R207). -/
def OutHead.bytes (h : OutHead) : List Byte :=
  let b0 : Byte := 0xC5
  let b1 := BitVec.ofNat 8 (h.noFeed.toNat * 128 + (match h.tag with
    | some i => i.val
    | none => 127))
  let b2 := BitVec.ofNat 8 (h.codes[1].toNat * 16 + h.codes[0].toNat)
  let b3 := BitVec.ofNat 8 (h.codes[3].toNat * 16 + h.codes[2].toNat)
  [b0, b1, b2, b3, crc8 [b0, b1, b2, b3]]

/-- The 293 bytes of an outgoing frame: its header and its block (R164, R207). -/
def OutHead.frame (h : OutHead) (audio : Block) : List Byte := h.bytes ++ blockBytes audio

/-- What link l sends to its pod for the latest frame, bit by bit (R200). -/
def Pod.lineOut (p : Pod) : List Bool := lineBits (p.sent.getD [])

/-! ### The pod commands (R160, R166) -/

/-- POD.SETUP (R160). -/
def takePodSetup (link depth : Byte) (s : State) : Taken :=
  match numberBelow 16 link with
  | none => .refused .badParam
  | some l =>
    if depth.toNat = 2 ∨ depth.toNat = 3 then .write (s.setPod l { s.pods[l] with depth := depth.toNat })
    else .refused .badParam

/-- The three words of a POD.GET (R166, R205). Bits 3 and 2 of word 1, which the layout does not name, are 0: the model's
choice (notes/assumptions/21.md). -/
def podWords (p : Pod) : List Word :=
  [natWord (p.framing.code * 256 + p.goodRun * 16 + p.badRun),
    natWord (p.depth * 256 + p.elements * 16 + p.head.noFeed.toNat * 2 + p.privacy.toNat),
    natWord (p.head.codes[3].toNat * 4096 + p.head.codes[2].toNat * 256 + p.head.codes[1].toNat * 16
      + p.head.codes[0].toNat)]

/-- POD.GET (R166). -/
def takePodGet (link : Byte) (s : State) : Taken :=
  match numberBelow 16 link with
  | none => .refused .badParam
  | some l => .read (podWords s.pods[l]) s

/-- POD.SETUP as a host command (R160). -/
def execPodSetup (link depth : Byte) (s : State) : Host.Outcome State Fault Refusal :=
  .next (hostPacket 0x40 (takePodSetup link depth) s)

/-- POD.GET as a host command (R166). -/
def execPodGet (link : Byte) (s : State) : Host.Outcome State Fault Refusal :=
  .next (hostPacket 0x41 (takePodGet link) s)

end Sys2Proof.Machine
end

