-- ==== Sys2Proof/Machine/FarEnd.lean ====
section
/-! DEFINITION. The far-end ports (chapter 9): the codec side, the clock watch, and both elastic buffers. A function of
one port answers the port and whether the event set SLIP (R178). -/

namespace Sys2Proof.Machine

/-! ### The codec side (R170, R172, R173, R177) -/

/-- The input arrival of 96 assembled samples (the table of R173). -/
def Port.arrive (p : Port) (b : Block) : Port × Bool :=
  match p.state with
  | .down => (p, false)
  | .priming =>
    if p.input.length = 0 then ({ p with input := p.input ++ [b] }, false)
    else ({ p with input := p.input ++ [b], state := .running }, false)
  | .running =>
    if p.input.length < 4 then ({ p with input := p.input ++ [b] }, false)
    else ({ p with input := p.input.tail ++ [b], inOver := raise p.inOver 1 }, true)

/-- The codec take of the next send block (the table of R177). -/
def Port.take (p : Port) : Port × Bool :=
  if p.primed then
    match p.output with
    | b :: rest => ({ p with send := b, output := rest }, false)
    | [] => ({ p with send := silence, outUnder := raise p.outUnder 1, primed := false }, true)
  else ({ p with send := silence }, false)

/-- A pulse taken in DOWN: the return of the clock (R172). -/
def Port.clockReturn (p : Port) (x : Sample) : Port :=
  { p with
    state := .priming
    input := []
    output := []
    asm := silence.set 0 x
    fill := 1
    primed := false
    send := silence
    idle := 0
    seen := true
    codecOut := 0 }

/-- A pulse taken in PRIMING or RUNNING: the frame-seen flag, the sample into the assembly and one sample of the send
block out, and at the 96th sample the codec block boundary with its arrival and its take (R170). -/
def Port.pulse (p : Port) (x : Sample) : Port × Bool :=
  let asm := p.asm.set p.fill x
  let p1 := { p with seen := true, codecOut := p.send[p.fill] }
  if h : p.fill.val + 1 < 96 then ({ p1 with asm := asm, fill := ⟨p.fill.val + 1, h⟩ }, false)
  else
    let (p2, slipIn) := { p1 with asm := silence, fill := 0 }.arrive asm
    let (p3, slipOut) := p2.take
    (p3, slipIn || slipOut)

/-- One codec pulse at a port (R170, R172). -/
def codecPulse (p : FarPort) (x : Sample) (s : State) : State :=
  let r := s.ports[p]
  if r.state = .down then s.setPort p (r.clockReturn x)
  else (s.setPort p (r.pulse x).1).addNoticeIf (r.pulse x).2 .slip

/-- CODEC_PULSE (R170). -/
def execCodecPulse (p : FarPort) (x : Sample) (s : State) : Host.Outcome State Fault Refusal :=
  .next (codecPulse p x s)

/-! ### The clock watch (R171) -/

/-- The entry into DOWN (R171 steps 1 to 3). -/
def Port.clockLoss (p : Port) : Port :=
  { p with
    state := .down
    input := []
    asm := silence
    fill := 0
    output := []
    send := silence
    primed := false
    clockLosses := raise p.clockLosses 1 }

/-- A port that has counted 8 block periods without a frame clock enters DOWN (R171). -/
def Port.judgeIdle (p : Port) : Port × Bool :=
  if p.state ≠ .down ∧ 8 ≤ p.idle then (p.clockLoss, true) else (p, false)

/-- The clock watch of one port at a block start (R171). -/
def Port.watch (p : Port) : Port × Bool :=
  if p.state = .down then (p, false)
  else if p.seen then ({ p with idle := 0, seen := false }, false)
  else { p with idle := p.idle + 1 }.judgeIdle

/-- CLOCK_LOSS: a port in PRIMING or RUNNING whose idle count has reached 8 enters DOWN and SLIP is set (R171). Otherwise
the event does not come about. -/
def execClockLoss (p : FarPort) (s : State) : Host.Outcome State Fault Refusal :=
  .next ((s.setPort p s.ports[p].judgeIdle.1).addNoticeIf s.ports[p].judgeIdle.2 .slip)

/-! ### The part's side (R174, R176) -/

/-- The block FAR(p) receives at a block start (R174). -/
def Port.given (p : Port) : Block :=
  match p.state, p.input with
  | .running, b :: _ => b
  | _, _ => silence

/-- What the delivery at a block start leaves of the port (the table of R174). -/
def Port.deliver (p : Port) : Port × Bool :=
  match p.state, p.input with
  | .running, _ :: rest => ({ p with input := rest }, false)
  | .running, [] => ({ p with inUnder := raise p.inUnder 1, state := .priming }, true)
  | _, _ => (p, false)

/-- The output write of one block (the table of R176). -/
def Port.write (p : Port) (b : Block) : Port × Bool :=
  if p.state = .down then (p, false)
  else if p.output.length < 4 then
    ({ p with output := p.output ++ [b], primed := p.primed || decide (2 ≤ p.output.length + 1) }, false)
  else ({ p with output := p.output.tail ++ [b], outOver := raise p.outOver 1 }, true)

/-- Every port moved by a function of its number and itself, SLIP set when one of them slipped (R178). -/
def movePorts (f : FarPort → Port → Port × Bool) (s : State) : State :=
  { s with ports := Vector.ofFn fun p => (f p s.ports[p]).1 }.addNoticeIf
    ((List.finRange 8).any fun p => (f p s.ports[p]).2) .slip

/-! ### PORT.GET (R179) -/

/-- The two words of a PORT.GET (R179, R205). Bits 15 to 9 and 7 to 4 of word 1, which the layout does not name, are 0: the
model's choice (notes/assumptions/21.md). -/
def portWords (p : Port) : List Word :=
  [natWord (p.state.code * 256 + p.input.length * 16 + p.output.length), natWord (p.primed.toNat * 256 + p.idle)]

/-- PORT.GET (R179). -/
def takePortGet (port : Byte) (s : State) : Taken :=
  match numberBelow 8 port with
  | none => .refused .badParam
  | some p => .read (portWords s.ports[p]) s

/-- PORT.GET as a host command (R179). -/
def execPortGet (port : Byte) (s : State) : Host.Outcome State Fault Refusal :=
  .next (hostPacket 0x48 (takePortGet port) s)

end Sys2Proof.Machine
end

