-- ==== Sys2Proof/Machine/Mixer.lean ====
section
/-! DEFINITION. The Mixer (chapter 6, sections 6.4 to 6.6, and R96, R97): the contribution index, the coefficient, the
mix sum, the clamp and the clips, and where the blocks of a mix block go. -/

namespace Sys2Proof.Machine

/-! ### The coefficient (R114) -/

/-- An integer m, 1 or more, is at most 8192 x 10^(E/40) + 1/2: in integers, (2m - 1)^40 is at most 16384^40 x 10^E
(R114). -/
def coefReaches (e : Int) (m : Nat) : Bool :=
  decide ((2 * m - 1) ^ 40 * 10 ^ (-e).toNat ≤ 16384 ^ 40 * 10 ^ e.toNat)

/-- The greatest m of `bits` binary digits, no less than `acc`, that the coefficient's formula reaches. -/
def coefSearch (e : Int) : Nat → Nat → Nat
  | 0, acc => acc
  | bits + 1, acc => coefSearch e bits (if coefReaches e (acc + 2 ^ bits) then acc + 2 ^ bits else acc)

/-- The coefficient c(E): 0 when E is OFF, and otherwise 8192 x 10^(E/40) rounded to the nearest integer, a half up
(R114). It is at most 32 613, below 2^15. -/
def coefficient (e : Int) : Nat := if e = off then 0 else coefSearch e 15 0

/-! ### The contribution index (R96, R112) -/

/-- The site exclusion: the origin stands at the site of the destination (R96). -/
def sameSite : Origin → Destination → Bool
  | .pod l _, .podSpk l' => l == l'
  | .far p, .farSend p' => p == p'
  | .aux a, .auxOut a' => a == a'
  | _, _ => false

/-- The site exclusion between a source and a feed as read for a block. -/
def siteExcluded (x : SrcView) (f : FeedView) : Bool :=
  match x.origin, f.dest with
  | some o, some d => sameSite o d
  | _, _ => false

/-- The group exclusion: the source's groups meet the feed's excluded groups (R96). -/
def groupExcluded (x : SrcView) (f : FeedView) : Bool := (x.groups &&& f.excluded) != 0

/-- The contribution index E of a source to a feed: OFF when R96 forces it, and otherwise the sum of used crosspoint, used
source gain and used feed gain, clamped to -192 to +24 (R96, R112). -/
def contribution (xp : Int) (src : Option SrcView) (f : FeedView) : Int :=
  match src with
  | none => off
  | some x =>
    if siteExcluded x f || groupExcluded x f || xp == off || x.gain == off || f.gain == off then off
    else clampGain (xp + x.gain + f.gain)

/-! ### The mix sum (R115 to R118) -/

/-- The block a source slot received in the mix block, silence for a FREE slot (R115). -/
def viewBlock : Option SrcView → Block
  | some x => x.block
  | none => silence

/-- The terms of a feed: for every source slot its coefficient and its block (R115). -/
def mixTerms (v : MixView) (f : FeedSlot) (x : FeedView) : List (Int × Block) :=
  srcSlots.map fun i => ((coefficient (contribution v.xp[f][i] v.srcs[i] x) : Int), viewBlock v.srcs[i])

/-- The sum acc of sample position i (R115). -/
def mixSum (terms : List (Int × Block)) (i : Fin 96) : Int :=
  terms.foldl (fun acc t => acc + t.2[i].toInt * t.1) 0

/-- The sum scaled: floor((acc + 4096) / 8192) (R116). -/
def scaleSum (acc : Int) : Int := (acc + 4096).fdiv 8192

/-- An output sample clamped to the 24-bit range (R117). -/
def clampSample (y : Int) : Int := clampInt (-8388608) 8388607 y

/-- The block of a feed (R117). -/
def feedBlock (terms : List (Int × Block)) : Block :=
  Vector.ofFn fun i => BitVec.ofInt 24 (clampSample (scaleSum (mixSum terms i)))

/-- The number of output samples of a feed's block that the clamp changes (R118). -/
def clipCount (terms : List (Int × Block)) : Nat :=
  ((List.finRange 96).filter fun i => clampSample (scaleSum (mixSum terms i)) != scaleSum (mixSum terms i)).length

/-! ### Where the blocks go (R86, R97, R163, R176, R181) -/

/-- The feed that held a destination when the block began (R86). -/
def feedAt (v : MixView) (d : Destination) : Option FeedSlot :=
  feedSlots.find? fun f => match v.feeds[f] with
    | some x => x.dest == some d
    | none => false

/-- The block a destination receives: that of the feed that held it, and otherwise silence (R86, R97). -/
def blockFor (v : MixView) (d : Destination) : Block :=
  match feedAt v d with
  | some f => match v.feeds[f] with
    | some x => feedBlock (mixTerms v f x)
    | none => silence
  | none => silence

/-- The clips of a feed slot in the block: none for a slot that is not formed (R118). -/
def clipsOf (v : MixView) (f : FeedSlot) : Nat :=
  match v.feeds[f] with
  | some x => clipCount (mixTerms v f x)
  | none => 0

/-- The blocks of a mix block's destinations: for each that of the feed that held it when the block began, and otherwise
silence (R85, R97, R117). -/
def outputsOf (v : MixView) : BlockOutputs where
  pods := Vector.ofFn fun l => blockFor v (.podSpk l)
  far := Vector.ofFn fun p => blockFor v (.farSend p)
  aux := Vector.ofFn fun a => blockFor v (.auxOut a)

/-- What a mix block gives its destinations once its feeds are formed: the frame sent to every pod link, with the header
fixed when the block began (R163, R164), the block of every aux output (R181), and the one output write of every far-end
port (R176). -/
def giveOutputs (o : BlockOutputs) (s : State) : State :=
  movePorts (fun p r => r.write o.far[p])
    { s with
      pods := Vector.ofFn fun l => { s.pods[l] with sent := some (s.pods[l].head.frame o.pods[l]) }
      auxOut := o.aux
      mix := none
      outputsDue := none }

/-- The feeds of the mix block in progress formed: clip counters and CLIP (R118), and every destination given its block.
The view is spent. -/
def formFeeds (v : MixView) (s : State) : State :=
  giveOutputs (outputsOf v) ((s.mapFeeds fun f x => { x with clips := raise x.clips (clipsOf v f) }).addNoticeIf
    (feedSlots.any fun f => decide (0 < clipsOf v f)) .clip)

/-- FEEDS_FORMED, once in a mix block (R115): the feeds of the block in progress, or, where an ENGINE.RESET has been taken
in it, the blocks its destinations are still to be given (R85), which find the part as the reset has left it (R198). With
no block in progress, or its feeds already formed, the event does not come about. -/
def feedsFormed (s : State) : State :=
  match s.mix with
  | some v => formFeeds v s
  | none => match s.outputsDue with
    | some o => giveOutputs o s
    | none => s

/-- FEEDS_FORMED (R115). -/
def execFeedsFormed (s : State) : Host.Outcome State Fault Refusal := .next (feedsFormed s)

end Sys2Proof.Machine
end

