-- ==== Sys2Proof/Machine/MixBlock.lean ====
section
/-! DEFINITION. The start of a mix block: block number, swap effect and stamps (R77, R130), clock watch (R171), the
delivery of every source's block (R150, R174, R181), the step of every ramp (R107), and what the Mixer and the outgoing
frames read (R109, R113, R163). -/

namespace Sys2Proof.Machine

/-- The Floor Controller's and the Bank Store's work at a block start, once the block number has advanced: the swap
effect when a swap is pending, and otherwise the stamps that stop being live (R77, R130). -/
def startWork (s : State) : State :=
  if s.banks.swap = .swapPending then swapEffect s else stampService s

/-- The block a source of an origin receives at the block start (R150, R174, R181). A pod's holding is given as it
stands (R150), also to a source attached after the frame that filled it, which R167 gives audio "from the first frame
taken after its attach": the model's choice, notes/assumptions/19.md. -/
def blockFrom (s : State) (aux : Vector Block 8) : Origin → Block
  | .pod l e => match s.pods[l].holding with
    | some bs => bs.getD e.val silence
    | none => silence
  | .far p => s.ports[p].given
  | .aux a => aux[a]

/-- Every non-FREE source receives its block; every frame holding is emptied; every far-end input buffer gives its block
or silence (R3, R150, R174). A source attached since its pod's frame event receives that frame's block
(notes/assumptions/19.md). -/
def deliver (aux : Vector Block 8) (s : State) : State :=
  let s1 := s.mapSrcs fun _ x =>
    if x.inUse then { x with inBlock := x.origin.map (blockFrom s aux) } else x
  movePorts (fun _ p => p.deliver)
    { s1 with pods := Vector.ofFn fun l => { s1.pods[l] with holding := none } }

/-- Every ramp takes its step (R107, R110). -/
def stepRamps (s : State) : State :=
  let s1 := (s.mapSrcs fun _ x => { x with gain := x.gain.step }).mapFeeds fun _ x => { x with gain := x.gain.step }
  { s1 with xpRamps := Matrix.ofFn fun f i => s.xpRamps[f][i].map XpRamp.step }

/-- A source as the Mixer reads it (R113). -/
def viewSrc (x : Source) : Option SrcView :=
  if x.inUse then some ⟨x.origin, x.groups, x.gain.current, x.inBlock.getD silence⟩ else none

/-- A feed as the Mixer reads it (R113). -/
def viewFeed (x : Feed) : Option FeedView := if x.inUse then some ⟨x.dest, x.excluded, x.gain.current⟩ else none

/-- What the Mixer reads for the block that begins (R109, R110, R113). -/
def mixView (s : State) : MixView where
  srcs := Vector.ofFn fun i => viewSrc s.srcs[i]
  feeds := Vector.ofFn fun f => viewFeed s.feeds[f]
  xp := Matrix.ofFn fun f i => usedCrosspoint s.banks.opBank.xp[f][i] s.xpRamps[f][i]

/-- The Mixer's reading and the outgoing frames' header fields fixed for the block (R85, R113, R163). -/
def readBlock (s : State) : State :=
  { s with
    mix := some (mixView s)
    outputsDue := none
    pods := Vector.ofFn fun l => { s.pods[l] with head := outHead s l } }

/-- The start of a mix block (R77). The clock watch comes before the delivery (R174), and the block start's own work
before the Mixer reads the gains (R109). -/
def startBlock (aux : Vector Block 8) (s : State) : State :=
  let s1 := startWork { s with floor := { s.floor with block := s.floor.block + 1 } }
  let s2 := movePorts (fun _ p => p.watch) s1
  readBlock (stepRamps (deliver aux s2))

/-- MIX_BLOCK_START, with the blocks the aux inputs received in the period before (R77, R181). -/
def execMixBlockStart (aux : Vector Block 8) (s : State) : Host.Outcome State Fault Refusal :=
  .next (startBlock aux s)

end Sys2Proof.Machine
end

