-- ==== Sys2Proof/Machine/Notices.lean ====
section
/-! DEFINITION. NOTE.GET, NOTE.MASK and COUNT.GET (R194 to R196). -/

namespace Sys2Proof.Machine

/-- NOTE.GET: DATA is the notice set as it stands, and every kind it reports leaves the set within the same event
(R194). -/
def takeNoteGet (s : State) : Taken :=
  .taken { Reply.plain with words := some [s.notice.set.toWord], removed := s.notice.set }
    { s with notice := s.notice.withSet .none }

/-- NOTE.MASK (R195). -/
def takeNoteMask (mask : Byte) (s : State) : Taken :=
  .write { s with notice := s.notice.withMask (.ofByte mask) }

/-- The counters of a target, in the order of R196. -/
def counters (s : State) : CountTarget → List Nat
  | .podLink l => [s.pods[l].goodFrames, s.pods[l].headerErrors, s.pods[l].syncLosses]
  | .farPort p => [s.ports[p].inOver, s.ports[p].inUnder, s.ports[p].outOver, s.ports[p].outUnder,
      s.ports[p].clockLosses]
  | .feed f => [s.feeds[f].clips]

/-- The counters of a target set to 0 (R165, R178, R99). -/
def clearCounters (s : State) : CountTarget → State
  | .podLink l => s.setPod l { s.pods[l] with goodFrames := 0, headerErrors := 0, syncLosses := 0 }
  | .farPort p =>
    s.setPort p { s.ports[p] with inOver := 0, inUnder := 0, outOver := 0, outUnder := 0, clockLosses := 0 }
  | .feed f => s.setFeed f { s.feeds[f] with clips := 0 }

/-- COUNT.GET: the counters are read when the command is taken and cleared when its DATA has been sent (R196). -/
def takeCountGet (kind number : Byte) (s : State) : Taken :=
  match countTargetOf kind number with
  | none => .refused .badParam
  | some t => .taken { Reply.plain with words := some ((counters s t).map natWord), clears := some t } s

/-- NOTE.GET as a host command (R194). -/
def execNoteGet (s : State) : Host.Outcome State Fault Refusal := .next (hostPacket 0x50 takeNoteGet s)

/-- NOTE.MASK as a host command (R195). -/
def execNoteMask (mask : Byte) (s : State) : Host.Outcome State Fault Refusal :=
  .next (hostPacket 0x51 (takeNoteMask mask) s)

/-- COUNT.GET as a host command (R196). -/
def execCountGet (kind number : Byte) (s : State) : Host.Outcome State Fault Refusal :=
  .next (hostPacket 0x52 (takeCountGet kind number) s)

end Sys2Proof.Machine
end

