-- ==== Sys2Proof/Machine/Resets.lean ====
section
/-! DEFINITION. ENGINE.RESET and power-on reset (R197 to R199). -/

namespace Sys2Proof.Machine

/-- A pod link record through ENGINE.RESET: framing, runs, sync depth, element count and held privacy kept, the holding
emptied, the counters 0 (R167). The header fields of the latest block that has begun stay too: they are of that block
(R163), whose frame is still due (`cutBlock`, notes/assumptions/4.md). -/
def Pod.engineReset (p : Pod) : Pod :=
  { p with holding := none, goodFrames := 0, headerErrors := 0, syncLosses := 0 }

/-- A far-end port record through ENGINE.RESET: PRIMING and RUNNING become PRIMING with both buffers empty, DOWN stays
DOWN, assembly, send block, frame-seen flag and idle count kept, the counters 0 (R169, R180). -/
def Port.engineReset (p : Port) : Port :=
  { p with
    state := if p.state = .down then .down else .priming
    input := []
    output := []
    primed := false
    inOver := 0
    inUnder := 0
    outOver := 0
    outUnder := 0
    clockLosses := 0 }

/-- A mix block in progress cut short: nothing of it is left but the blocks its destinations are still to be given, as it
was read when it began (R85). -/
def cutBlock (s : State) : State :=
  match s.mix with
  | some v => { s with mix := none, outputsDue := some (outputsOf v) }
  | none => s

/-- Every record at its value after ENGINE.RESET (R197). The receive state and the error set are its packet's (R198). -/
def resetRecords (s : State) : State :=
  { s with
    srcs := Vector.replicate 80 .free
    feeds := Vector.replicate 32 (.free 0)
    mute := ⟨0, false⟩
    floor := .reset
    banks := .reset
    xpRamps := Matrix.const none
    pods := Vector.ofFn fun l => s.pods[l].engineReset
    ports := Vector.ofFn fun p => s.ports[p].engineReset
    notice := .reset }

/-- ENGINE.RESET (R197). What a mix block in progress gives its destinations stays due, as the block began, so that the
reset is seen by no sample of it (R2, R18, R85, R100, R113) and its frames carry the header fixed at its start (R163). A
FEEDS_FORMED taken afterwards acts on the reset state (R198): it counts no clip (R99, R120) and gives the destinations
these blocks, the far-end ports as the reset has left them (R163, R176, R181); every later block gives them the silence of
R97 (R100, R120, R180). That these rules are kept together in this way is the model's reading of them
(notes/assumptions/4.md). -/
def engineReset (s : State) : State := resetRecords (cutBlock s)

/-- ENGINE.RESET taken; its reply says so, since R198 ties the error set to its answer. -/
def takeEngineReset (s : State) : Taken := .taken { Reply.plain with engineReset := true } (engineReset s)

/-- ENGINE.RESET as a host command (R197, R198). -/
def execEngineReset (s : State) : Host.Outcome State Fault Refusal := .next (hostPacket 0x5F takeEngineReset s)

/-- POWER_ON_RESET (R199): every field at its power-on value, but the aux outputs, which both resets leave as they are
(R181). A mix block in progress is not formed (notes/assumptions/12.md). The commands that wait, and the model's counter
of free values, are no state of the part and stay. -/
def execPowerOnReset (s : State) : Host.Outcome State Fault Refusal :=
  .next { State.reset with auxOut := s.auxOut, freeCount := s.freeCount, pending := s.pending }

end Sys2Proof.Machine
end

