-- ==== Sys2Proof/Machine/ControlLink.lean ====
section
/-! DEFINITION. The Control Link Interface (chapter 10): packets byte by byte, their judgement, the answers owed, the
turnaround and the sending, and the bytes of an answer (R205). -/

namespace Sys2Proof.Machine

/-! ### The taking of a command (R186) -/

/-- A command's own checks and its effect, in the block that owns it (R186 check 3). -/
def takeCommand (c : HostCmd) (s : State) : Taken :=
  match c with
  | .srcAttach slot chair origin trim groups => takeSrcAttach slot chair origin trim groups s
  | .srcRetire slot => takeSrcRetire slot s
  | .srcTrim slot trim => takeSrcTrim slot trim s
  | .srcGroups slot groups => takeSrcGroups slot groups s
  | .srcGet slot => takeSrcGet slot s
  | .srcMute slot on => takeSrcMute slot on s
  | .grpMute group on => takeGrpMute group on s
  | .roomMute on => takeRoomMute on s
  | .muteGet => takeMuteGet s
  | .floorGet => takeFloorGet s
  | .floorReset => takeFloorReset s
  | .feedAttach slot dest master excluded => takeFeedAttach slot dest master excluded s
  | .feedRetire slot => takeFeedRetire slot s
  | .feedLevel slot master => takeFeedLevel slot master s
  | .feedMute slot on => takeFeedMute slot on s
  | .feedExclude slot groups => takeFeedExclude slot groups s
  | .feedGet slot => takeFeedGet slot s
  | .bankSwap => takeBankSwap s
  | .bankCopy => takeBankCopy s
  | .bankGet => takeBankGet s
  | .paramSet pairs => takeParamSet pairs s
  | .paramGet bank => takeParamGet bank s
  | .xpWindow fs fe ss se order fr sr => takeXpWindow fs fe ss se order fr sr s
  | .xpPut words => takeXpPut words s
  | .xpPutNext words => takeXpPutNext words s
  | .xpTake count => takeXpTake count s
  | .xpTakeNext count => takeXpTakeNext count s
  | .podSetup link depth => takePodSetup link depth s
  | .podGet link => takePodGet link s
  | .portGet port => takePortGet port s
  | .noteGet => takeNoteGet s
  | .noteMask mask => takeNoteMask mask s
  | .countGet kind number => takeCountGet kind number s
  | .engineReset => takeEngineReset s

/-- A complete packet judged (R186): UNKNOWN_CMD, LENGTH, the command's own checks, then its taking. -/
def judgePacket (wanted : Bool) (code : Byte) (body : PacketBody) (s : State) : State :=
  settle code wanted s (match decodePacket code body with
    | .ok c => takeCommand c s
    | .error k => .refused k)

/-! ### Packet events (R182, R184, R185) -/

/-- PACKET_START (R182, R185, R191). -/
def execPacketStart (s : State) : Host.Outcome State Fault Refusal := .next (openPacket s)

/-- A header read once its check has shown no error or has corrected one (R184): a short one completes its packet, a
long one moves the interface to PAYLOAD. -/
def acceptHeader (d : BitVec 32) (s : State) : State :=
  let h := Header.ofContent d
  if h.long then { s with ctl := { s.ctl with rx := .payload h.wanted h.code h.wordCount } }
  else judgePacket h.wanted h.code (.short h.p1 h.p2) s

/-- The five header bytes judged by their check (R184, R202). -/
def judgeHeaderBytes (b0 b1 b2 b3 b4 : Byte) (s : State) : State :=
  match judgeHeader (headerContent b0 b1 b2 b3) b4 with
  | .correct => acceptHeader (headerContent b0 b1 b2 b3) s
  | .corrected d => acceptHeader d (s.addError .hdrCorrected)
  | .failed =>
    let s := s.addError .hdrFailed
    { s with ctl := { s.ctl with rx := .discard } }

/-- HEADER_COMPLETE: the fifth header byte, in HEADER (R184). In every other receive state the bytes belong to no header
in progress and change nothing (R182, R190). -/
def execHeaderComplete (b0 b1 b2 b3 b4 : Byte) (s : State) : Host.Outcome State Fault Refusal :=
  .next (match s.ctl.rx with
    | .header => judgeHeaderBytes b0 b1 b2 b3 b4 s
    | _ => s)

/-- The payload and its check judged (R185): a CRC that does not agree adds PAYLOAD_CHECK and discards the packet, which
still owes what its header calls for (R188). -/
def judgePayload (wanted : Bool) (code : Byte) (words : List Word) (check : Word) (s : State) : State :=
  if crc16 words = check then judgePacket wanted code (.long words) s
  else owe code wanted .plain (s.addError .payloadCheck)

/-- PAYLOAD_COMPLETE: the payload check, after as many words as the header's word count, in PAYLOAD (R185). With another
number of words the payload is not complete, and in every other receive state there is none: nothing changes. -/
def execPayloadComplete (words : List Word) (check : Word) (s : State) : Host.Outcome State Fault Refusal :=
  .next (match s.ctl.rx with
    | .payload wanted code count => if words.length = count then judgePayload wanted code words check s else s
    | _ => s)

/-! ### Answers (R189, R190) -/

/-- The answers an owed packet calls for, from what it did and from the error set at the turnaround (R189). -/
def answersFor (code : Byte) (r : Reply) (e : ErrSet) : List Answer :=
  match r.words with
  | some ws => if e = .none then [.data code ws] else [.data code ws, .errorReport code e]
  | none => if e = .none then [.ack code] else [.errorReport code e]

/-- The turnaround (R182, R190): in OWED the part begins to answer, in HEADER and PAYLOAD the packet in progress is cut
short (R185), in IDLE and DISCARD nothing is sent, in ANSWERING it is not received. -/
def turnAround (s : State) : State :=
  match s.ctl.rx with
  | .owed code r => { s with ctl := { s.ctl with rx := .answering (answersFor code r s.ctl.errors) r } }
  | .header => { s with ctl := { s.ctl with rx := .idle } }
  | .payload _ _ _ =>
    let s := s.addError .length
    { s with ctl := { s.ctl with rx := .idle } }
  | _ => s

/-- TURNAROUND (R190). -/
def execTurnaround (s : State) : Host.Outcome State Fault Refusal := .next (turnAround s)

/-- What the sending of one answer carries out: after the DATA of a COUNT.GET its counters are cleared (R190, R196),
after an ERROR REPORT the error set is emptied (R187, R190). -/
def carryOut (a : Answer) (r : Reply) (s : State) : State :=
  match a with
  | .data _ _ => match r.clears with
    | some t => clearCounters s t
    | none => s
  | .ack _ => s
  | .errorReport _ _ => { s with ctl := { s.ctl with errors := .none } }

/-- The line handed back once the last answer has been sent (R190); the error set is emptied with ENGINE.RESET's answer
(R198). -/
def handBack (r : Reply) (s : State) : State :=
  { s with ctl := { rx := .idle, errors := if r.engineReset then .none else s.ctl.errors } }

/-- The first of the answers sent: what its sending carries out, then the rest to send, or the line handed back (R190). -/
def answerSent (as : List Answer) (r : Reply) (s : State) : State :=
  match as with
  | [] => handBack r s
  | [a] => handBack r (carryOut a r s)
  | a :: rest =>
    let s1 := carryOut a r s
    { s1 with ctl := { s1.ctl with rx := .answering rest r } }

/-- ANSWER_SENT: in ANSWERING one answer, the DATA or the ERROR REPORT or the ACK, has been sent (R190,
notes/assumptions/18.md). Otherwise the event does not come about. -/
def execAnswerSent (s : State) : Host.Outcome State Fault Refusal :=
  .next (match s.ctl.rx with
    | .answering as r => answerSent as r s
    | _ => s)

/-- The five bytes of an answer's header (R205). -/
def answerHeader (kind code b2 b3 : Byte) : List Byte := [kind, code, b2, b3, headerCheck (headerContent kind code b2 b3)]

/-- The bytes of an answer as the part sends them: header, and for DATA the payload words and their check (R205). -/
def Answer.bytes : Answer → List Byte
  | .data code ws =>
    answerHeader 0x01 code 0 (BitVec.ofNat 8 (ws.length - 1))
      ++ wordBytes (ws ++ [crc16 ws])
  | .ack code => answerHeader 0x02 code 0 0
  | .errorReport code e => answerHeader 0x03 code (hiByte e.toWord) (loByte e.toWord)

/-- What the part has to send on the data line while it owns it (R182, R190, R205). -/
def State.lineOut (s : State) : List Byte :=
  match s.ctl.rx with
  | .answering as _ => as.flatMap Answer.bytes
  | _ => []

/-- The same bit by bit, every byte most significant bit first (R200). -/
def State.lineOutBits (s : State) : List Bool := lineBits s.lineOut

end Sys2Proof.Machine
end

