-- ==== Sys2Proof/Machine/Dispatch.lean ====
section
/-! DEFINITION. One arm for every row of spec/opcode_table.json: its meaning. -/

namespace Sys2Proof.Machine

/-- The meaning of each command and event: its effect on everything but the queue. -/
def exec (i : Instr) (s : State) : Host.Outcome State Fault Refusal :=
  match i with
  | .srcAttach slot chair origin trim groups => Sys2Proof.Machine.execSrcAttach slot chair origin trim groups s
  | .srcRetire slot => Sys2Proof.Machine.execSrcRetire slot s
  | .srcTrim slot trim => Sys2Proof.Machine.execSrcTrim slot trim s
  | .srcGroups slot groups => Sys2Proof.Machine.execSrcGroups slot groups s
  | .srcGet slot => Sys2Proof.Machine.execSrcGet slot s
  | .srcMute slot on => Sys2Proof.Machine.execSrcMute slot on s
  | .grpMute group on => Sys2Proof.Machine.execGrpMute group on s
  | .roomMute on => Sys2Proof.Machine.execRoomMute on s
  | .muteGet => Sys2Proof.Machine.execMuteGet s
  | .floorGet => Sys2Proof.Machine.execFloorGet s
  | .floorReset => Sys2Proof.Machine.execFloorReset s
  | .feedAttach slot dest master excluded => Sys2Proof.Machine.execFeedAttach slot dest master excluded s
  | .feedRetire slot => Sys2Proof.Machine.execFeedRetire slot s
  | .feedLevel slot master => Sys2Proof.Machine.execFeedLevel slot master s
  | .feedMute slot on => Sys2Proof.Machine.execFeedMute slot on s
  | .feedExclude slot groups => Sys2Proof.Machine.execFeedExclude slot groups s
  | .feedGet slot => Sys2Proof.Machine.execFeedGet slot s
  | .bankSwap => Sys2Proof.Machine.execBankSwap s
  | .bankCopy => Sys2Proof.Machine.execBankCopy s
  | .bankGet => Sys2Proof.Machine.execBankGet s
  | .paramSet pairs => Sys2Proof.Machine.execParamSet pairs s
  | .paramGet bank => Sys2Proof.Machine.execParamGet bank s
  | .xpWindow feedStart feedEnd srcStart srcEnd order feedRev srcRev => Sys2Proof.Machine.execXpWindow feedStart feedEnd srcStart srcEnd order feedRev srcRev s
  | .xpPut words => Sys2Proof.Machine.execXpPut words s
  | .xpPutNext words => Sys2Proof.Machine.execXpPutNext words s
  | .xpTake count => Sys2Proof.Machine.execXpTake count s
  | .xpTakeNext count => Sys2Proof.Machine.execXpTakeNext count s
  | .podSetup link depth => Sys2Proof.Machine.execPodSetup link depth s
  | .podGet link => Sys2Proof.Machine.execPodGet link s
  | .portGet port => Sys2Proof.Machine.execPortGet port s
  | .noteGet => Sys2Proof.Machine.execNoteGet s
  | .noteMask mask => Sys2Proof.Machine.execNoteMask mask s
  | .countGet kind number => Sys2Proof.Machine.execCountGet kind number s
  | .engineReset => Sys2Proof.Machine.execEngineReset s
  | .powerOnReset => Sys2Proof.Machine.execPowerOnReset s
  | .packetStart => Sys2Proof.Machine.execPacketStart s
  | .headerComplete b0 b1 b2 b3 b4 => Sys2Proof.Machine.execHeaderComplete b0 b1 b2 b3 b4 s
  | .payloadComplete words check => Sys2Proof.Machine.execPayloadComplete words check s
  | .turnaround => Sys2Proof.Machine.execTurnaround s
  | .answerSent => Sys2Proof.Machine.execAnswerSent s
  | .mixBlockStart aux => Sys2Proof.Machine.execMixBlockStart aux s
  | .clockLoss port => Sys2Proof.Machine.execClockLoss port s
  | .swapEffect => Sys2Proof.Machine.execSwapEffect s
  | .stampExpiry => Sys2Proof.Machine.execStampExpiry s
  | .measurement slot => Sys2Proof.Machine.execMeasurement slot s
  | .noiseFloorCreep slot => Sys2Proof.Machine.execNoiseFloorCreep slot s
  | .alert slot => Sys2Proof.Machine.execAlert slot s
  | .holdExpiry slot => Sys2Proof.Machine.execHoldExpiry slot s
  | .rampEnd owner => Sys2Proof.Machine.execRampEnd owner s
  | .sourceRetirementCompletion slot => Sys2Proof.Machine.execSourceRetirementCompletion slot s
  | .feedRetirementCompletion slot => Sys2Proof.Machine.execFeedRetirementCompletion slot s
  | .crosspointRampsEnd => Sys2Proof.Machine.execCrosspointRampsEnd s
  | .feedsFormed => Sys2Proof.Machine.execFeedsFormed s
  | .huntMatch link searched header => Sys2Proof.Machine.execHuntMatch link searched header s
  | .presyncJudgement link header audio => Sys2Proof.Machine.execPresyncJudgement link header audio s
  | .goodFrameInSync link header audio => Sys2Proof.Machine.execGoodFrameInSync link header audio s
  | .badFrameInSync link header => Sys2Proof.Machine.execBadFrameInSync link header s
  | .codecPulse port sample => Sys2Proof.Machine.execCodecPulse port sample s

end Sys2Proof.Machine
end

