-- ==== Sys2Proof/Safety.lean ====
section
/-! DEFINITION. The laws of the part that claims speak of, what a packet leaves of the control link, and the row of each
host command. -/

namespace Sys2Proof.Machine

/-! ### Host commands -/

/-- The row of spec/opcode_table.json that a host command is. -/
def hostInstr : HostCmd → Instr
  | .srcAttach slot chair origin trim groups => .srcAttach slot chair origin trim groups
  | .srcRetire slot => .srcRetire slot
  | .srcTrim slot trim => .srcTrim slot trim
  | .srcGroups slot groups => .srcGroups slot groups
  | .srcGet slot => .srcGet slot
  | .srcMute slot on => .srcMute slot on
  | .grpMute group on => .grpMute group on
  | .roomMute on => .roomMute on
  | .muteGet => .muteGet
  | .floorGet => .floorGet
  | .floorReset => .floorReset
  | .feedAttach slot dest master excluded => .feedAttach slot dest master excluded
  | .feedRetire slot => .feedRetire slot
  | .feedLevel slot master => .feedLevel slot master
  | .feedMute slot on => .feedMute slot on
  | .feedExclude slot groups => .feedExclude slot groups
  | .feedGet slot => .feedGet slot
  | .bankSwap => .bankSwap
  | .bankCopy => .bankCopy
  | .bankGet => .bankGet
  | .paramSet pairs => .paramSet pairs
  | .paramGet bank => .paramGet bank
  | .xpWindow fs fe ss se order fr sr => .xpWindow fs fe ss se order fr sr
  | .xpPut words => .xpPut words
  | .xpPutNext words => .xpPutNext words
  | .xpTake count => .xpTake count
  | .xpTakeNext count => .xpTakeNext count
  | .podSetup link depth => .podSetup link depth
  | .podGet link => .podGet link
  | .portGet port => .portGet port
  | .noteGet => .noteGet
  | .noteMask mask => .noteMask mask
  | .countGet kind number => .countGet kind number
  | .engineReset => .engineReset

/-- Commands and events taken one after another, stopping at the first that has no next state. -/
def runAll : List Instr → State → Host.Outcome State Fault Refusal
  | [], s => .next s
  | c :: rest, s =>
    match exec c s with
    | .next t => runAll rest t
    | .fault r => .fault r
    | .refused r => .refused r

/-- The events of a host command's packet in its right form with correct checks (R182, R183): its packet start, its five
header bytes, and for a long command its payload words with their check. -/
def packetOf (wanted : Bool) (c : HostCmd) : List Instr :=
  let (b0, b1, b2, b3) := packetContent c.code wanted c.body
  .packetStart :: .headerComplete b0 b1 b2 b3 (headerCheck (headerContent b0 b1 b2 b3)) ::
    match c.body with
    | .short _ _ => []
    | .long ws => [.payloadComplete ws (crc16 ws)]

/-- The host owns the data line: every receive state but ANSWERING (R182). -/
def hostOwnsLine (s : State) : Prop := ∀ as r, s.ctl.rx ≠ .answering as r

/-- What a write's packet, with the answer-wanted flag clear, leaves apart from the write's own effect: the effects of its
packet start, and IDLE (R182, R188). -/
def written (s : State) : State :=
  { openPacket s with ctl := { rx := .idle, errors := (openPacket s).ctl.errors } }

/-- What a refused write's packet leaves: one kind more in the error set, and IDLE (R186). -/
def refusedWith (k : ErrKind) (s : State) : State :=
  { openPacket s with ctl := { rx := .idle, errors := (openPacket s).ctl.errors.add k } }

/-- What a read's packet leaves apart from the read's own effect: its answer owed (R188). -/
def answered (code : Byte) (r : Reply) (s : State) : State :=
  { openPacket s with ctl := { rx := .owed code r, errors := (openPacket s).ctl.errors } }

/-- What a refused read's packet leaves: one kind more, and an answer owed without DATA (R186, R188, R189). -/
def refusedRead (code : Byte) (k : ErrKind) (s : State) : State :=
  { openPacket s with ctl := { rx := .owed code .plain, errors := (openPacket s).ctl.errors.add k } }

/-- A reply of DATA words alone. -/
def dataReply (ws : List Word) : Reply := { Reply.plain with words := some ws }

/-- A slot, link or port number as a byte of a packet. -/
def byteOf {n : Nat} (i : Fin n) : Byte := BitVec.ofNat 8 i.val

/-! ### Laws of every state -/

/-- The attention line is asserted exactly while the notice set holds an enabled kind (R193). -/
def AttentionLaw (s : State) : Prop :=
  s.notice.attention = true ↔ ∃ k, s.notice.set.has k = true ∧ s.notice.mask.has k = true

/-- 0 ≤ N ≤ S ≤ 1600 for every source (R23). -/
def LevelLaw (s : State) : Prop := ∀ i : SrcSlot, s.srcs[i].n ≤ s.srcs[i].s ∧ s.srcs[i].s ≤ 1600

/-- Every floor parameter in its range, Hysteresis at most Margin (R124, R125, section 7.2). -/
structure ParamsLaw (p : Params) : Prop where
  maxOpen : 1 ≤ p.maxOpen ∧ p.maxOpen ≤ 8
  holdBlocks : p.holdBlocks ≤ 5000
  margin : p.margin ≤ 60
  hysteresis : p.hysteresis ≤ p.margin
  voiceFloor : p.voiceFloor ≤ 200
  closedAtten : p.closedAtten ≤ 192
  admitBurst : 1 ≤ p.admitBurst ∧ p.admitBurst ≤ 8
  admitWindow : 1 ≤ p.admitWindow ∧ p.admitWindow ≤ 5000
  twmBlocks : 1 ≤ p.twmBlocks ∧ p.twmBlocks ≤ 5000
  attackShift : p.attackShift ≤ 4
  releaseShift : 2 ≤ p.releaseShift ∧ p.releaseShift ≤ 8
  creepBlocks : 1 ≤ p.creepBlocks ∧ p.creepBlocks ≤ 255

/-- A gain index lies in -192 to +24 (R101). -/
def GainIndex (v : Int) : Prop := -192 ≤ v ∧ v ≤ 24

/-- Both banks hold legal parameters and legal crosspoints (R122, R124, R125, R143). -/
def BankLaw (s : State) : Prop :=
  ∀ n, ParamsLaw (s.banks.bank n).params ∧
    ∀ (f : FeedSlot) (i : SrcSlot), GainIndex (s.banks.bank n).xp[f][i]

/-- What the ramp unit holds for a slot: gain indices, and a ramp record of 1, 4 or 16 blocks with no more blocks done
than it has (R101, R106, R107). -/
structure GainUnitLaw (g : GainUnit) : Prop where
  current : GainIndex g.current
  target : GainIndex g.target
  ramp : ∀ r, g.ramp = some r →
    GainIndex r.start ∧ (r.duration = 1 ∨ r.duration = 4 ∨ r.duration = 16) ∧ r.done ≤ r.duration

/-- Every gain index the part holds for a slot lies in its range (R101). -/
def GainLaw (s : State) : Prop :=
  (∀ i : SrcSlot, GainUnitLaw s.srcs[i].gain ∧ -120 ≤ s.srcs[i].trim ∧ s.srcs[i].trim ≤ 24) ∧
    ∀ f : FeedSlot, GainUnitLaw s.feeds[f].gain ∧ GainIndex s.feeds[f].master

/-- A crosspoint ramp of a pair: it stands in RAMPING alone, from the value the former operating bank holds for the pair to
the other value the operating bank holds, both gain indices, over the blocks R106 gives, with no more done than it has
(R101, R106, R107, R110, R128). The former operating bank is the edit bank, which no command writes in RAMPING (R134). -/
structure XpRampOk (s : State) (f : FeedSlot) (i : SrcSlot) (r : XpRamp) : Prop where
  ramping : s.banks.swap = .ramping
  start : GainIndex r.start ∧ r.start = s.banks.editBank.xp[f][i]
  target : GainIndex r.target ∧ r.target = s.banks.opBank.xp[f][i]
  differ : r.start ≠ r.target
  duration : (r.duration = 1 ∨ r.duration = 4 ∨ r.duration = 16) ∧
    r.duration = rampDuration (r.target - r.start).natAbs
  done : r.done ≤ r.duration

/-- Every crosspoint ramp of the part is a legal one; outside RAMPING there is none (R110, R111, R128). -/
def XpRampLaw (s : State) : Prop :=
  ∀ (f : FeedSlot) (i : SrcSlot) (r : XpRamp), s.xpRamps[f][i] = some r → XpRampOk s f i r

/-- No two non-FREE sources hold the same origin, no two non-FREE feeds the same destination (R4, R86). -/
def BindingLaw (s : State) : Prop :=
  (∀ i j : SrcSlot, s.srcs[i].inUse = true → s.srcs[j].inUse = true → s.srcs[i].origin.isSome = true →
    s.srcs[i].origin = s.srcs[j].origin → i = j) ∧
  ∀ f g : FeedSlot, s.feeds[f].inUse = true → s.feeds[g].inUse = true → s.feeds[f].dest.isSome = true →
    s.feeds[f].dest = s.feeds[g].dest → f = g

/-- The record of a far-end port: depths at most 4, at most 1 in PRIMING, empty and idle count 8 in DOWN, idle count below
8 otherwise, counters of 16 bits (R169, R171, R173). -/
structure PortRecordLaw (p : Port) : Prop where
  input : p.input.length ≤ 4
  output : p.output.length ≤ 4
  priming : p.state = .priming → p.input.length ≤ 1
  down : p.state = .down → p.input = [] ∧ p.output = [] ∧ p.primed = false ∧ p.idle = 8
  up : p.state ≠ .down → p.idle < 8
  counters : p.inOver ≤ 65535 ∧ p.inUnder ≤ 65535 ∧ p.outOver ≤ 65535 ∧ p.outUnder ≤ 65535 ∧ p.clockLosses ≤ 65535

/-- The record of a pod link: runs, sync depth, element count and counters in their ranges, the holding filled only in
SYNC (R147, R151, R159). -/
structure PodRecordLaw (p : Pod) : Prop where
  goodRun : p.goodRun ≤ 3
  badRun : p.badRun ≤ 3
  depth : p.depth = 2 ∨ p.depth = 3
  elements : 1 ≤ p.elements ∧ p.elements ≤ 4
  presync : p.framing = .presync → p.goodRun < 3
  holding : p.framing ≠ .sync → p.holding = none
  counters : p.goodFrames ≤ 65535 ∧ p.headerErrors ≤ 65535 ∧ p.syncLosses ≤ 65535

/-- Every link record of the part in its range, every counter of 16 bits (R147, R169, R196). -/
def RecordLaw (s : State) : Prop :=
  (∀ l : PodLink, PodRecordLaw s.pods[l]) ∧ (∀ p : FarPort, PortRecordLaw s.ports[p]) ∧
    ∀ f : FeedSlot, s.feeds[f].clips ≤ 65535

/-- The effective mute of every non-FREE source is what its layers give, that of a FREE slot is off, and privacy mirrors
the held privacy of the pod (R17, R38). -/
def MuteLaw (s : State) : Prop :=
  ∀ i : SrcSlot,
    (s.srcs[i].inUse = true → s.srcs[i].effMute = deriveMute s.mute s.srcs[i]) ∧
    (s.srcs[i].inUse = false → s.srcs[i].effMute = false) ∧
    (s.srcs[i].inUse = true → ∀ l e, s.srcs[i].origin = some (.pod l e) → s.srcs[i].privacy = s.pods[l].privacy)

/-- A floor state of the floor list: OPEN, HOLD or LAST (R56). -/
def onFloor (f : Option FloorState) : Bool := f == some .opened || isHold f || f == some .last

/-- Each collection's entries are exactly the ACTIVE floor-class sources whose floor state names it, once each, unmuted;
the classes and lifecycle states agree with the floor states (R10, R56, R58, R70). -/
structure MembershipLaw (s : State) : Prop where
  list : ∀ i : SrcSlot, i ∈ s.floor.list ↔ s.srcs[i].isActive = true ∧ onFloor s.srcs[i].floorState = true
  chairs : ∀ i : SrcSlot, i ∈ s.floor.chairs ↔
    s.srcs[i].isActive = true ∧ s.srcs[i].isChair = true ∧ s.srcs[i].floorState = some .pending
  delegates : ∀ i : SrcSlot, i ∈ s.floor.delegates ↔
    s.srcs[i].isActive = true ∧ s.srcs[i].isDelegate = true ∧ s.srcs[i].floorState = some .pending
  once : s.floor.list.Nodup ∧ s.floor.chairs.Nodup ∧ s.floor.delegates.Nodup
  unmuted : ∀ i : SrcSlot, (i ∈ s.floor.list ∨ i ∈ s.floor.chairs ∨ i ∈ s.floor.delegates) →
    s.srcs[i].effMute = false
  gated : ∀ i : SrcSlot, s.srcs[i].isActive = true → s.srcs[i].floorClass = true →
    s.srcs[i].floorState.isSome = true ∧ s.srcs[i].floorState ≠ some .ungated
  ungated : ∀ i : SrcSlot, s.srcs[i].inUse = true → s.srcs[i].floorClass = false →
    s.srcs[i].floorState = some .ungated
  retiring : ∀ i : SrcSlot, s.srcs[i].state = .retiring → s.srcs[i].floorClass = true →
    s.srcs[i].floorState = some .closed
  free : ∀ i : SrcSlot, s.srcs[i].inUse = false → s.srcs[i].floorState = none

/-- The law of the floor: membership, and no more members than MaxOpen and no more stamps than AdmitBurst of the operating
bank (R56, R57, R59). -/
structure FloorLaw (s : State) : Prop where
  membership : MembershipLaw s
  size : s.floor.list.length ≤ s.params.maxOpen
  stamps : s.floor.stamps.length ≤ s.params.admitBurst

/-- The target of every non-FREE source is what R102 composes from its record and the floor, and that of a FREE slot is
OFF (R102, R103). -/
def TargetLaw (s : State) : Prop :=
  ∀ i : SrcSlot, s.srcs[i].gain.target = composeTarget s.params s.floor.list.length s.srcs[i]

/-- The window's starts do not lie above its ends, and the cursor stands at a position of its walk (R137, R139). -/
def WindowLaw (s : State) : Prop :=
  s.banks.window.feedStart ≤ s.banks.window.feedEnd ∧ s.banks.window.srcStart ≤ s.banks.window.srcEnd ∧
    s.banks.cursor < s.banks.window.walk.length

/-- The Level Monitor's counts between two events: the creep count below CreepBlocks (R24, R36), the talk-while-muted count
at most 5000, and below 5000 while ALERT is off (R29). No rise of it waits to be judged (notes/assumptions/6.md). -/
def MonitorLaw (s : State) : Prop :=
  ∀ i : SrcSlot, s.srcs[i].creep < s.params.creepBlocks ∧ s.srcs[i].twm ≤ 5000 ∧
    (s.srcs[i].alert = false → s.srcs[i].twm < 5000) ∧ s.srcs[i].twmRose = false

/-- A hold count between two events lies from 1 to HoldBlocks (R66, R67, R78). -/
def HoldLaw (s : State) : Prop :=
  ∀ (i : SrcSlot) (c : Nat), s.srcs[i].floorState = some (.hold c) → 1 ≤ c ∧ c ≤ s.params.holdBlocks

/-- Without a ramp record the current gain is the target; with one it is the value the record has reached (R105, R107). -/
structure GainUnitRampLaw (g : GainUnit) : Prop where
  rest : g.ramp = none → g.current = g.target
  ramp : ∀ r, g.ramp = some r → g.current = rampUsed r.start g.target r.done r.duration

/-- Every gain the part holds for a slot stands where its ramp record has brought it (R105, R107). -/
def RampLaw (s : State) : Prop :=
  (∀ i : SrcSlot, GainUnitRampLaw s.srcs[i].gain) ∧ ∀ f : FeedSlot, GainUnitRampLaw s.feeds[f].gain

/-! ### What an event leaves of the floor and the notices -/

/-- FLOOR stands after an event that began in `s` exactly when it stood before it or the event has changed the membership
or the order of the floor list or of the pending queue (R80). -/
def FloorNoticed (s t : State) : Prop :=
  t.notice.set.floor = true ↔ s.notice.set.floor = true ∨ t.floor.list ≠ s.floor.list ∨
    t.floor.chairs ≠ s.floor.chairs ∨ t.floor.delegates ≠ s.floor.delegates

/-- The gate of a source is shut: CLOSED or PENDING (R75). -/
def gateShut (x : Source) : Prop := x.floorState = some .closed ∨ x.floorState = some .pending

/-- An event from `s` to `t` hands a source on to the ramp unit at its end: the source is ACTIVE and its effective mute has
changed, or it is of a floor class and the NOM count or its gate has changed (R39, R76, R103). -/
def HandsOn (s t : State) (i : SrcSlot) : Prop :=
  t.srcs[i].state = .active ∧ (t.srcs[i].effMute ≠ s.srcs[i].effMute ∨ t.srcs[i].floorClass = true ∧
    (t.floor.list.length ≠ s.floor.list.length ∨ ¬ (gateShut t.srcs[i] ↔ gateShut s.srcs[i])))

/-- The gain of a source after an event: the target composed from the state the event has left, handed to the ramp unit
where the event hands the source on, and otherwise as it was, with its ramp undisturbed (R76, R102, R103, R105). -/
def GainFollows (s t : State) (i : SrcSlot) : Prop :=
  (HandsOn s t i →
    t.srcs[i].gain = s.srcs[i].gain.hand (composeTarget t.params t.floor.list.length t.srcs[i])) ∧
  (¬ HandsOn s t i → t.srcs[i].gain = s.srcs[i].gain)

/-- From `s` to `t` no notice kind comes or goes but those named, and the mask stays (R192). -/
def OnlyNotices (ks : List NoticeKind) (s t : State) : Prop :=
  (∀ k, k ∉ ks → t.notice.set.has k = s.notice.set.has k) ∧ t.notice.mask = s.notice.mask

/-- Pending service has nothing left to do: the queue is empty or its head's attempt fails (R65). -/
def QueueServed (s : State) : Prop := ∀ i, s.floor.queueHead = some i → tryAdmit i s = none

/-- The floor as a whole is in `t` what it is in `u`: both collections, the stamps, the block number and the floor state of
every source. -/
def SameFloor (u t : State) : Prop :=
  t.floor = u.floor ∧ ∀ i : SrcSlot, t.srcs[i].floorState = u.srcs[i].floorState

/-- The changes of effective mute from `s` to `t` handed to the Floor Controller one source after another in an order
(R39): a muted source is removed (R70), an unmuted VOICED one makes an attempt (R71). The flag says whether a removal has
shortened the floor list (R69). -/
def handedInTurn (s t : State) (order : List SrcSlot) : State × Bool :=
  order.foldl (fun (a : State × Bool) i =>
    if t.srcs[i].effMute then (closeSource i a.1, a.2 || decide (i ∈ a.1.floor.list))
    else if s.srcs[i].voice = .voiced then (attempt i a.1, a.2)
    else a) (s, false)

/-- What an event hands to its neighbours for the effective muting and unmuting of sources (R30, R39, R65, R69 to R71), in a
part whose floor keeps its law: a muted source is off the floor; an unmuted ACTIVE floor-class source is OPEN or PENDING
when it is VOICED and CLOSED when it is QUIET; pending service has been made where the floor list has become shorter, or
a member has been muted and no source unmuted; and the whole floor is what the changes of the ACTIVE floor-class sources,
handed on one after another in some order, and then one pending service where a removal shortened the list, make of it
(the order of the service is the model's reading, notes/assumptions/11.md); and the gains follow from what the whole
event has left. -/
structure MutesHandedOn (s t : State) : Prop where
  cleared : ∀ i : SrcSlot, s.srcs[i].effMute = true → t.srcs[i].effMute = false →
    t.srcs[i].twm = 0 ∧ t.srcs[i].alert = false
  kept : ∀ i : SrcSlot, s.srcs[i].effMute = false ∨ t.srcs[i].effMute = true →
    t.srcs[i].twm = s.srcs[i].twm ∧ t.srcs[i].alert = s.srcs[i].alert
  muted : MembershipLaw s → ∀ i : SrcSlot, s.srcs[i].effMute = false → t.srcs[i].effMute = true →
    i ∉ t.floor.list ∧ i ∉ t.floor.chairs ∧ i ∉ t.floor.delegates
  voiced : MembershipLaw s → ∀ i : SrcSlot, s.srcs[i].effMute = true → t.srcs[i].effMute = false →
    s.srcs[i].state = .active → s.srcs[i].floorClass = true → s.srcs[i].voice = .voiced →
    t.srcs[i].floorState = some .opened ∧ i ∈ t.floor.list ∨
      t.srcs[i].floorState = some .pending ∧ (i ∈ t.floor.chairs ∨ i ∈ t.floor.delegates)
  quiet : MembershipLaw s → ∀ i : SrcSlot, s.srcs[i].effMute = true → t.srcs[i].effMute = false →
    s.srcs[i].state = .active → s.srcs[i].floorClass = true → s.srcs[i].voice = .quiet →
    t.srcs[i].floorState = some .closed
  gains : ∀ i : SrcSlot, GainFollows s t i
  served : MembershipLaw s →
    t.floor.list.length < s.floor.list.length ∨
      (∃ i ∈ s.floor.list, t.srcs[i].effMute = true) ∧
        (∀ i : SrcSlot, s.srcs[i].effMute = true → t.srcs[i].effMute = true) →
    QueueServed t
  floor : MembershipLaw s → ∃ order : List SrcSlot, order.Nodup ∧
    (∀ i : SrcSlot, i ∈ order ↔
      s.srcs[i].state = .active ∧ s.srcs[i].floorClass = true ∧ s.srcs[i].effMute ≠ t.srcs[i].effMute) ∧
    SameFloor (serviceIf (handedInTurn s t order).2 (handedInTurn s t order).1) t

/-! ### Laws over steps -/

/-- A law that every step keeps, from every state that meets it and a second law. -/
def KeptUnder (Side Law : State → Prop) : Prop :=
  ∀ s t : State, Side s → Law s → step s = .next t → Law t

/-- A law that every step keeps. -/
def Kept (Law : State → Prop) : Prop := ∀ s t : State, Law s → step s = .next t → Law t

/-- The fields of a source record that the floor and the ramp unit own, taken from another record. -/
def Source.withFloorOf (x y : Source) : Source := { x with floorState := y.floorState, gain := y.gain }

end Sys2Proof.Machine
end

