-- ==== Sys2Proof/WellFormed.lean ====
section
/-! DEFINITION. Which commands and events the outside can present: the word counts a packet can have (R183, section
10.7) and the headers an event's name speaks of (R149). -/

namespace Sys2Proof

/-- A host command that a packet can carry: a long command's word count lies in what section 10.7 accepts. -/
def HostCmd.wf : HostCmd → Bool
  | .paramSet pairs => decide (1 ≤ pairs.length) && decide (pairs.length ≤ 128)
  | .xpPut words => decide (1 ≤ words.length) && decide (words.length ≤ 256)
  | .xpPutNext words => decide (1 ≤ words.length) && decide (words.length ≤ 256)
  | _ => true

/-- A command or event the outside can present: word counts as above, a payload of 1 to 256 words, a good header
where the event is named for one and a bad one where it is named for that, and for a match in HUNT a stream that ends
with its first good header (R149, R151, R183). -/
def Instr.wf : Instr → Bool
  | .paramSet pairs => (HostCmd.paramSet pairs).wf
  | .xpPut words => (HostCmd.xpPut words).wf
  | .xpPutNext words => (HostCmd.xpPutNext words).wf
  | .payloadComplete words _ => decide (1 ≤ words.length) && decide (words.length ≤ 256)
  | .huntMatch _ searched header => searchHeader (searched ++ header.bytes) == some (searched.length, header)
  | .goodFrameInSync _ header _ => header.good
  | .badFrameInSync _ header => !header.good
  | _ => true

end Sys2Proof
end

