-- ==== Sys2Proof/Certificates/Slice0/Obligations.lean ====
section
/-! DEFINITION. The statements about the part. `written s`, `refusedWith k s`, `answered code r s` and
`refusedRead code k s` (Sys2Proof/Safety.lean) are what a packet leaves of the control link apart from its command's own
effect: every field that a right-hand side does not name is as it was before the packet. -/

open Sys2Proof Sys2Proof.Machine

/-! ### The queue and the whole machine -/

/-- A step takes the command at the front of the queue and runs it with the queue's rest; with nothing waiting the part
idles, which is the model's choice (notes/assumptions/5.md). -/
def Obligations.StepTakesTheFrontOfTheQueue : Prop :=
  (∀ (c : Instr) (rest : List Instr) (s : State), s.pending = c :: rest →
    step s = exec c { s with pending := rest }) ∧
  ∀ s : State, s.pending = [] → step s = .next s

/-- Every command and event, in every state, answers a next state, and leaves the queue alone: nothing the part can be
sent stops it. The queue is the model's own (notes/assumptions/7.md and 15.md), that POWER_ON_RESET leaves it too is
its choice (notes/assumptions/12.md), and so is that an event outside the state it belongs to answers the same state
(notes/assumptions/6.md and 16.md). -/
def Obligations.EveryCommandCompletesAndKeepsTheQueue : Prop :=
  ∀ (c : Instr) (s : State), ∃ t, exec c s = .next t ∧ t.pending = s.pending

/-- The state after reset meets every law of Sys2Proof/Safety.lean. -/
def Obligations.ResetMeetsEveryLaw : Prop :=
  AttentionLaw State.reset ∧ LevelLaw State.reset ∧ BankLaw State.reset ∧ GainLaw State.reset ∧
    BindingLaw State.reset ∧ RecordLaw State.reset ∧ MuteLaw State.reset ∧ FloorLaw State.reset ∧
    TargetLaw State.reset ∧ WindowLaw State.reset ∧ MonitorLaw State.reset ∧ HoldLaw State.reset ∧
    RampLaw State.reset ∧ XpRampLaw State.reset

/-- POWER_ON_RESET leaves every record at its power-on value (R199, with the tables of R1, R84, R122, R137, R147 and
R169), and State.reset is that state. -/
def Obligations.PowerOnResetLeavesThePowerOnValues : Prop :=
  exec .powerOnReset State.reset = .next State.reset ∧
  ∀ s : State, ∃ t, exec .powerOnReset s = .next t ∧
    t.ctl.rx = .idle ∧ (∀ k, t.ctl.errors.has k = false) ∧
    (∀ k, t.notice.set.has k = false) ∧ (∀ k, t.notice.mask.has k = true) ∧ t.notice.attention = false ∧
    (∀ i : SrcSlot,
      t.srcs[i].state = .free ∧ t.srcs[i].origin = none ∧ t.srcs[i].cls = none ∧ t.srcs[i].trim = 0 ∧
      t.srcs[i].groups = 0 ∧ t.srcs[i].userMute = false ∧ t.srcs[i].privacy = false ∧ t.srcs[i].effMute = false ∧
      t.srcs[i].s = 0 ∧ t.srcs[i].n = 0 ∧ t.srcs[i].creep = 0 ∧ t.srcs[i].voice = .quiet ∧ t.srcs[i].twm = 0 ∧
      t.srcs[i].alert = false ∧ t.srcs[i].floorState = none ∧ t.srcs[i].gain = ⟨-192, -192, none⟩) ∧
    (∀ f : FeedSlot,
      t.feeds[f].state = .free ∧ t.feeds[f].dest = none ∧ t.feeds[f].master = -192 ∧ t.feeds[f].muted = false ∧
      t.feeds[f].excluded = 0 ∧ t.feeds[f].gain = ⟨-192, -192, none⟩ ∧ t.feeds[f].clips = 0) ∧
    t.mute.groups = 0 ∧ t.mute.room = false ∧
    t.floor.list = [] ∧ t.floor.chairs = [] ∧ t.floor.delegates = [] ∧ t.floor.stamps = [] ∧ t.floor.block = 0 ∧
    t.banks.operating = .a ∧ t.banks.swap = .settled ∧ t.banks.cursor = 0 ∧
    t.banks.window = ⟨0, 31, 0, 79, .feedMajor, false, false⟩ ∧
    (∀ n, (t.banks.bank n).params = ⟨4, 500, true, true, 20, 6, 60, 30, 4, 250, 250, 1, 5, 50⟩ ∧
      ∀ (f : FeedSlot) (i : SrcSlot), (t.banks.bank n).xp[f][i] = -192) ∧
    (∀ (f : FeedSlot) (i : SrcSlot), t.xpRamps[f][i] = none) ∧
    (∀ l : PodLink,
      t.pods[l].framing = .hunt ∧ t.pods[l].goodRun = 0 ∧ t.pods[l].badRun = 0 ∧ t.pods[l].depth = 2 ∧
      t.pods[l].elements = 1 ∧ t.pods[l].privacy = false ∧ t.pods[l].holding = none ∧ t.pods[l].goodFrames = 0 ∧
      t.pods[l].headerErrors = 0 ∧ t.pods[l].syncLosses = 0) ∧
    (∀ p : FarPort,
      t.ports[p].state = .down ∧ t.ports[p].input = [] ∧ t.ports[p].fill = 0 ∧ t.ports[p].output = [] ∧
      t.ports[p].primed = false ∧ t.ports[p].send = silence ∧ t.ports[p].seen = false ∧ t.ports[p].idle = 8 ∧
      t.ports[p].inOver = 0 ∧ t.ports[p].inUnder = 0 ∧ t.ports[p].outOver = 0 ∧ t.ports[p].outUnder = 0 ∧
      t.ports[p].clockLosses = 0)

/-! ### Packets, answers and notices (chapter 10) -/

/-- A packet start in each receive state (R182): HEADER, with an owed answer abandoned (R191) and a packet cut short in
PAYLOAD adding LENGTH (R185). While the part owns the line it receives nothing, a whole command packet included (R190;
that a row is its whole packet is the model's reading, notes/assumptions/8.md). -/
def Obligations.PacketStartInEachReceiveState : Prop :=
  ∀ s : State,
    (s.ctl.rx = .idle ∨ s.ctl.rx = .header ∨ s.ctl.rx = .discard →
      exec .packetStart s = .next { s with ctl := { rx := .header, errors := s.ctl.errors } }) ∧
    (∀ wanted code n, s.ctl.rx = .payload wanted code n →
      exec .packetStart s = .next { s with ctl := { rx := .header, errors := s.ctl.errors.add .length } }) ∧
    (∀ code r, s.ctl.rx = .owed code r → ∃ t, exec .packetStart s = .next t ∧
      t.ctl.rx = .header ∧ (r.engineReset = false → t.ctl.errors = s.ctl.errors) ∧
      (r.engineReset = true → ∀ k, t.ctl.errors.has k = false) ∧
      (∀ k, t.notice.set.has k = (s.notice.set.has k || r.removed.has k)) ∧ t.notice.mask = s.notice.mask ∧
      AttentionLaw t ∧ { t with notice := s.notice, ctl := s.ctl } = s) ∧
    (∀ as r, s.ctl.rx = .answering as r →
      exec .packetStart s = .next s ∧ exec .turnaround s = .next s ∧
      (∀ b0 b1 b2 b3 b4, exec (.headerComplete b0 b1 b2 b3 b4) s = .next s) ∧
      (∀ words check, exec (.payloadComplete words check) s = .next s) ∧
      ∀ c, exec (hostInstr c) s = .next s)

/-- The header check accepts what it was computed for, corrects every single error in the 39 bits it covers, does not
read bit 7 of the check byte, and refuses every double error (R202). And for any content and check byte at all, the
judgement is the table's by the syndrome, which is the difference of the check bits c5 to c0, and the parity of the 39
bits: 0 and 0 no error; 0 or a power of two and 1 the content as received; the position of a content bit and 1 that bit
inverted; 39 to 63 uncorrectable; any but 0 and 0 uncorrectable. -/
def Obligations.HeaderCheckCorrectsOneErrorAndRefusesTwo : Prop :=
  (∀ d : BitVec 32,
    judgeHeader d (headerCheck d) = .correct ∧
    (∀ c : Byte, judgeHeader d (c ^^^ BitVec.twoPow 8 7) = judgeHeader d c) ∧
    (∀ i, i < 32 → judgeHeader (d ^^^ BitVec.twoPow 32 i) (headerCheck d) = .corrected d) ∧
    (∀ k, k < 7 → judgeHeader d (headerCheck d ^^^ BitVec.twoPow 8 k) = .corrected d) ∧
    (∀ i j, i < j → j < 32 →
      judgeHeader (d ^^^ BitVec.twoPow 32 i ^^^ BitVec.twoPow 32 j) (headerCheck d) = .failed) ∧
    (∀ i k, i < 32 → k < 7 →
      judgeHeader (d ^^^ BitVec.twoPow 32 i) (headerCheck d ^^^ BitVec.twoPow 8 k) = .failed) ∧
    ∀ j k, j < k → k < 7 →
      judgeHeader d (headerCheck d ^^^ BitVec.twoPow 8 j ^^^ BitVec.twoPow 8 k) = .failed) ∧
  ∀ (d : BitVec 32) (c : Byte) (syn ones : Nat),
    syn = ((c ^^^ headerCheck d).extractLsb' 0 6).toNat →
    ones = (List.range 32).countP d.getLsbD + (List.range 7).countP c.getLsbD →
    (syn = 0 → ones % 2 = 0 → judgeHeader d c = .correct) ∧
    (syn ∈ [0, 1, 2, 4, 8, 16, 32] → ones % 2 = 1 → judgeHeader d c = .corrected d) ∧
    (∀ i, i < 32 → syn = ((headerCheck (BitVec.twoPow 32 i)).extractLsb' 0 6).toNat → ones % 2 = 1 →
      judgeHeader d c = .corrected (d ^^^ BitVec.twoPow 32 i)) ∧
    (39 ≤ syn → ones % 2 = 1 → judgeHeader d c = .failed) ∧
    (syn ≠ 0 → ones % 2 = 0 → judgeHeader d c = .failed)

/-- The fifth header byte judged (R184): an uncorrectable header leads to DISCARD with HDR_FAILED; a corrected one adds
HDR_CORRECTED and goes on as the corrected header; a long one leads to PAYLOAD; a short one with a code of no command
adds UNKNOWN_CMD and one with a long command's code LENGTH, owing an answer only for its flag (R186, R188). A short
command reads the parameter bits its code uses and no other, nor bits 5 to 0 of byte 0 or bit 7 of the check byte (R183,
R201, R204). That bits 7 to 1 of ROOM.MUTE's P1 are not read is the model's choice (notes/assumptions/20.md), and that
the bytes change nothing elsewhere than in HEADER its reading (notes/assumptions/16.md). What a short command itself
does is in PacketsOfACommandAreTheCommand. -/
def Obligations.HeaderCompleteIsJudged : Prop :=
  ∀ (s : State) (b0 b1 b2 b3 b4 : Byte),
    (s.ctl.rx ≠ .header → exec (.headerComplete b0 b1 b2 b3 b4) s = .next s) ∧
    (s.ctl.rx = .header →
      (judgeHeader (headerContent b0 b1 b2 b3) b4 = .failed →
        exec (.headerComplete b0 b1 b2 b3 b4) s
          = .next { s with ctl := { rx := .discard, errors := s.ctl.errors.add .hdrFailed } }) ∧
      (∀ d, judgeHeader (headerContent b0 b1 b2 b3) b4 = .corrected d →
        exec (.headerComplete b0 b1 b2 b3 b4) s
          = exec (.headerComplete (d.extractLsb' 24 8) (d.extractLsb' 16 8) (d.extractLsb' 8 8) (d.extractLsb' 0 8)
              (headerCheck d)) { s with ctl := { rx := .header, errors := s.ctl.errors.add .hdrCorrected } }) ∧
      (judgeHeader (headerContent b0 b1 b2 b3) b4 = .correct →
        (b0.getLsbD 7 = true → exec (.headerComplete b0 b1 b2 b3 b4) s
          = .next { s with
              ctl := { rx := .payload (b0.getLsbD 6) b1 (b3.toNat + 1), errors := s.ctl.errors } }) ∧
        (b0.getLsbD 7 = false →
          b1.toNat ∉ [0x01, 0x02, 0x03, 0x04, 0x05, 0x06, 0x10, 0x11, 0x12, 0x18, 0x19, 0x20, 0x21, 0x22, 0x23, 0x24, 0x25,
            0x30, 0x31, 0x32, 0x33, 0x34, 0x38, 0x39, 0x3A, 0x3B, 0x3C, 0x40, 0x41, 0x48, 0x50, 0x51, 0x52, 0x5F] →
          exec (.headerComplete b0 b1 b2 b3 b4) s
            = .next { s with ctl :=
                { rx := if b0.getLsbD 6 then .owed b1 .plain else .idle
                  errors := s.ctl.errors.add .unknownCmd } }) ∧
        (b0.getLsbD 7 = false → b1.toNat ∈ [0x01, 0x04, 0x20, 0x22, 0x24, 0x33, 0x38, 0x39, 0x3A] →
          exec (.headerComplete b0 b1 b2 b3 b4) s
            = .next { s with ctl :=
                { rx := if b0.getLsbD 6 then .owed b1 .plain else .idle
                  errors := s.ctl.errors.add .length } }) ∧
        (b0.getLsbD 7 = false → ∀ c0 c2 c3 c4 : Byte, judgeHeader (headerContent c0 b1 c2 c3) c4 = .correct →
          c0.getLsbD 7 = false → c0.getLsbD 6 = b0.getLsbD 6 →
          (b1.toNat ∈ [0x02, 0x03, 0x05, 0x06, 0x10, 0x21, 0x23, 0x25, 0x34, 0x3B, 0x3C, 0x40, 0x41, 0x48, 0x52] →
            c2 = b2) →
          (b1.toNat ∈ [0x03, 0x3B, 0x3C, 0x40, 0x51, 0x52] → c3 = b3) →
          (b1.toNat ∈ [0x06, 0x10, 0x23] → c3.getLsbD 0 = b3.getLsbD 0) →
          (b1.toNat = 0x11 → c2.getLsbD 0 = b2.getLsbD 0) →
          exec (.headerComplete c0 b1 c2 c3 c4) s = exec (.headerComplete b0 b1 b2 b3 b4) s)))

/-- The payload check judged (R185): a CRC that disagrees adds PAYLOAD_CHECK and discards the packet; when it agrees a
code of no command adds UNKNOWN_CMD, and a short command's code or a word count that section 10.7 does not give the
command adds LENGTH (R186); an answer is owed for the flag and for a read command's code (R188). The high byte of word
0 of SRC.GROUPS, FEED.LEVEL and FEED.EXCLUDE is not read (R204); that bits 15 to 2 of XP.WINDOW's word 3 are not is
the model's choice (notes/assumptions/20.md). With another word count than the header's, or outside PAYLOAD, nothing
changes (the model's reading, notes/assumptions/16.md). What a long command itself does is in
PacketsOfACommandAreTheCommand. -/
def Obligations.PayloadCompleteIsJudged : Prop :=
  ∀ (s : State) (words : List Word) (check : Word),
    ((∀ wanted code, s.ctl.rx ≠ .payload wanted code words.length) →
      exec (.payloadComplete words check) s = .next s) ∧
    ∀ (wanted : Bool) (code : Byte), s.ctl.rx = .payload wanted code words.length →
      (∀ owed : Bool, (owed = true ↔ wanted = true ∨
          code.toNat ∈ [0x05, 0x12, 0x18, 0x25, 0x32, 0x34, 0x3B, 0x3C, 0x41, 0x48, 0x50, 0x52]) →
        (crc16 words ≠ check → exec (.payloadComplete words check) s
          = .next { s with ctl :=
              { rx := if owed then .owed code .plain else .idle
                errors := s.ctl.errors.add .payloadCheck } }) ∧
        (crc16 words = check →
          code.toNat ∈ [0x02, 0x03, 0x05, 0x06, 0x10, 0x11, 0x12, 0x18, 0x19, 0x21, 0x23, 0x25, 0x30, 0x31, 0x32, 0x34,
              0x3B, 0x3C, 0x40, 0x41, 0x48, 0x50, 0x51, 0x52, 0x5F] ∨
            code.toNat ∈ [0x01, 0x20] ∧ words.length ≠ 3 ∨ code.toNat ∈ [0x04, 0x22, 0x24] ∧ words.length ≠ 2 ∨
            code.toNat = 0x38 ∧ words.length ≠ 4 ∨
            code.toNat = 0x33 ∧ (words.length % 2 = 1 ∨ words.length = 0 ∨ 256 < words.length) ∨
            code.toNat ∈ [0x39, 0x3A] ∧ (words.length = 0 ∨ 256 < words.length) →
          exec (.payloadComplete words check) s
            = .next { s with ctl :=
                { rx := if owed then .owed code .plain else .idle
                  errors := s.ctl.errors.add .length } })) ∧
      (crc16 words = check →
        code.toNat ∉ [0x01, 0x02, 0x03, 0x04, 0x05, 0x06, 0x10, 0x11, 0x12, 0x18, 0x19, 0x20, 0x21, 0x22, 0x23, 0x24, 0x25,
          0x30, 0x31, 0x32, 0x33, 0x34, 0x38, 0x39, 0x3A, 0x3B, 0x3C, 0x40, 0x41, 0x48, 0x50, 0x51, 0x52, 0x5F] →
        exec (.payloadComplete words check) s
          = .next { s with ctl :=
              { rx := if wanted then .owed code .plain else .idle
                errors := s.ctl.errors.add .unknownCmd } }) ∧
      (crc16 words = check →
        (code.toNat ∈ [0x04, 0x22, 0x24] → ∀ v w x : Word, words = [v, x] → w.extractLsb' 0 8 = v.extractLsb' 0 8 →
          exec (.payloadComplete [w, x] (crc16 [w, x])) s = exec (.payloadComplete words check) s) ∧
        (code.toNat = 0x38 → ∀ x y z v w : Word, words = [x, y, z, v] →
          w.getLsbD 0 = v.getLsbD 0 → w.getLsbD 1 = v.getLsbD 1 →
          exec (.payloadComplete [x, y, z, w] (crc16 [x, y, z, w])) s = exec (.payloadComplete words check) s))

/-- A host command sent byte by byte is the command's row, which stands for its whole packet with the answer-wanted
flag clear (the model's reading, notes/assumptions/8.md; R182 to R186): its packet start, its header with the check of
R202, and for a long command its payload with the check of R203, leave exactly what the row leaves. With the
answer-wanted flag set, a write leaves the same but owes its answer (R188), and a read, which owes one anyway, leaves
the same. ENGINE.RESET with the flag is in EngineResetReturnsThePart, bits that are not read in HeaderCompleteIsJudged
and PayloadCompleteIsJudged. -/
def Obligations.PacketsOfACommandAreTheCommand : Prop :=
  ∀ (c : HostCmd) (s : State), c.wf = true → hostOwnsLine s →
    runAll (packetOf false c) s = exec (hostInstr c) s ∧
    (readCode c.code = true → runAll (packetOf true c) s = exec (hostInstr c) s) ∧
    (readCode c.code = false → c ≠ .engineReset → ∃ t, exec (hostInstr c) s = .next t ∧
      runAll (packetOf true c) s = .next { t with ctl := { rx := .owed c.code .plain, errors := t.ctl.errors } })

/-- The packing of every host command's parameters (R204): a command that a packet can carry is read back from its code
and its body; every command has the code of R204's table and its body the table's fields, each in its byte or bits, a
long command's words in their order; and a code that no command has is UNKNOWN_CMD (R186). -/
def Obligations.PacketBodyReadsBackItsCommand : Prop :=
  (∀ c : HostCmd, c.wf = true → decodePacket c.code c.body = .ok c) ∧
  (∀ (code : Byte) (body : PacketBody), (∀ c : HostCmd, c.code ≠ code) → decodePacket code body = .error .unknownCmd) ∧
  (∀ (c : HostCmd) (slot : Byte), ∃ p2 : Byte,
    (c = .srcRetire slot → c.code = 0x02 ∧ c.body = .short slot p2) ∧
    (c = .srcGet slot → c.code = 0x05 ∧ c.body = .short slot p2) ∧
    (c = .feedRetire slot → c.code = 0x21 ∧ c.body = .short slot p2) ∧
    (c = .feedGet slot → c.code = 0x25 ∧ c.body = .short slot p2) ∧
    (c = .paramGet slot → c.code = 0x34 ∧ c.body = .short slot p2) ∧
    (c = .podGet slot → c.code = 0x41 ∧ c.body = .short slot p2) ∧
    (c = .portGet slot → c.code = 0x48 ∧ c.body = .short slot p2)) ∧
  (∀ (c : HostCmd) (p1 p2 : Byte),
    (c = .srcTrim p1 p2 → c.code = 0x03 ∧ c.body = .short p1 p2) ∧
    (c = .podSetup p1 p2 → c.code = 0x40 ∧ c.body = .short p1 p2) ∧
    (c = .countGet p1 p2 → c.code = 0x52 ∧ c.body = .short p1 p2) ∧
    (c = .noteMask p2 → c.code = 0x51 ∧ ∃ q1, c.body = .short q1 p2) ∧
    (c = .xpTake (p1 ++ p2) → c.code = 0x3B ∧ c.body = .short p1 p2) ∧
    (c = .xpTakeNext (p1 ++ p2) → c.code = 0x3C ∧ c.body = .short p1 p2)) ∧
  (∀ (c : HostCmd) (slot : Byte) (on : Bool), ∃ flag q2 : Byte, flag.getLsbD 0 = on ∧
    (c = .srcMute slot on → c.code = 0x06 ∧ c.body = .short slot flag) ∧
    (c = .feedMute slot on → c.code = 0x23 ∧ c.body = .short slot flag) ∧
    (c = .grpMute slot on → c.code = 0x10 ∧ c.body = .short slot flag) ∧
    (c = .roomMute on → c.code = 0x11 ∧ c.body = .short flag q2)) ∧
  (HostCmd.muteGet.code = 0x12 ∧ HostCmd.floorGet.code = 0x18 ∧ HostCmd.floorReset.code = 0x19 ∧
    HostCmd.bankSwap.code = 0x30 ∧ HostCmd.bankCopy.code = 0x31 ∧ HostCmd.bankGet.code = 0x32 ∧
    HostCmd.noteGet.code = 0x50 ∧ HostCmd.engineReset.code = 0x5F ∧
    ∀ c ∈ [HostCmd.muteGet, .floorGet, .floorReset, .bankSwap, .bankCopy, .bankGet, .noteGet, .engineReset],
      ∃ p1 p2, c.body = .short p1 p2) ∧
  (∀ (slot : Byte) (chair : Bool) (origin : BitVec 7) (trim : Word) (groups : Groups), ∃ w : Word,
    (HostCmd.srcAttach slot chair origin trim groups).code = 0x01 ∧
    (HostCmd.srcAttach slot chair origin trim groups).body = .long [w, trim, groups] ∧
    w.extractLsb' 8 8 = slot ∧ w.getLsbD 7 = chair ∧ w.extractLsb' 0 7 = origin) ∧
  (∀ (c : HostCmd) (slot : Byte) (value : Word), ∃ w : Word, w.extractLsb' 0 8 = slot ∧
    (c = .srcGroups slot value → c.code = 0x04 ∧ c.body = .long [w, value]) ∧
    (c = .feedLevel slot value → c.code = 0x22 ∧ c.body = .long [w, value]) ∧
    (c = .feedExclude slot value → c.code = 0x24 ∧ c.body = .long [w, value])) ∧
  (∀ (slot dest : Byte) (master : Word) (excluded : Groups), ∃ w : Word,
    (HostCmd.feedAttach slot dest master excluded).code = 0x20 ∧
    (HostCmd.feedAttach slot dest master excluded).body = .long [w, master, excluded] ∧
    w.extractLsb' 8 8 = slot ∧ w.extractLsb' 0 8 = dest) ∧
  (∀ (fs fe ss se : Byte) (order : Word) (fr sr : Bool), ∃ w0 w1 w3 : Word,
    (HostCmd.xpWindow fs fe ss se order fr sr).code = 0x38 ∧
    (HostCmd.xpWindow fs fe ss se order fr sr).body = .long [w0, w1, order, w3] ∧
    w0.extractLsb' 8 8 = fs ∧ w0.extractLsb' 0 8 = fe ∧ w1.extractLsb' 8 8 = ss ∧ w1.extractLsb' 0 8 = se ∧
    w3.getLsbD 0 = fr ∧ w3.getLsbD 1 = sr) ∧
  (∀ pairs : List (Word × Word), (HostCmd.paramSet pairs).code = 0x33 ∧
    (HostCmd.paramSet pairs).body = .long (pairs.flatMap fun p => [p.1, p.2])) ∧
  ∀ ws : List Word, (HostCmd.xpPut ws).code = 0x39 ∧ (HostCmd.xpPut ws).body = .long ws ∧
    (HostCmd.xpPutNext ws).code = 0x3A ∧ (HostCmd.xpPutNext ws).body = .long ws

/-- The turnaround (R182, R190) sends the answers of R189, or nothing, and cuts short a packet in progress (R185). One
ANSWER_SENT is the sending of one answer, which is the model's reading (notes/assumptions/18.md): an ERROR REPORT sent
empties the error set (R187); with an answer left the part goes on answering; with none left it hands the line back
and an ENGINE.RESET's answer empties the error set (R198). The clearing after the DATA of a COUNT.GET is in
CountGetReadsThenClears. That ANSWER_SENT outside ANSWERING changes nothing is the model's reading too
(notes/assumptions/6.md and 16.md). -/
def Obligations.TurnaroundSendsTheOwedAnswers : Prop :=
  ∀ s : State,
    (∀ code r, s.ctl.rx = .owed code r →
      (∀ ws, r.words = some ws → s.ctl.errors = .none →
        exec .turnaround s = .next { s with ctl := { s.ctl with rx := .answering [.data code ws] r } }) ∧
      (∀ ws, r.words = some ws → s.ctl.errors ≠ .none →
        exec .turnaround s = .next { s with ctl :=
          { s.ctl with rx := .answering [.data code ws, .errorReport code s.ctl.errors] r } }) ∧
      (r.words = none → s.ctl.errors = .none →
        exec .turnaround s = .next { s with ctl := { s.ctl with rx := .answering [.ack code] r } }) ∧
      (r.words = none → s.ctl.errors ≠ .none →
        exec .turnaround s = .next { s with ctl :=
          { s.ctl with rx := .answering [.errorReport code s.ctl.errors] r } })) ∧
    (s.ctl.rx = .idle ∨ s.ctl.rx = .discard → exec .turnaround s = .next s) ∧
    (s.ctl.rx = .header → exec .turnaround s = .next { s with ctl := { s.ctl with rx := .idle } }) ∧
    (∀ wanted code n, s.ctl.rx = .payload wanted code n →
      exec .turnaround s = .next { s with ctl := { rx := .idle, errors := s.ctl.errors.add .length } }) ∧
    (∀ a rest r errors, s.ctl.rx = .answering (a :: rest) r →
      (∃ code e, a = .errorReport code e) ∧ errors = .none ∨
        (∃ code, a = .ack code) ∧ errors = s.ctl.errors ∨
        (∃ code ws, a = .data code ws) ∧ r.clears = none ∧ errors = s.ctl.errors →
      (rest ≠ [] → exec .answerSent s = .next { s with ctl := { rx := .answering rest r, errors := errors } }) ∧
      (rest = [] → exec .answerSent s
        = .next { s with ctl := { rx := .idle, errors := if r.engineReset then .none else errors } })) ∧
    (hostOwnsLine s → exec .answerSent s = .next s)

/-- NOTE.GET reports the notice set, one bit per kind, and removes what it reports, the line following (R194); when its
DATA is sent nothing further changes, and when it is abandoned what it removed comes back beside whatever has been
raised since, the line following again. -/
def Obligations.NoteGetRemovesAndReturnsTheKinds : Prop :=
  ∀ s : State, hostOwnsLine s → ∃ (w : Word) (t : State),
    exec .noteGet s = .next t ∧
    (w.getLsbD 0 = (written s).notice.set.podLink ∧ w.getLsbD 1 = (written s).notice.set.privacy ∧
      w.getLsbD 2 = (written s).notice.set.button ∧ w.getLsbD 3 = (written s).notice.set.talkMuted ∧
      w.getLsbD 4 = (written s).notice.set.floor ∧ w.getLsbD 5 = (written s).notice.set.slip ∧
      w.getLsbD 6 = (written s).notice.set.clip ∧ w.getLsbD 7 = (written s).notice.set.swapDone ∧
      ∀ j, 8 ≤ j → w.getLsbD j = false) ∧
    t = { answered 0x50 { dataReply [w] with removed := (written s).notice.set } s with
          notice := ⟨.none, (written s).notice.mask, false⟩ } ∧
    ∀ u : State, u.ctl = t.ctl →
      (∃ v, runAll [.turnaround, .answerSent] u = .next v ∧ { v with ctl := u.ctl } = u) ∧
      ∃ v, exec .packetStart u = .next v ∧
        (∀ k, v.notice.set.has k = (u.notice.set.has k || (written s).notice.set.has k)) ∧
        v.notice.mask = u.notice.mask ∧ AttentionLaw v

/-- NOTE.MASK replaces the mask by the set its byte gives, leaves the notice set, and the attention line follows the
new mask at once (R195). -/
def Obligations.NoteMaskReplacesTheMask : Prop :=
  ∀ (s : State) (m : Byte), hostOwnsLine s → ∃ t, exec (.noteMask m) s = .next t ∧
    t.notice.mask = ⟨m.getLsbD 0, m.getLsbD 1, m.getLsbD 2, m.getLsbD 3, m.getLsbD 4, m.getLsbD 5, m.getLsbD 6,
      m.getLsbD 7⟩ ∧
    t.notice.set = (written s).notice.set ∧ AttentionLaw t ∧
    { t with notice := (written s).notice } = written s

/-- COUNT.GET (R196): the counters of the target are read, in order, when the command is taken, and set to 0 once the
DATA has been sent, whatever they have become in between; where an ERROR REPORT follows the DATA (R190), what is counted
while it is sent stays. An abandoned DATA clears none, and a target that names nothing is refused. That one ANSWER_SENT
is the sending of one answer is the model's reading (notes/assumptions/18.md). -/
def Obligations.CountGetReadsThenClears : Prop :=
  ∀ s : State,
    (hostOwnsLine s →
      (∀ l : PodLink, exec (.countGet 0 (byteOf l)) s = .next (answered 0x52
        { dataReply [natWord s.pods[l].goodFrames, natWord s.pods[l].headerErrors, natWord s.pods[l].syncLosses] with
          clears := some (.podLink l) } s)) ∧
      (∀ p : FarPort, exec (.countGet 1 (byteOf p)) s = .next (answered 0x52
        { dataReply [natWord s.ports[p].inOver, natWord s.ports[p].inUnder, natWord s.ports[p].outOver,
            natWord s.ports[p].outUnder, natWord s.ports[p].clockLosses] with clears := some (.farPort p) } s)) ∧
      (∀ f : FeedSlot, exec (.countGet 2 (byteOf f)) s = .next (answered 0x52
        { dataReply [natWord s.feeds[f].clips] with clears := some (.feed f) } s)) ∧
      (∀ kind number : Byte, 3 ≤ kind.toNat ∨ kind = 0 ∧ 16 ≤ number.toNat ∨ kind = 1 ∧ 8 ≤ number.toNat ∨
          kind = 2 ∧ 32 ≤ number.toNat →
        exec (.countGet kind number) s = .next (refusedRead 0x52 .badParam s))) ∧
    ∀ r ws, s.ctl.rx = .owed 0x52 r → r.words = some ws →
      (∃ v, exec .packetStart s = .next v ∧ v.pods = s.pods ∧ v.ports = s.ports ∧ v.feeds = s.feeds) ∧
      (r.engineReset = false → ∀ x : State,
        ((∃ l, r.clears = some (.podLink l) ∧ x = { s with
            pods := s.pods.set l { s.pods[l] with goodFrames := 0, headerErrors := 0, syncLosses := 0 } }) ∨
          (∃ p, r.clears = some (.farPort p) ∧ x = { s with
            ports := s.ports.set p
              { s.ports[p] with inOver := 0, inUnder := 0, outOver := 0, outUnder := 0, clockLosses := 0 } }) ∨
          ∃ f, r.clears = some (.feed f) ∧ x = { s with feeds := s.feeds.set f { s.feeds[f] with clips := 0 } }) →
        (s.ctl.errors = .none →
          runAll [.turnaround, .answerSent] s = .next { x with ctl := ⟨.idle, .none⟩ }) ∧
        (s.ctl.errors ≠ .none → ∀ c : ControlLink,
          c = ⟨.answering [.errorReport 0x52 s.ctl.errors] r, s.ctl.errors⟩ →
          runAll [.turnaround, .answerSent] s = .next { x with ctl := c } ∧
          ∀ y : State, y.ctl = c → exec .answerSent y = .next { y with ctl := ⟨.idle, .none⟩ }))

/-! ### Checks and layouts (chapter 11) -/

/-- The checks of R202, R203 and R208, bit by bit. CRC-16 and CRC-8 are what a register holds that starts at all ones
or at 0, takes one input bit at each step, most significant first, shifts left, and is exclusive-ored with the
generator when the bit shifted out differs from the input. The header check is linear, bit 7 is 0, and a single
content bit gives its codeword position in c0 to c5 and a c6 that makes the parity of the check odd. -/
def Obligations.ChecksAreTheirGeneratorsAndPositions : Prop :=
  (∀ words : List Word, ∃ reg : Nat → Word, reg 0 = 0xFFFF ∧ crc16 words = reg (16 * words.length) ∧
    ∀ k, k < 16 * words.length → reg (k + 1) = (reg k <<< 1) ^^^
      (if (reg k).getLsbD 15 ≠ (words.getD (k / 16) 0).getLsbD (15 - k % 16) then 0x1021 else 0)) ∧
  (∀ bytes : List Byte, ∃ reg : Nat → Byte, reg 0 = 0 ∧ crc8 bytes = reg (8 * bytes.length) ∧
    ∀ k, k < 8 * bytes.length → reg (k + 1) = (reg k <<< 1) ^^^
      (if (reg k).getLsbD 7 ≠ (bytes.getD (k / 8) 0).getLsbD (7 - k % 8) then 0x07 else 0)) ∧
  (∀ c d : BitVec 32, headerCheck (c ^^^ d) = headerCheck c ^^^ headerCheck d) ∧
  (∀ d : BitVec 32, (headerCheck d).getLsbD 7 = false) ∧
  ∀ i, i < 32 → ∃ position : Nat,
    [3, 5, 6, 7, 9, 10, 11, 12, 13, 14, 15, 17, 18, 19, 20, 21, 22, 23, 24, 25, 26, 27, 28, 29, 30, 31, 33, 34, 35, 36,
      37, 38][i]? = some position ∧
    (headerCheck (BitVec.twoPow 32 i)).toNat % 64 = position ∧
    ((List.range 7).countP fun k => (headerCheck (BitVec.twoPow 32 i)).getLsbD k) % 2 = 1

/-- What the part sends (R200, R205 to R207). Bytes go out most significant bit first. A pod frame is 293 bytes: 0xC5; the
"no feed" flag with the speaking tag, 127 for none; the codes of elements 1 and 0, then 3 and 2, DARK to IDLE as 0 to 6;
the CRC-8 of these four; and 96 samples of three bytes, most significant first. An answer is five header bytes with
their check, for DATA followed by its words and their CRC, high byte first, an ERROR REPORT carrying one bit per kind; the
answers of one turnaround go out in order, and nothing goes out while the host owns the line. That bit 7 of an answer's
check byte is 0, as headerCheck gives it, is the model's reading (notes/assumptions/21.md). -/
def Obligations.FramesAndAnswersAreLaidOut : Prop :=
  (∀ (bytes : List Byte) (k j : Nat) (b : Byte), bytes[k]? = some b → j < 8 →
    (lineBits bytes)[8 * k + j]? = some (b.getLsbD (7 - j))) ∧
  (∀ bytes : List Byte, (lineBits bytes).length = 8 * bytes.length) ∧
  ([Indicator.dark, .priv, .alert, .muted, .live, .waiting, .idle].map Indicator.toNat = [0, 1, 2, 3, 4, 5, 6]) ∧
  (∀ (h : OutHead) (audio : Block), ∃ b1 b2 b3 : Byte,
    h.bytes = [0xC5, b1, b2, b3, crc8 [0xC5, b1, b2, b3]] ∧
    b1.getLsbD 7 = h.noFeed ∧ (b1.extractLsb' 0 7).toNat = (match h.tag with | some i => i.val | none => 127) ∧
    (b2.extractLsb' 4 4).toNat = h.codes[1].toNat ∧ (b2.extractLsb' 0 4).toNat = h.codes[0].toNat ∧
    (b3.extractLsb' 4 4).toNat = h.codes[3].toNat ∧ (b3.extractLsb' 0 4).toNat = h.codes[2].toNat ∧
    h.frame audio = h.bytes ++ blockBytes audio ∧ (h.frame audio).length = 293 ∧
    ∀ n : Fin 96, (blockBytes audio)[3 * n.val]? = some (audio[n].extractLsb' 16 8) ∧
      (blockBytes audio)[3 * n.val + 1]? = some (audio[n].extractLsb' 8 8) ∧
      (blockBytes audio)[3 * n.val + 2]? = some (audio[n].extractLsb' 0 8)) ∧
  (∀ (code : Byte) (ws : List Word), 1 ≤ ws.length → ws.length ≤ 256 → ∃ n : Byte, n.toNat + 1 = ws.length ∧
    ∃ payload : List Byte, payload.length = 2 * ws.length ∧
      (Answer.data code ws).bytes = [0x01, code, 0, n, headerCheck ((0x01 : Byte) ++ code ++ (0 : Byte) ++ n)] ++ payload
        ++ [(crc16 ws).extractLsb' 8 8, (crc16 ws).extractLsb' 0 8] ∧
      ∀ (k : Nat) (w : Word), ws[k]? = some w →
        payload[2 * k]? = some (w.extractLsb' 8 8) ∧ payload[2 * k + 1]? = some (w.extractLsb' 0 8)) ∧
  (∀ code : Byte, (Answer.ack code).bytes
    = [0x02, code, 0, 0, headerCheck ((0x02 : Byte) ++ code ++ (0 : Byte) ++ (0 : Byte))]) ∧
  (∀ (code : Byte) (e : ErrSet), ∃ hi lo : Byte,
    (Answer.errorReport code e).bytes = [0x03, code, hi, lo, headerCheck ((0x03 : Byte) ++ code ++ hi ++ lo)] ∧
    hi = (if e.bound then 1 else 0) ∧ lo.getLsbD 0 = e.hdrCorrected ∧ lo.getLsbD 1 = e.hdrFailed ∧
    lo.getLsbD 2 = e.payloadCheck ∧ lo.getLsbD 3 = e.length ∧ lo.getLsbD 4 = e.unknownCmd ∧
    lo.getLsbD 5 = e.badParam ∧ lo.getLsbD 6 = e.busy ∧ lo.getLsbD 7 = e.notAttached) ∧
  ∀ s : State, s.lineOutBits = lineBits s.lineOut ∧
    (∀ as r, s.ctl.rx = .answering as r → s.lineOut = as.flatMap Answer.bytes) ∧
    (hostOwnsLine s → s.lineOut = [])

/-! ### Reads (R16, R52, R81, R98, R127, R135, R166, R179, layouts of R205) -/

/-- SRC.GET and FEED.GET report every field of the record at its place in the layout of R205, as it stands when the
command is taken, and a slot number out of range is refused. The codes of R204 and R205: FREE, ACTIVE and RETIRING 0 to 2;
CHAIR to PROGRAM 0 to 3; CLOSED, PENDING, OPEN, HOLD, LAST and UNGATED 0 to 5; origins 4l + e, 64 + p and 72 + a;
destinations l, 16 + p and 24 + a; banks A 0 and B 1. -/
def Obligations.SrcGetAndFeedGetReportTheRecord : Prop :=
  [Lifecycle.free, .active, .retiring].map Lifecycle.code = [0, 1, 2] ∧
  [SrcClass.chair, .delegate, .remote, .program].map SrcClass.code = [0, 1, 2, 3] ∧
  (∀ c, [FloorState.closed, .pending, .opened, .hold c, .last, .ungated].map FloorState.code = [0, 1, 2, 3, 4, 5]) ∧
  (∀ l e, originCode (.pod l e) = 4 * l.val + e.val) ∧ (∀ p, originCode (.far p) = 64 + p.val) ∧
  (∀ a, originCode (.aux a) = 72 + a.val) ∧
  (∀ l, destCode (.podSpk l) = l.val) ∧ (∀ p, destCode (.farSend p) = 16 + p.val) ∧
  (∀ a, destCode (.auxOut a) = 24 + a.val) ∧ [BankName.a, .b].map bankCode = [0, 1] ∧
  (∀ n, natWord n = BitVec.ofNat 16 n) ∧ (∀ hi lo, bytesWord hi lo = BitVec.ofNat 16 (256 * hi + lo)) ∧
  ∀ s : State, hostOwnsLine s →
    (∀ i : SrcSlot, s.srcs[i].creep ≤ 255 →
      (∀ r, s.srcs[i].gain.ramp = some r → r.duration ≤ 16 ∧ r.done ≤ 16) →
      ∃ w0 w1 w5 w11 : Word,
        exec (.srcGet (byteOf i)) s = .next (answered 0x05 (dataReply
          [w0, w1, s.srcs[i].groups, BitVec.ofNat 16 s.srcs[i].s, BitVec.ofNat 16 s.srcs[i].n, w5,
            BitVec.ofNat 16 s.srcs[i].twm,
            BitVec.ofNat 16 (match s.srcs[i].floorState with | some (.hold c) => c | _ => 0),
            BitVec.ofInt 16 s.srcs[i].gain.current, BitVec.ofInt 16 s.srcs[i].gain.target,
            BitVec.ofInt 16 (match s.srcs[i].gain.ramp with | some r => r.start | none => 0), w11]) s) ∧
        (w0.extractLsb' 8 8).toNat = i.val ∧ (w0.extractLsb' 6 2).toNat = s.srcs[i].state.code ∧
        w0.getLsbD 5 = s.srcs[i].origin.isSome ∧
        (w0.extractLsb' 3 2).toNat = (match s.srcs[i].cls with | some c => c.code | none => 0) ∧
        w0.getLsbD 2 = s.srcs[i].userMute ∧ w0.getLsbD 1 = s.srcs[i].privacy ∧ w0.getLsbD 0 = s.srcs[i].effMute ∧
        (w1.extractLsb' 8 8).toNat = (match s.srcs[i].origin with | some o => originCode o | none => 0) ∧
        w1.extractLsb' 0 8 = BitVec.ofInt 8 s.srcs[i].trim ∧
        (w5.extractLsb' 8 8).toNat = s.srcs[i].creep ∧ w5.getLsbD 7 = decide (s.srcs[i].voice = .voiced) ∧
        w5.getLsbD 6 = s.srcs[i].alert ∧ w5.getLsbD 5 = s.srcs[i].floorState.isSome ∧
        (w5.extractLsb' 2 3).toNat = (match s.srcs[i].floorState with | some f => f.code | none => 0) ∧
        w5.getLsbD 1 = isHold s.srcs[i].floorState ∧ w5.getLsbD 0 = s.srcs[i].gain.ramp.isSome ∧
        (w11.extractLsb' 8 8).toNat = (match s.srcs[i].gain.ramp with | some r => r.duration | none => 0) ∧
        (w11.extractLsb' 0 8).toNat = (match s.srcs[i].gain.ramp with | some r => r.done | none => 0)) ∧
    (∀ slot : Byte, 80 ≤ slot.toNat → exec (.srcGet slot) s = .next (refusedRead 0x05 .badParam s)) ∧
    (∀ f : FeedSlot, (∀ r, s.feeds[f].gain.ramp = some r → r.duration ≤ 16 ∧ r.done ≤ 16) →
      ∃ w0 w1 w7 : Word,
        exec (.feedGet (byteOf f)) s = .next (answered 0x25 (dataReply
          [w0, w1, BitVec.ofInt 16 s.feeds[f].master, s.feeds[f].excluded,
            BitVec.ofInt 16 s.feeds[f].gain.current, BitVec.ofInt 16 s.feeds[f].gain.target,
            BitVec.ofInt 16 (match s.feeds[f].gain.ramp with | some r => r.start | none => 0), w7]) s) ∧
        (w0.extractLsb' 8 8).toNat = f.val ∧ (w0.extractLsb' 6 2).toNat = s.feeds[f].state.code ∧
        w0.getLsbD 5 = s.feeds[f].dest.isSome ∧ w0.getLsbD 4 = s.feeds[f].muted ∧
        w0.getLsbD 0 = s.feeds[f].gain.ramp.isSome ∧
        (w1.extractLsb' 8 8).toNat = (match s.feeds[f].dest with | some d => destCode d | none => 0) ∧
        (w7.extractLsb' 8 8).toNat = (match s.feeds[f].gain.ramp with | some r => r.duration | none => 0) ∧
        (w7.extractLsb' 0 8).toNat = (match s.feeds[f].gain.ramp with | some r => r.done | none => 0)) ∧
    ∀ slot : Byte, 32 ≤ slot.toNat → exec (.feedGet slot) s = .next (refusedRead 0x25 .badParam s)

/-- MUTE.GET, FLOOR.GET, BANK.GET, PARAM.GET, POD.GET and PORT.GET report what stands when they are taken, in the
layouts of R205, and change nothing (R52, R81, R127, R135, R166, R179); a number that names nothing is refused. That
the bits a layout does not name are 0 is the model's choice (notes/assumptions/21.md). -/
def Obligations.MuteFloorBankParamPodAndPortReads : Prop :=
  ∀ s : State, hostOwnsLine s →
    (∃ room m0 m1 m2 m3 m4 : Word,
      exec .muteGet s = .next (answered 0x12 (dataReply [s.mute.groups, room, m0, m1, m2, m3, m4]) s) ∧
      room = (if s.mute.room then 1 else 0) ∧
      ∀ i : SrcSlot, ([m0, m1, m2, m3, m4].getD (i.val / 16) 0).getLsbD (i.val % 16) = s.srcs[i].effMute) ∧
    exec .floorGet s = .next (answered 0x18 (dataReply (
      [s.floor.block.extractLsb' 16 16, s.floor.block.extractLsb' 0 16,
        bytesWord s.floor.list.length (s.floor.stamps.countP (·.live)),
        bytesWord s.floor.list.length (s.floor.chairs.length + s.floor.delegates.length),
        bytesWord s.floor.stamps.length 0]
      ++ s.floor.stamps.flatMap (fun t => [t.block.extractLsb' 16 16, t.block.extractLsb' 0 16])
      ++ s.floor.list.flatMap (fun i =>
          [bytesWord i.val ((if s.srcs[i].cls = some .chair then 128 else 0)
              + (match s.srcs[i].floorState with | some f => f.code | none => 0)),
            natWord (match s.srcs[i].floorState with | some (.hold c) => c | _ => 0)])
      ++ (s.floor.chairs ++ s.floor.delegates).map (fun i =>
          bytesWord i.val (if s.srcs[i].cls = some .chair then 128 else 0)))) s) ∧
    exec .bankGet s = .next (answered 0x32 (dataReply
      [bytesWord (if s.banks.operating = .b then 1 else 0)
        (match s.banks.swap with | .settled => 0 | .swapPending => 1 | .ramping => 2)]) s) ∧
    (∀ (code : Byte) (p : Params), (code = 0 ∧ p = s.banks.a.params ∨ code = 1 ∧ p = s.banks.b.params) →
      exec (.paramGet code) s = .next (answered 0x34 (dataReply
        [natWord p.maxOpen, natWord p.holdBlocks, natWord p.lastMic.toNat, natWord p.nomOn.toNat, natWord p.margin,
          natWord p.hysteresis, natWord p.voiceFloor, natWord p.closedAtten, natWord p.admitBurst,
          natWord p.admitWindow, natWord p.twmBlocks, natWord p.attackShift, natWord p.releaseShift,
          natWord p.creepBlocks]) s)) ∧
    (∀ code : Byte, 2 ≤ code.toNat → exec (.paramGet code) s = .next (refusedRead 0x34 .badParam s)) ∧
    (∀ l : PodLink, exec (.podGet (byteOf l)) s = .next (answered 0x41 (dataReply
      [natWord (256 * (match s.pods[l].framing with | .hunt => 0 | .presync => 1 | .sync => 2)
          + 16 * s.pods[l].goodRun + s.pods[l].badRun),
        natWord (256 * s.pods[l].depth + 16 * s.pods[l].elements + 2 * s.pods[l].head.noFeed.toNat
          + s.pods[l].privacy.toNat),
        natWord (4096 * s.pods[l].head.codes[3].toNat + 256 * s.pods[l].head.codes[2].toNat
          + 16 * s.pods[l].head.codes[1].toNat + s.pods[l].head.codes[0].toNat)]) s)) ∧
    (∀ link : Byte, 16 ≤ link.toNat → exec (.podGet link) s = .next (refusedRead 0x41 .badParam s)) ∧
    (∀ p : FarPort, exec (.portGet (byteOf p)) s = .next (answered 0x48 (dataReply
      [natWord (256 * (match s.ports[p].state with | .down => 0 | .priming => 1 | .running => 2)
          + 16 * s.ports[p].input.length + s.ports[p].output.length),
        natWord (256 * s.ports[p].primed.toNat + s.ports[p].idle)]) s)) ∧
    ∀ port : Byte, 8 ≤ port.toNat → exec (.portGet port) s = .next (refusedRead 0x48 .badParam s)

/-! ### Sources and feeds (chapters 1, 5 and 6) -/

/-- SRC.RETIRE, SRC.TRIM, SRC.GROUPS and SRC.MUTE, and FEED.RETIRE, FEED.LEVEL, FEED.MUTE and FEED.EXCLUDE, refuse a slot
number out of range with BAD_PARAM, a FREE slot with NOT_ATTACHED and a RETIRING slot with BUSY (R13, the tables of
sections 1.4 and 5.4, R92); a refused command has no other effect. -/
def Obligations.SlotsOutsideActiveAreRefused : Prop :=
  ∀ s : State, hostOwnsLine s →
    (∀ (slot : Byte) (k : ErrKind),
      (80 ≤ slot.toNat ∧ k = .badParam ∨
        ∃ i : SrcSlot, slot = byteOf i ∧
          (s.srcs[i].state = .free ∧ k = .notAttached ∨ s.srcs[i].state = .retiring ∧ k = .busy)) →
      exec (.srcRetire slot) s = .next (refusedWith k s) ∧
      (∀ v, exec (.srcTrim slot v) s = .next (refusedWith k s)) ∧
      (∀ g, exec (.srcGroups slot g) s = .next (refusedWith k s)) ∧
      ∀ on, exec (.srcMute slot on) s = .next (refusedWith k s)) ∧
    ∀ (slot : Byte) (k : ErrKind),
      (32 ≤ slot.toNat ∧ k = .badParam ∨
        ∃ f : FeedSlot, slot = byteOf f ∧
          (s.feeds[f].state = .free ∧ k = .notAttached ∨ s.feeds[f].state = .retiring ∧ k = .busy)) →
      exec (.feedRetire slot) s = .next (refusedWith k s) ∧
      (∀ v, exec (.feedLevel slot v) s = .next (refusedWith k s)) ∧
      (∀ on, exec (.feedMute slot on) s = .next (refusedWith k s)) ∧
      ∀ g, exec (.feedExclude slot g) s = .next (refusedWith k s)

/-- SRC.ATTACH is checked in the order of R6, the first check that fails refusing it with its kind, and is accepted when
none fails, whatever the link or port behind the origin is doing. Accepted, it fills the slot's record as R7 gives, with
the class of R5, the effective mute of R38, the target of R102 and the attach fade-in from OFF, and changes nothing
else: no other record, no list of the floor, no bank and no notice (R7, R8). -/
def Obligations.SrcAttachIsCheckedAndFillsTheRecord : Prop :=
  (∀ (s : State) (slot : Byte) (chair : Bool) (origin : BitVec 7) (trim : Word) (groups : Groups), hostOwnsLine s →
      (80 ≤ slot.toNat ∨ 80 ≤ origin.toNat →
        exec (.srcAttach slot chair origin trim groups) s = .next (refusedWith .badParam s)) ∧
      (slot.toNat < 80 → origin.toNat < 80 → chair = true → 64 ≤ origin.toNat →
        exec (.srcAttach slot chair origin trim groups) s = .next (refusedWith .badParam s)) ∧
      ∀ i : SrcSlot, slot = byteOf i → origin.toNat < 80 → (chair = true → origin.toNat < 64) →
        (s.srcs[i].state ≠ .free →
          exec (.srcAttach slot chair origin trim groups) s = .next (refusedWith .busy s)) ∧
        (s.srcs[i].state = .free →
          ((∃ (j : SrcSlot) (o : Origin), s.srcs[j].state ≠ .free ∧ s.srcs[j].origin = some o ∧
              originCode o = origin.toNat) →
            exec (.srcAttach slot chair origin trim groups) s = .next (refusedWith .bound s)) ∧
          ((∀ (j : SrcSlot) (o : Origin), s.srcs[j].state ≠ .free → s.srcs[j].origin = some o →
              originCode o ≠ origin.toNat) →
            ∃ t, exec (.srcAttach slot chair origin trim groups) s = .next t ∧ t.srcs[i].state = .active))) ∧
  ∀ (s : State) (i : SrcSlot) (o : Origin) (chair : Bool) (trim : Word) (groups : Groups),
    hostOwnsLine s → s.srcs[i].state = .free →
    (∀ j : SrcSlot, s.srcs[j].state ≠ .free → s.srcs[j].origin ≠ some o) →
    (chair = true → ∃ l e, o = .pod l e) →
    ∃ x : Source,
      exec (.srcAttach (byteOf i) chair (BitVec.ofNat 7 (originCode o)) trim groups) s
        = .next { written s with srcs := s.srcs.set i x } ∧
      x.state = .active ∧ x.origin = some o ∧
      x.cls = some (match o with
        | .pod _ _ => if chair then .chair else .delegate
        | .far _ => .remote
        | .aux _ => .program) ∧
      x.trim = max (-120) (min 24 trim.toInt) ∧ x.groups = groups ∧ x.userMute = false ∧
      x.privacy = (match o with | .pod l _ => s.pods[l].privacy | _ => false) ∧
      (x.effMute = true ↔ x.privacy = true ∨ (∃ g, groups.getLsbD g = true ∧ s.mute.groups.getLsbD g = true) ∨
        s.mute.room = true ∧ x.cls = some .delegate) ∧
      x.s = 0 ∧ x.n = 0 ∧ x.creep = 0 ∧ x.voice = .quiet ∧ x.twm = 0 ∧ x.alert = false ∧
      x.inBlock = none ∧ x.twmRose = false ∧ x.floorState = some (match o with | .pod _ _ => .closed | _ => .ungated) ∧
      x.gain.current = -192 ∧
      x.gain.target = (if x.effMute then -192 else match o with
        | .pod _ _ => max (-192) (min 24 (x.trim - s.params.closedAtten
            - (if s.params.nomOn then nom s.floor.list.length else 0)))
        | _ => x.trim) ∧
      (x.gain.target = -192 → x.gain.ramp = none) ∧
      (x.gain.target ≠ -192 → x.gain.ramp = some ⟨-192, rampDuration (x.gain.target + 192).natAbs, 0⟩)

/-- SRC.RETIRE of an ACTIVE slot (R9): the floor lets the source go; a silent one is FREE at once, another is RETIRING
with a new ramp from its current gain to OFF and keeps the rest of its record, CLOSED where it stood in a collection.
The floor's consequences reach the floor states and gains of the others alone, the gains as GainFollows gives (R76,
R103); a source that stood in neither collection has none. FLOOR is set exactly when a collection has changed (R80),
no other notice. The whole floor is what the removal leaves (R57, R69), followed by its pending service where a member
was removed (R65). That the ramp to OFF is made anew even where OFF was the target already is the model's choice
(notes/assumptions/2.md). -/
def Obligations.SrcRetireFadesOrFreesTheSource : Prop :=
  ∀ (s : State) (i : SrcSlot), hostOwnsLine s → s.srcs[i].state = .active → ∃ t,
    exec (.srcRetire (byteOf i)) s = .next t ∧
    (s.srcs[i].gain.current = -192 → t.srcs[i] = .free) ∧
    (s.srcs[i].gain.current ≠ -192 → t.srcs[i] = { s.srcs[i] with
      state := .retiring
      twm := 0
      alert := false
      floorState := t.srcs[i].floorState
      gain := ⟨s.srcs[i].gain.current, -192,
        some ⟨s.srcs[i].gain.current, rampDuration (s.srcs[i].gain.current + 192).natAbs, 0⟩⟩ }) ∧
    (s.floor.list.Nodup → s.floor.chairs.Nodup → s.floor.delegates.Nodup →
      i ∉ t.floor.list ∧ i ∉ t.floor.chairs ∧ i ∉ t.floor.delegates ∧
      (s.srcs[i].gain.current ≠ -192 → t.srcs[i].floorState =
        (if i ∈ s.floor.list ∨ i ∈ s.floor.chairs ∨ i ∈ s.floor.delegates then some .closed
        else s.srcs[i].floorState))) ∧
    (∀ j : SrcSlot, j ≠ i → t.srcs[j] = s.srcs[j].withFloorOf t.srcs[j] ∧ GainFollows s t j) ∧
    (i ∉ s.floor.list → i ∉ s.floor.chairs → i ∉ s.floor.delegates →
      t = { written s with srcs := s.srcs.set i t.srcs[i] }) ∧
    (i ∈ s.floor.list → t.floor = (pendingService (closeSource i s)).floor ∧
      ∀ j : SrcSlot, j ≠ i → t.srcs[j].floorState = (pendingService (closeSource i s)).srcs[j].floorState) ∧
    (i ∉ s.floor.list → t.floor = { s.floor with
        chairs := s.floor.chairs.erase i, delegates := s.floor.delegates.erase i } ∧
      ∀ j : SrcSlot, j ≠ i → t.srcs[j].floorState = s.srcs[j].floorState) ∧
    (MembershipLaw s → i ∈ s.floor.list → QueueServed t) ∧
    FloorNoticed (written s) t ∧ OnlyNotices [.floor] (written s) t ∧
    { t with srcs := s.srcs, floor := s.floor, notice := (written s).notice } = written s

/-- SRC.TRIM of an ACTIVE slot replaces the clamped trim and hands the new target of R102 to the ramp unit (R14,
R105): the target held changes nothing, the current gain ends any ramp, and any other target starts a new ramp from
the current gain. Nothing else changes. The target of every record is composed as R102 gives, and the NOM attenuations
are those of R75's table. -/
def Obligations.SrcTrimRetargetsTheGain : Prop :=
  [nom 0, nom 1, nom 2, nom 3, nom 4, nom 5, nom 6, nom 7, nom 8] = [0, 0, 6, 10, 12, 14, 16, 17, 18] ∧
  (∀ (p : Params) (n : Nat) (x : Source), composeTarget p n x =
    (if x.effMute = true ∨ x.state ≠ .active then -192 else max (-192) (min 24 (x.trim
      - (if x.floorState = some .closed ∨ x.floorState = some .pending then (p.closedAtten : Int) else 0)
      - (if (x.cls = some .chair ∨ x.cls = some .delegate) ∧ p.nomOn then nom n else 0))))) ∧
  ∀ (s : State) (i : SrcSlot) (v : Byte), hostOwnsLine s → s.srcs[i].state = .active → ∃ (trim : Int) (g : GainUnit),
    exec (.srcTrim (byteOf i) v) s
      = .next { written s with srcs := s.srcs.set i { s.srcs[i] with trim := trim, gain := g } } ∧
    trim = max (-120) (min 24 v.toInt) ∧ g.current = s.srcs[i].gain.current ∧
    g.target = (if s.srcs[i].effMute then -192 else max (-192) (min 24 (trim
      - (if s.srcs[i].floorState = some .closed ∨ s.srcs[i].floorState = some .pending then
          (s.params.closedAtten : Int) else 0)
      - (if (s.srcs[i].cls = some .chair ∨ s.srcs[i].cls = some .delegate) ∧ s.params.nomOn then
          nom s.floor.list.length else 0)))) ∧
    (g.target = s.srcs[i].gain.target → g = s.srcs[i].gain) ∧
    (g.target ≠ s.srcs[i].gain.target → g.target = g.current → g.ramp = none) ∧
    (g.target ≠ s.srcs[i].gain.target → g.target ≠ g.current →
      g.ramp = some ⟨g.current, rampDuration (g.target - g.current).natAbs, 0⟩)

/-- SRC.MUTE and SRC.GROUPS of an ACTIVE slot set the field they name and derive the effective mute again (R15, R38, R41).
When it stays, nothing more happens. When it goes on, the source is off the floor with target OFF (R39, R70); when it
goes off, the talk-while-muted count and ALERT are cleared and a VOICED floor-class source is admitted or queued, while
any other leaves the floor as it was (R30, R39, R71). The floor's consequences reach the floor states and gains of the
others alone. FLOOR is set exactly when a collection has changed (R80), no other notice. The whole floor is what the
removal leaves (R57, R69), followed by its pending service where a member was removed (R65), or what the attempt leaves,
and every gain follows from that (R76, R103, R105). -/
def Obligations.SrcMuteAndSrcGroupsHandOnTheMute : Prop :=
  ∀ (s : State) (i : SrcSlot) (c : Instr) (x : Source), hostOwnsLine s → s.srcs[i].state = .active →
    ((∃ on, c = .srcMute (byteOf i) on ∧ x = { s.srcs[i] with userMute := on }) ∨
      ∃ g, c = .srcGroups (byteOf i) g ∧ x = { s.srcs[i] with groups := g }) →
    ∃ (t : State) (m : Bool), exec c s = .next t ∧
      (m = true ↔ x.userMute = true ∨ x.privacy = true ∨
        (∃ g, x.groups.getLsbD g = true ∧ s.mute.groups.getLsbD g = true) ∨
        s.mute.room = true ∧ x.cls = some .delegate) ∧
      (m = s.srcs[i].effMute → t = { written s with srcs := s.srcs.set i x }) ∧
      t.srcs[i] = { x with
        effMute := m
        twm := t.srcs[i].twm
        alert := t.srcs[i].alert
        floorState := t.srcs[i].floorState
        gain := t.srcs[i].gain } ∧
      (m ≠ s.srcs[i].effMute → m = true →
        t.srcs[i].twm = x.twm ∧ t.srcs[i].alert = x.alert ∧ t.srcs[i].gain.target = -192 ∧
        (MembershipLaw s → i ∉ t.floor.list ∧ i ∉ t.floor.chairs ∧ i ∉ t.floor.delegates) ∧
        (MembershipLaw s → i ∈ s.floor.list → SameFloor (pendingService (closeSource i s)) t) ∧
        (MembershipLaw s → i ∉ s.floor.list → t.floor = { s.floor with
            chairs := s.floor.chairs.erase i, delegates := s.floor.delegates.erase i } ∧
          (i ∈ s.floor.chairs ∨ i ∈ s.floor.delegates → t.srcs[i].floorState = some .closed) ∧
          (i ∉ s.floor.chairs → i ∉ s.floor.delegates → t.srcs[i].floorState = s.srcs[i].floorState) ∧
          ∀ j : SrcSlot, j ≠ i → t.srcs[j].floorState = s.srcs[j].floorState) ∧
        (MembershipLaw s → i ∈ s.floor.list → QueueServed t)) ∧
      (m ≠ s.srcs[i].effMute → m = false →
        t.srcs[i].twm = 0 ∧ t.srcs[i].alert = false ∧
        t.srcs[i].gain.target = composeTarget s.params t.floor.list.length t.srcs[i] ∧
        (x.voice = .voiced → x.floorClass = true →
          SameFloor (attempt i s) t ∧
          (t.srcs[i].floorState = some .opened ∧ i ∈ t.floor.list ∨
            t.srcs[i].floorState = some .pending ∧ (i ∈ t.floor.chairs ∨ i ∈ t.floor.delegates))) ∧
        (x.voice = .quiet ∨ x.floorClass = false →
          SameFloor s t ∧ t.notice = (written s).notice ∧
          ∀ j : SrcSlot, j ≠ i → t.srcs[j] = s.srcs[j])) ∧
      (∀ j : SrcSlot, j ≠ i → t.srcs[j] = s.srcs[j].withFloorOf t.srcs[j]) ∧
      (∀ j : SrcSlot, GainFollows s t j) ∧
      FloorNoticed (written s) t ∧ OnlyNotices [.floor] (written s) t ∧
      { t with srcs := s.srcs, floor := s.floor, notice := (written s).notice, freeCount := s.freeCount } = written s

/-- GRP.MUTE sets one group's mute and ROOM.MUTE the room mute; naming the value held changes nothing, and a group number
out of range is refused. The effective mute of every source agrees with its layers before and after (R38, R44, R45), and
beyond it only the talk-while-muted fields, floor states and gains of the sources whose mute changed, and the floor's
consequences, move (R39). Every change is handed on as MutesHandedOn gives: a muted source leaves the floor and pending
service follows, an unmuted VOICED one is admitted or queued, a QUIET one stays CLOSED (R30, R65, R69 to R71), and
nothing else moves on the floor; the one pending service behind all of them is the model's reading
(notes/assumptions/11.md). Every gain follows from what the event leaves (R76, R103, R105). FLOOR is set exactly when a
collection has changed (R80), and no other notice. -/
def Obligations.GrpMuteAndRoomMuteKeepTheMutesDerived : Prop :=
  ∀ s : State, hostOwnsLine s →
    (∀ (group : Byte) (on : Bool), 16 ≤ group.toNat →
      exec (.grpMute group on) s = .next (refusedWith .badParam s)) ∧
    (∀ (g : Fin 16) (on : Bool), s.mute.groups.getLsbD g.val = on →
      exec (.grpMute (byteOf g) on) s = .next (written s)) ∧
    (∀ on : Bool, s.mute.room = on → exec (.roomMute on) s = .next (written s)) ∧
    ∀ (c : Instr) (m : MuteUnit),
      ((∃ (g : Fin 16) (on : Bool), c = .grpMute (byteOf g) on ∧ m.room = s.mute.room ∧
          ∀ j, j < 16 → m.groups.getLsbD j = if j = g.val then on else s.mute.groups.getLsbD j) ∨
        ∃ on : Bool, c = .roomMute on ∧ m = ⟨s.mute.groups, on⟩) →
      ∃ t, exec c s = .next t ∧ t.mute = m ∧ (MuteLaw s → MuteLaw t) ∧
        (∀ i : SrcSlot, t.srcs[i] = { s.srcs[i] with
          effMute := t.srcs[i].effMute
          twm := t.srcs[i].twm
          alert := t.srcs[i].alert
          floorState := t.srcs[i].floorState
          gain := t.srcs[i].gain }) ∧
        MutesHandedOn s t ∧ FloorNoticed (written s) t ∧ OnlyNotices [.floor] (written s) t ∧
        { t with srcs := s.srcs, mute := s.mute, floor := s.floor, notice := (written s).notice,
                 freeCount := s.freeCount } = written s

/-- FLOOR.RESET (R82): every member and every entry CLOSED, the collections and the stamp list empty, the targets of every
ACTIVE floor-class source handed on for n = 0 (R103, R105), FLOOR set when a collection was not empty, and nothing else
changed: not the block number, the voice states, the Level Monitor fields or any mute. -/
def Obligations.FloorResetClearsTheFloor : Prop :=
  ∀ s : State, hostOwnsLine s → ∃ t, exec .floorReset s = .next t ∧
    t.floor = ⟨[], [], [], [], s.floor.block⟩ ∧
    (∀ i : SrcSlot, t.srcs[i] = s.srcs[i].withFloorOf t.srcs[i] ∧
      (i ∈ s.floor.list ∨ i ∈ s.floor.chairs ∨ i ∈ s.floor.delegates → t.srcs[i].floorState = some .closed) ∧
      (i ∉ s.floor.list → i ∉ s.floor.chairs → i ∉ s.floor.delegates →
        t.srcs[i].floorState = s.srcs[i].floorState) ∧
      t.srcs[i].gain = (if s.srcs[i].state = .active ∧ s.srcs[i].floorClass then
          s.srcs[i].gain.hand (composeTarget s.params 0 t.srcs[i]) else s.srcs[i].gain)) ∧
    (s.floor.list = [] → s.floor.chairs = [] → s.floor.delegates = [] → t.notice = (written s).notice) ∧
    (s.floor.list ≠ [] ∨ s.floor.chairs ≠ [] ∨ s.floor.delegates ≠ [] →
      t.notice.set = { (written s).notice.set with floor := true } ∧ t.notice.mask = s.notice.mask ∧ AttentionLaw t) ∧
    { t with srcs := s.srcs, floor := s.floor, notice := (written s).notice } = written s

/-- FEED.ATTACH is checked in the order of R87; accepted, it fills the record as R88 gives, with the fade-in from OFF
toward a master that is not OFF and a zeroed clip counter, and changes nothing else. -/
def Obligations.FeedAttachIsCheckedAndFillsTheRecord : Prop :=
  ∀ (s : State) (slot dest : Byte) (master : Word) (excluded : Groups), hostOwnsLine s →
    (32 ≤ slot.toNat ∨ 32 ≤ dest.toNat →
      exec (.feedAttach slot dest master excluded) s = .next (refusedWith .badParam s)) ∧
    ∀ (f : FeedSlot) (d : Destination), slot = byteOf f → dest.toNat = destCode d →
      (s.feeds[f].state ≠ .free →
        exec (.feedAttach slot dest master excluded) s = .next (refusedWith .busy s)) ∧
      (s.feeds[f].state = .free →
        ((∃ g : FeedSlot, s.feeds[g].state ≠ .free ∧ s.feeds[g].dest = some d) →
          exec (.feedAttach slot dest master excluded) s = .next (refusedWith .bound s)) ∧
        ((∀ g : FeedSlot, s.feeds[g].state ≠ .free → s.feeds[g].dest ≠ some d) →
          ∃ m : Int, m = max (-192) (min 24 master.toInt) ∧
          exec (.feedAttach slot dest master excluded) s = .next { written s with feeds := s.feeds.set f {
              state := .active
              dest := some d
              master := m
              muted := false
              excluded := excluded
              gain := ⟨-192, m, if m = -192 then none else some ⟨-192, rampDuration (m + 192).natAbs, 0⟩⟩
              clips := 0 } }))

/-- The commands of an ACTIVE feed slot. FEED.RETIRE (R89): FREE at once when its current gain is OFF, keeping the clip
counter (R91), and otherwise RETIRING with a new ramp from the current gain to OFF, the rest of the record kept; that the
ramp is made anew even where OFF was the target already is the model's choice (notes/assumptions/2.md). FEED.LEVEL,
FEED.MUTE and FEED.EXCLUDE set the field they name (R93 to R95); the first two hand the feed's target, OFF while muted
and the master otherwise (R104), to the ramp unit under R105; the last touches no gain. Nothing else changes. -/
def Obligations.FeedCommandsOfAnActiveFeed : Prop :=
  ∀ (s : State) (f : FeedSlot), hostOwnsLine s → s.feeds[f].state = .active →
    (s.feeds[f].gain.current = -192 → exec (.feedRetire (byteOf f)) s
      = .next { written s with
          feeds := s.feeds.set f ⟨.free, none, -192, false, 0, ⟨-192, -192, none⟩, s.feeds[f].clips⟩ }) ∧
    (s.feeds[f].gain.current ≠ -192 → exec (.feedRetire (byteOf f)) s
      = .next { written s with feeds := s.feeds.set f { s.feeds[f] with
          state := .retiring
          gain := ⟨s.feeds[f].gain.current, -192,
            some ⟨s.feeds[f].gain.current, rampDuration (s.feeds[f].gain.current + 192).natAbs, 0⟩⟩ } }) ∧
    (∀ g : Groups, exec (.feedExclude (byteOf f) g) s
      = .next { written s with feeds := s.feeds.set f { s.feeds[f] with excluded := g } }) ∧
    ∀ (c : Instr) (master : Int) (muted : Bool),
      ((∃ v : Word, c = .feedLevel (byteOf f) v ∧ master = max (-192) (min 24 v.toInt) ∧ muted = s.feeds[f].muted) ∨
        c = .feedMute (byteOf f) muted ∧ master = s.feeds[f].master) →
      ∃ g : GainUnit,
        exec c s = .next { written s with
          feeds := s.feeds.set f { s.feeds[f] with master := master, muted := muted, gain := g } } ∧
        g.current = s.feeds[f].gain.current ∧ g.target = (if muted then -192 else master) ∧
        (g.target = s.feeds[f].gain.target → g = s.feeds[f].gain) ∧
        (g.target ≠ s.feeds[f].gain.target → g.target = g.current → g.ramp = none) ∧
        (g.target ≠ s.feeds[f].gain.target → g.target ≠ g.current →
          g.ramp = some ⟨g.current, rampDuration (g.target - g.current).natAbs, 0⟩)

/-! ### The Bank Store (chapter 7) -/

/-- In SETTLED, BANK.SWAP moves the swap state to SWAP_PENDING and BANK.COPY copies the operating bank into the edit bank,
and neither does anything else; outside SETTLED the two, and PARAM.SET, XP.PUT and XP.PUTNEXT with a word count they
accept, are refused with BUSY (R129, R133, R134). -/
def Obligations.BankSwapAndCopyNeedSettled : Prop :=
  ∀ s : State, hostOwnsLine s →
    (s.banks.swap = .settled →
      exec .bankSwap s = .next { written s with banks := { s.banks with swap := .swapPending } } ∧
      ∃ b : BankStore, exec .bankCopy s = .next { written s with banks := b } ∧
        b.bank s.banks.operating = s.banks.bank s.banks.operating ∧
        b.bank (otherBank s.banks.operating) = s.banks.bank s.banks.operating ∧
        b.operating = s.banks.operating ∧ b.swap = .settled ∧ b.window = s.banks.window ∧
        b.cursor = s.banks.cursor) ∧
    (s.banks.swap ≠ .settled →
      exec .bankSwap s = .next (refusedWith .busy s) ∧ exec .bankCopy s = .next (refusedWith .busy s) ∧
      (∀ pairs, 1 ≤ pairs.length → pairs.length ≤ 128 →
        exec (.paramSet pairs) s = .next (refusedWith .busy s)) ∧
      ∀ words, 1 ≤ words.length → words.length ≤ 256 →
        exec (.xpPut words) s = .next (refusedWith .busy s) ∧
        exec (.xpPutNext words) s = .next (refusedWith .busy s))

/-- PARAM.SET (R124 to R126) in SETTLED: an identifier that names no parameter refuses the whole packet; one pair
writes one parameter of the edit bank, clamped to its range, Hysteresis to the Margin, and a lowered Margin lowers the
Hysteresis; several pairs are applied one after another, as packets of fewer pairs would be; and an odd number of
words is a word count wrong for the command. Nothing but the edit bank's parameters changes. -/
def Obligations.ParamSetWritesClampedParameters : Prop :=
  (∀ ws : List Word, ws.length % 2 = 1 → decodeLong 0x33 ws = none) ∧
  ∀ s : State, hostOwnsLine s → s.banks.swap = .settled →
    (∀ pairs : List (Word × Word), 1 ≤ pairs.length → pairs.length ≤ 128 →
      (∃ p ∈ pairs, p.1.toNat = 0 ∨ 14 < p.1.toNat) →
      exec (.paramSet pairs) s = .next (refusedWith .badParam s)) ∧
    (∀ (id v : Word), 1 ≤ id.toNat → id.toNat ≤ 14 → ∃ (p : Params) (b : BankStore) (x : Nat),
      exec (.paramSet [(id, v)]) s = .next { written s with banks := b } ∧
      b.bank (otherBank s.banks.operating) = { s.banks.editBank with params := p } ∧
      b.bank s.banks.operating = s.banks.opBank ∧
      { b with a := s.banks.a, b := s.banks.b } = s.banks ∧
      (x : Int) = max (([1, 0, 0, 0, 0, 0, 0, 0, 1, 1, 1, 0, 2, 1] : List Int).getD (id.toNat - 1) 0)
        (min (([8, 5000, 1, 1, 60, s.banks.editBank.params.margin, 200, 192, 8, 5000, 5000, 4, 8, 255] :
          List Int).getD (id.toNat - 1) 0) v.toInt) ∧
      [p.maxOpen, p.holdBlocks, p.lastMic.toNat, p.nomOn.toNat, p.margin, p.hysteresis, p.voiceFloor, p.closedAtten,
          p.admitBurst, p.admitWindow, p.twmBlocks, p.attackShift, p.releaseShift, p.creepBlocks]
        = ([s.banks.editBank.params.maxOpen, s.banks.editBank.params.holdBlocks,
            s.banks.editBank.params.lastMic.toNat, s.banks.editBank.params.nomOn.toNat,
            s.banks.editBank.params.margin,
            (if id.toNat = 5 then min s.banks.editBank.params.hysteresis x else s.banks.editBank.params.hysteresis),
            s.banks.editBank.params.voiceFloor, s.banks.editBank.params.closedAtten,
            s.banks.editBank.params.admitBurst, s.banks.editBank.params.admitWindow,
            s.banks.editBank.params.twmBlocks, s.banks.editBank.params.attackShift,
            s.banks.editBank.params.releaseShift, s.banks.editBank.params.creepBlocks]).set (id.toNat - 1) x) ∧
    ∀ ps qs : List (Word × Word), 1 ≤ ps.length → 1 ≤ qs.length → ps.length + qs.length ≤ 128 →
      (∀ p ∈ ps ++ qs, 1 ≤ p.1.toNat ∧ p.1.toNat ≤ 14) →
      exec (.paramSet (ps ++ qs)) s = runAll [.paramSet ps, .paramSet qs] s

/-- XP.WINDOW (R140) is refused with BAD_PARAM for a bound out of range, a start above its end or an unknown order
code, and otherwise replaces the window and sets the cursor to the first position, in every swap state; nothing else
changes. The walk of a window (R138): P positions, one for each feed and source of the window, position k pairing the
feed and the source at the places that the quotient and the remainder of k give in the walking order, each list
ascending, or descending when its reverse flag is on. -/
def Obligations.XpWindowReplacesTheWindowAndItsWalk : Prop :=
  (∀ (s : State) (fs fe ss se : Byte) (order : Word) (fr sr : Bool), hostOwnsLine s →
      (32 ≤ fs.toNat ∨ 32 ≤ fe.toNat ∨ 80 ≤ ss.toNat ∨ 80 ≤ se.toNat ∨ fe.toNat < fs.toNat ∨ se.toNat < ss.toNat ∨
          2 ≤ order.toNat →
        exec (.xpWindow fs fe ss se order fr sr) s = .next (refusedWith .badParam s)) ∧
      ∀ (a b : FeedSlot) (c d : SrcSlot) (o : WalkOrder), fs = byteOf a → fe = byteOf b → ss = byteOf c → se = byteOf d →
        a ≤ b → c ≤ d → (order = 0 ∧ o = .feedMajor ∨ order = 1 ∧ o = .sourceMajor) →
        exec (.xpWindow fs fe ss se order fr sr) s
          = .next { written s with banks := { s.banks with window := ⟨a, b, c, d, o, fr, sr⟩, cursor := 0 } }) ∧
  ∀ w : Window, w.feedStart ≤ w.feedEnd → w.srcStart ≤ w.srcEnd →
    w.walk.length = (w.feedEnd.val - w.feedStart.val + 1) * (w.srcEnd.val - w.srcStart.val + 1) ∧
    ∀ k q r : Nat, k < w.walk.length →
      (w.order = .feedMajor ∧ q = k / (w.srcEnd.val - w.srcStart.val + 1) ∧
          r = k % (w.srcEnd.val - w.srcStart.val + 1) ∨
        w.order = .sourceMajor ∧ r = k / (w.feedEnd.val - w.feedStart.val + 1) ∧
          q = k % (w.feedEnd.val - w.feedStart.val + 1)) →
      ∃ (f : FeedSlot) (i : SrcSlot), w.walk[k]? = some (f, i) ∧
        f.val = (if w.feedRev then w.feedEnd.val - q else w.feedStart.val + q) ∧
        i.val = (if w.srcRev then w.srcEnd.val - r else w.srcStart.val + r)

/-- XP.PUT and XP.PUTNEXT in SETTLED (R139, R141 to R143): the words are laid along the walk from the first position
or from the cursor, wrapping after the last; each pair keeps the last word that falls on it, stored as R143 gives; a
pair on which none falls keeps its value; the cursor ends past the last word; and nothing else changes, the operating
bank included. -/
def Obligations.XpPutWritesAlongTheWalk : Prop :=
  ∀ (s : State) (c : Instr) (start : Nat) (words : List Word), hostOwnsLine s → s.banks.swap = .settled →
    s.banks.window.feedStart ≤ s.banks.window.feedEnd → s.banks.window.srcStart ≤ s.banks.window.srcEnd →
    s.banks.cursor < s.banks.window.walk.length → 1 ≤ words.length → words.length ≤ 256 →
    (c = .xpPut words ∧ start = 0 ∨ c = .xpPutNext words ∧ start = s.banks.cursor) →
    ∃ (m : Matrix Int) (b : BankStore), exec c s = .next { written s with banks := b } ∧
      b.bank (otherBank s.banks.operating) = { s.banks.editBank with xp := m } ∧
      b.bank s.banks.operating = s.banks.opBank ∧
      b = { s.banks with a := b.a, b := b.b, cursor := (start + words.length) % s.banks.window.walk.length } ∧
      (∀ (k : Nat) (w : Word) (f : FeedSlot) (i : SrcSlot), words[k]? = some w →
        s.banks.window.walk[(start + k) % s.banks.window.walk.length]? = some (f, i) →
        (∀ k', k < k' → k' < words.length →
          (start + k') % s.banks.window.walk.length ≠ (start + k) % s.banks.window.walk.length) →
        m[f][i] = max (-192) (min 24 w.toInt)) ∧
      ∀ (f : FeedSlot) (i : SrcSlot),
        (∀ k, k < words.length →
          s.banks.window.walk[(start + k) % s.banks.window.walk.length]? ≠ some (f, i)) →
        m[f][i] = s.banks.editBank.xp[f][i]

/-- XP.TAKE and XP.TAKENEXT in every swap state (R139, R144, R145): a count outside 1 to 256 is refused; otherwise the
values of the edit bank are read along the walk from the first position or from the cursor, wrapping after the last,
the cursor ends past the last value, and nothing else changes. -/
def Obligations.XpTakeReadsAlongTheWalk : Prop :=
  ∀ (s : State) (n : Word), hostOwnsLine s →
    (n.toNat = 0 ∨ 256 < n.toNat →
      exec (.xpTake n) s = .next (refusedRead 0x3B .badParam s) ∧
      exec (.xpTakeNext n) s = .next (refusedRead 0x3C .badParam s)) ∧
    ∀ (c : Instr) (start : Nat) (code : Byte), 1 ≤ n.toNat → n.toNat ≤ 256 →
      s.banks.window.feedStart ≤ s.banks.window.feedEnd → s.banks.window.srcStart ≤ s.banks.window.srcEnd →
      (c = .xpTake n ∧ start = 0 ∧ code = 0x3B ∨ c = .xpTakeNext n ∧ start = s.banks.cursor ∧ code = 0x3C) →
      ∃ words : List Word,
        exec c s = .next { answered code (dataReply words) s with
          banks := { s.banks with cursor := (start + n.toNat) % s.banks.window.walk.length } } ∧
        words.length = n.toNat ∧
        ∀ k, k < n.toNat → ∃ (f : FeedSlot) (i : SrcSlot),
          s.banks.window.walk[(start + k) % s.banks.window.walk.length]? = some (f, i) ∧
          words[k]? = some (BitVec.ofInt 16 s.banks.editBank.xp[f][i])

/-- The swap effect (R130, R36, R110): the roles of the banks exchange and the swap state becomes RAMPING, no bank's
contents change, a crosspoint ramp stands for exactly the pairs whose values differ, creep counts come below the new
CreepBlocks, every ACTIVE floor-class source has its target under the new parameters handed to the ramp unit and no
other gain moves (R103, R105), and the floor meets the new MaxOpen and AdmitBurst (R78). Pending service has been made
(R65), and FLOOR is set exactly when a collection has changed (R80). In what order the floor is adjusted is in
SwapAdjustsTheFloorInOrder. It is part of the start of the next mix block. With no swap pending the event does not
come about (the model's reading, notes/assumptions/6.md). -/
def Obligations.SwapEffectExchangesTheBanks : Prop :=
  ∀ s : State,
    (s.banks.swap ≠ .swapPending → exec .swapEffect s = .next s) ∧
    (s.banks.swap = .swapPending → ∃ t, exec .swapEffect s = .next t ∧
      t.banks = { s.banks with operating := otherBank s.banks.operating, swap := .ramping } ∧
      (∀ (f : FeedSlot) (i : SrcSlot),
        (s.banks.opBank.xp[f][i] = s.banks.editBank.xp[f][i] → t.xpRamps[f][i] = none) ∧
        (s.banks.opBank.xp[f][i] ≠ s.banks.editBank.xp[f][i] →
          t.xpRamps[f][i] = some ⟨s.banks.opBank.xp[f][i], s.banks.editBank.xp[f][i],
            rampDuration (s.banks.editBank.xp[f][i] - s.banks.opBank.xp[f][i]).natAbs, 0⟩)) ∧
      (∀ i : SrcSlot, t.srcs[i] = { s.srcs[i] with
        creep := (if s.banks.editBank.params.creepBlocks ≤ s.srcs[i].creep then
          s.banks.editBank.params.creepBlocks - 1 else s.srcs[i].creep)
        floorState := t.srcs[i].floorState
        gain := t.srcs[i].gain }) ∧
      (∀ i : SrcSlot, s.srcs[i].state = .active → s.srcs[i].floorClass = true →
        t.srcs[i].gain.target = composeTarget s.banks.editBank.params t.floor.list.length t.srcs[i]) ∧
      (∀ i : SrcSlot, t.srcs[i].gain = (if s.srcs[i].state = .active ∧ s.srcs[i].floorClass = true then
        s.srcs[i].gain.hand (composeTarget s.banks.editBank.params t.floor.list.length t.srcs[i])
        else s.srcs[i].gain)) ∧
      t.floor.block = s.floor.block ∧ (BankLaw s → FloorLaw s → FloorLaw t) ∧ (MembershipLaw s → QueueServed t) ∧
      FloorNoticed s t ∧ OnlyNotices [.floor] s t ∧
      { t with srcs := s.srcs, floor := s.floor, banks := s.banks, xpRamps := s.xpRamps, notice := s.notice } = s ∧
      ∀ aux, ∃ u, exec (.mixBlockStart aux) s = .next u ∧ u.banks = t.banks ∧
        ∀ (f : FeedSlot) (i : SrcSlot), u.xpRamps[f][i] = t.xpRamps[f][i].map fun r => { r with done := 1 })

/-- The Floor Controller's work at a swap effect, in the order of R78: the parameters are the new bank's; a LAST
member leaves when LastMic is off; every hold count comes down to HoldBlocks, and where that is 0 every HOLD member
leaves as CLOSED, but the one left alone on the floor with the queue empty and LastMic on, which becomes LAST; a floor
longer than MaxOpen gives up LAST, then HOLD oldest first, then OPEN DELEGATE newest first, then OPEN CHAIR newest
first, an OPEN one going PENDING to the head of its part with the removed of each part in their order of admission;
the oldest stamps are dropped until AdmitBurst stay; then stamps expire and pending service is made. Each step is
stated for a floor that keeps its law. -/
def Obligations.SwapAdjustsTheFloorInOrder : Prop :=
  (∀ s : State, s.banks.swap = .swapPending → ∃ t u v : State, exec .swapEffect s = .next t ∧
    u.banks = t.banks ∧ u.floor = s.floor ∧
    (∀ i : SrcSlot, u.srcs[i] = { s.srcs[i] with creep := u.srcs[i].creep }) ∧
    v = swapHolds (swapLast u) ∧
    t.floor = (pendingService (expireStamps (swapStamps (shrinkFloor v.floor.list.length v)))).floor ∧
    ∀ i : SrcSlot, t.srcs[i].floorState
      = (pendingService (expireStamps (swapStamps (shrinkFloor v.floor.list.length v)))).srcs[i].floorState) ∧
  ∀ s : State, MembershipLaw s →
    (s.params.lastMic = true ∨ (∀ i ∈ s.floor.list, s.srcs[i].floorState ≠ some .last) → swapLast s = s) ∧
    (∀ i ∈ s.floor.list, s.params.lastMic = false → s.srcs[i].floorState = some .last →
      (∀ j ∈ s.floor.list, s.srcs[j].floorState = some .last → j = i) →
      swapLast s = { s with
        floor := { s.floor with list := s.floor.list.erase i }
        srcs := s.srcs.set i { s.srcs[i] with floorState := some .closed } }) ∧
    (∀ t : State, t = swapHolds s → (∀ (i : SrcSlot) (c : Nat), s.srcs[i].floorState = some (.hold c) → 1 ≤ c) →
      (0 < s.params.holdBlocks → t.floor = s.floor ∧ ∀ i : SrcSlot, t.srcs[i] = { s.srcs[i] with
        floorState := (match s.srcs[i].floorState with
          | some (.hold c) => some (.hold (min c s.params.holdBlocks))
          | f => f) }) ∧
      (∀ (i : SrcSlot) (older : List SrcSlot), s.params.holdBlocks = 0 → s.params.lastMic = true →
        s.floor.chairs = [] → s.floor.delegates = [] → s.floor.list = older ++ [i] →
        (∀ j ∈ s.floor.list, isHold s.srcs[j].floorState = true) →
        t.floor = { s.floor with list := [i] } ∧ t.srcs[i] = { s.srcs[i] with floorState := some .last } ∧
        (∀ j ∈ older, t.srcs[j] = { s.srcs[j] with floorState := some .closed }) ∧
        ∀ j : SrcSlot, j ∉ s.floor.list → t.srcs[j] = s.srcs[j]) ∧
      (s.params.holdBlocks = 0 → s.params.lastMic = false ∨ s.floor.chairs ≠ [] ∨ s.floor.delegates ≠ [] ∨
          (∃ j ∈ s.floor.list, isHold s.srcs[j].floorState = false) →
        t.floor = { s.floor with list := s.floor.list.filter fun i => !isHold s.srcs[i].floorState } ∧
        ∀ i : SrcSlot, t.srcs[i] = { s.srcs[i] with
          floorState := if isHold s.srcs[i].floorState then some .closed else s.srcs[i].floorState })) ∧
    (∀ t : State, t = shrinkFloor s.floor.list.length s →
      t.floor.list.Sublist s.floor.list ∧ t.floor.list.length = min s.floor.list.length s.params.maxOpen ∧
      (∀ i ∈ s.floor.list, ∀ j ∈ t.floor.list, i ∉ t.floor.list →
        s.srcs[i].floorState = some .last ∨ s.srcs[j].floorState ≠ some .last ∧
          (isHold s.srcs[i].floorState = true ∧
              (isHold s.srcs[j].floorState = true → [i, j].Sublist s.floor.list) ∨
            s.srcs[i].floorState = some .opened ∧ s.srcs[j].floorState = some .opened ∧
              (s.srcs[i].cls = some .delegate ∧ (s.srcs[j].cls = some .delegate → [j, i].Sublist s.floor.list) ∨
                s.srcs[i].cls = some .chair ∧ s.srcs[j].cls = some .chair ∧ [j, i].Sublist s.floor.list))) ∧
      (∀ i : SrcSlot, t.srcs[i] = { s.srcs[i] with
        floorState := if i ∈ s.floor.list ∧ i ∉ t.floor.list then
            (if s.srcs[i].floorState = some .opened then some .pending else some .closed)
          else s.srcs[i].floorState }) ∧
      t.floor = { s.floor with
        list := t.floor.list
        chairs := (s.floor.list.filter fun i => decide (i ∉ t.floor.list ∧ s.srcs[i].floorState = some .opened ∧
          s.srcs[i].cls = some .chair)) ++ s.floor.chairs
        delegates := (s.floor.list.filter fun i => decide (i ∉ t.floor.list ∧ s.srcs[i].floorState = some .opened ∧
          s.srcs[i].cls = some .delegate)) ++ s.floor.delegates } ∧
      { t with srcs := s.srcs, floor := s.floor } = s) ∧
    ∃ dropped kept : List Stamp, s.floor.stamps = dropped ++ kept ∧
      kept.length = min s.floor.stamps.length s.params.admitBurst ∧
      swapStamps s = { s with floor := { s.floor with stamps := kept } }

/-! ### Mix blocks (chapters 2, 4 and 6) -/

/-- The start of a mix block (R77, R107, R109, R150, R163, R174, R181): the block number rises by one; a pending swap
takes effect, or else the stamps that are due expire, as SwapEffectExchangesTheBanks and StampExpiryAndHoldExpiry
give; then every non-FREE source receives its block, the frame holdings are emptied, every ramp takes its step (a
crosspoint ramp with blocks left has one more done, one that has none left stays, R107, R110), and
what the Mixer and the outgoing frames use is fixed: the used gains after the step, the groups and bindings, the "no
feed" flag, the speaking tag and the indicator codes of R53. That the Mixer's reading and the frames' fields are fixed
at this point is the model's reading (notes/assumptions/14.md); that a source attached since its pod's frame event is
given that frame's block is its choice (notes/assumptions/19.md). -/
def Obligations.MixBlockStartDeliversAndSteps : Prop :=
  ∀ (s : State) (aux : Vector Block 8), ∃ t u,
    exec (if s.banks.swap = .swapPending then .swapEffect else .stampExpiry)
      { s with floor := { s.floor with block := s.floor.block + 1 } } = .next t ∧
    exec (.mixBlockStart aux) s = .next u ∧ u.floor = t.floor ∧
    (∀ i : SrcSlot, u.srcs[i] = { t.srcs[i] with gain := u.srcs[i].gain, inBlock := u.srcs[i].inBlock } ∧
      u.srcs[i].gain = t.srcs[i].gain.step ∧
      (s.srcs[i].state = .free → u.srcs[i].inBlock = s.srcs[i].inBlock) ∧
      (s.srcs[i].state ≠ .free →
        (∀ l e, s.srcs[i].origin = some (.pod l e) → u.srcs[i].inBlock = some (match s.pods[l].holding with
          | some bs => bs.getD e.val silence
          | none => silence)) ∧
        (∀ p, s.srcs[i].origin = some (.far p) → u.srcs[i].inBlock = some
          (if s.ports[p].state = .running ∧ (s.ports[p].seen = true ∨ s.ports[p].idle < 7) then
            s.ports[p].input.headD silence else silence)) ∧
        ∀ a : AuxPort, s.srcs[i].origin = some (.aux a) → u.srcs[i].inBlock = some aux[a])) ∧
    (∀ f : FeedSlot, u.feeds[f] = { s.feeds[f] with gain := s.feeds[f].gain.step }) ∧
    (∀ (f : FeedSlot) (i : SrcSlot), (t.xpRamps[f][i] = none → u.xpRamps[f][i] = none) ∧
      ∀ r : XpRamp, t.xpRamps[f][i] = some r →
        (r.done < r.duration → u.xpRamps[f][i] = some ⟨r.start, r.target, r.duration, r.done + 1⟩) ∧
        (r.duration ≤ r.done → u.xpRamps[f][i] = some r)) ∧
    (∀ l : PodLink, u.pods[l] = { s.pods[l] with holding := none, head := u.pods[l].head } ∧
      (u.pods[l].head.noFeed = true ↔ ∀ f : FeedSlot, s.feeds[f].state ≠ .free →
        s.feeds[f].dest ≠ some (.podSpk l)) ∧
      u.pods[l].head.tag = (t.floor.list.reverse.find? fun i => t.srcs[i].floorState == some .opened) ∧
      ∀ e : Element,
        ((∀ i : SrcSlot, s.srcs[i].state = .active → s.srcs[i].origin ≠ some (.pod l e)) →
          u.pods[l].head.codes[e] = .dark) ∧
        ∀ i : SrcSlot, s.srcs[i].state = .active → s.srcs[i].origin = some (.pod l e) →
          (∀ j : SrcSlot, j < i → s.srcs[j].state ≠ .active ∨ s.srcs[j].origin ≠ some (.pod l e)) →
          u.pods[l].head.codes[e] =
            (if s.pods[l].privacy then .priv
            else if s.srcs[i].alert then .alert
            else if s.srcs[i].effMute then .muted
            else if t.srcs[i].floorState = some .opened ∨ isHold t.srcs[i].floorState = true ∨
              t.srcs[i].floorState = some .last then .live
            else if t.srcs[i].floorState = some .pending then .waiting
            else .idle)) ∧
    u.outputsDue = none ∧
    (∃ v, u.mix = some v ∧
      (∀ i : SrcSlot, v.srcs[i] = if s.srcs[i].state = .free then none else
        some ⟨s.srcs[i].origin, s.srcs[i].groups, u.srcs[i].gain.current, u.srcs[i].inBlock.getD silence⟩) ∧
      (∀ f : FeedSlot, v.feeds[f] = if s.feeds[f].state = .free then none else
        some ⟨s.feeds[f].dest, s.feeds[f].excluded, u.feeds[f].gain.current⟩) ∧
      ∀ (f : FeedSlot) (i : SrcSlot), v.xp[f][i] = (match u.xpRamps[f][i] with
        | some r => rampUsed r.start r.target r.done r.duration
        | none => t.banks.opBank.xp[f][i])) ∧
    OnlyNotices [.slip] t u ∧
    { u with srcs := t.srcs, feeds := t.feeds, floor := t.floor, xpRamps := t.xpRamps, pods := t.pods,
             ports := t.ports, mix := t.mix, outputsDue := t.outputsDue, notice := t.notice } = t

/-- The far-end ports at the start of a mix block: the clock watch, entering DOWN after 8 block periods without a
pulse (R171), then the delivery from the input buffer, or an underflow and PRIMING (R174); SLIP is set when a port
enters DOWN or underflows (R178). -/
def Obligations.MixBlockStartWatchesAndDrainsThePorts : Prop :=
  ∀ (s : State) (aux : Vector Block 8), ∃ u, exec (.mixBlockStart aux) s = .next u ∧
    (∀ p : FarPort,
      (s.ports[p].state = .down → u.ports[p] = s.ports[p]) ∧
      (s.ports[p].state ≠ .down → s.ports[p].seen = false → 7 ≤ s.ports[p].idle →
        u.ports[p] = { s.ports[p] with
          state := .down
          input := []
          asm := silence
          fill := 0
          output := []
          send := silence
          primed := false
          idle := s.ports[p].idle + 1
          clockLosses := min 65535 (s.ports[p].clockLosses + 1) }) ∧
      ∀ idle : Nat, s.ports[p].state ≠ .down →
        (s.ports[p].seen = true ∧ idle = 0 ∨
          s.ports[p].seen = false ∧ s.ports[p].idle < 7 ∧ idle = s.ports[p].idle + 1) →
        (s.ports[p].state = .priming →
          u.ports[p] = { s.ports[p] with seen := false, idle := idle }) ∧
        (s.ports[p].state = .running → s.ports[p].input ≠ [] →
          u.ports[p] = { s.ports[p] with seen := false, idle := idle, input := s.ports[p].input.tail }) ∧
        (s.ports[p].state = .running → s.ports[p].input = [] →
          u.ports[p] = { s.ports[p] with
            seen := false
            idle := idle
            state := .priming
            inUnder := min 65535 (s.ports[p].inUnder + 1) })) ∧
    (u.notice.set.slip = true ↔ s.notice.set.slip = true ∨ ∃ p : FarPort, s.ports[p].state ≠ .down ∧
      (s.ports[p].seen = false ∧ 7 ≤ s.ports[p].idle ∨ s.ports[p].state = .running ∧ s.ports[p].input = []))

/-- STAMP_EXPIRY and HOLD_EXPIRY as events of their own. Live stamps whose age has reached AdmitWindow stop being live
and stay in the list (R59), and pending service follows from the floor that leaves (R65, R77); with the queue empty
the stamps are all. The one member of the floor whose hold count is 0 becomes LAST when LastMic is on and the queue is
empty; any other is removed from the floor as CLOSED (R67, R69), and pending service follows. The whole floor is what
these leave, as PendingServiceServesUntilItFails gives, the gains follow from it (R76, R103), and every other field
stands. FLOOR is set exactly when a collection has changed (R80), and no other notice. Where the condition does not
stand the event does not come about (the model's reading, notes/assumptions/6.md). -/
def Obligations.StampExpiryAndHoldExpiry : Prop :=
  ∀ s : State,
    ((∀ t ∈ s.floor.stamps, t.live = true → (s.floor.block - t.block).toNat < s.params.admitWindow) →
      exec .stampExpiry s = .next s) ∧
    (∀ w : State, (∃ t ∈ s.floor.stamps, t.live = true ∧ s.params.admitWindow ≤ (s.floor.block - t.block).toNat) →
      w = { s with floor := { s.floor with stamps := s.floor.stamps.map fun t =>
        ⟨t.block, t.live && decide ((s.floor.block - t.block).toNat < s.params.admitWindow)⟩ } } →
      ∃ u, exec .stampExpiry s = .next u ∧ SameFloor (pendingService w) u ∧ u.floor.block = s.floor.block ∧
        (s.floor.chairs = [] → s.floor.delegates = [] → u = w) ∧
        (MembershipLaw s → QueueServed u) ∧ FloorNoticed s u ∧ OnlyNotices [.floor] s u ∧
        (∀ i : SrcSlot, u.srcs[i] = s.srcs[i].withFloorOf u.srcs[i] ∧ GainFollows s u i) ∧
        { u with srcs := s.srcs, floor := s.floor, notice := s.notice } = s) ∧
    ∀ i : SrcSlot,
      (s.srcs[i].state ≠ .active ∨ s.srcs[i].floorClass = false ∨ s.srcs[i].floorState ≠ some (.hold 0) →
        exec (.holdExpiry i) s = .next s) ∧
      (s.srcs[i].state = .active → s.srcs[i].floorClass = true → s.srcs[i].floorState = some (.hold 0) →
        (s.params.lastMic = true → s.floor.list = [i] → s.floor.chairs = [] → s.floor.delegates = [] →
          exec (.holdExpiry i) s
            = .next { s with srcs := s.srcs.set i { s.srcs[i] with floorState := some .last } }) ∧
        (s.params.lastMic = false ∨ s.floor.list ≠ [i] ∨ s.floor.chairs ≠ [] ∨ s.floor.delegates ≠ [] →
          ∀ w : State, w = { s with
              floor := { s.floor with
                list := s.floor.list.erase i
                chairs := s.floor.chairs.erase i
                delegates := s.floor.delegates.erase i }
              srcs := s.srcs.set i { s.srcs[i] with floorState := some .closed } } →
          ∃ u, exec (.holdExpiry i) s = .next u ∧ SameFloor (pendingService w) u ∧
            (MembershipLaw s → u.srcs[i].floorState = some .closed ∧
              i ∉ u.floor.list ∧ i ∉ u.floor.chairs ∧ i ∉ u.floor.delegates ∧ QueueServed u ∧
              u.notice.set.floor = true) ∧
            FloorNoticed s u ∧ OnlyNotices [.floor] s u ∧
            (∀ j : SrcSlot, u.srcs[j] = s.srcs[j].withFloorOf u.srcs[j] ∧ GainFollows s u j) ∧
            { u with srcs := s.srcs, floor := s.floor, notice := s.notice } = s))

/-- An admission attempt of a CLOSED or PENDING source, where the collections keep their law (R57, R58, R62 to R64). A
DELEGATE fails while the admission window is exhausted (R59); on a floor shorter than MaxOpen the source is admitted
with none evicted; on a full floor the LAST member, else the oldest HOLD member, else for a CHAIR the oldest OPEN
DELEGATE is evicted, and without one the attempt fails. The admitted source stands OPEN at the tail with its stamp, an
evicted member CLOSED or, when OPEN, PENDING at the head of the delegate part; a failed attempt from CLOSED joins its
class part at the tail. -/
def Obligations.AdmissionIsDecidedByTheFloor : Prop :=
  ∀ (s : State) (i : SrcSlot), MembershipLaw s → s.srcs[i].state = .active → s.srcs[i].floorClass = true →
    (s.srcs[i].floorState = some .closed ∨ s.srcs[i].floorState = some .pending) →
    (s.srcs[i].cls = some .delegate → s.params.admitBurst ≤ s.floor.stamps.countP (·.live) → tryAdmit i s = none) ∧
    (s.params.maxOpen ≤ s.floor.list.length → (∀ j ∈ s.floor.list, s.srcs[j].floorState = some .opened) →
      (s.srcs[i].cls = some .delegate ∨ ∀ j ∈ s.floor.list, s.srcs[j].cls = some .chair) → tryAdmit i s = none) ∧
    (∀ e : Option SrcSlot,
      (s.srcs[i].cls = some .chair ∨ s.floor.stamps.countP (·.live) < s.params.admitBurst) →
      (e = none ∧ s.floor.list.length < s.params.maxOpen ∨
        s.params.maxOpen ≤ s.floor.list.length ∧ ∃ (j : SrcSlot) (older newer : List SrcSlot),
          e = some j ∧ s.floor.list = older ++ j :: newer ∧
          (s.srcs[j].floorState = some .last ∧ (∀ k ∈ older, s.srcs[k].floorState ≠ some .last) ∨
            isHold s.srcs[j].floorState = true ∧ (∀ k ∈ s.floor.list, s.srcs[k].floorState ≠ some .last) ∧
              (∀ k ∈ older, isHold s.srcs[k].floorState = false) ∨
            s.srcs[i].cls = some .chair ∧ s.srcs[j].cls = some .delegate ∧
              (∀ k ∈ s.floor.list, s.srcs[k].floorState = some .opened) ∧
              ∀ k ∈ older, s.srcs[k].cls = some .chair)) →
      ∃ t, tryAdmit i s = some t ∧
        t.floor.list = (match e with | some j => s.floor.list.erase j | none => s.floor.list) ++ [i] ∧
        t.floor.chairs = s.floor.chairs.erase i ∧
        t.floor.delegates = (match e with
          | some j => if s.srcs[j].floorState = some .opened then [j] else []
          | none => []) ++ s.floor.delegates.erase i ∧
        t.floor.stamps = s.floor.stamps.drop (s.floor.stamps.length + 1 - s.params.admitBurst)
          ++ [⟨s.floor.block, true⟩] ∧
        t.floor.block = s.floor.block ∧
        t.srcs[i] = { s.srcs[i] with floorState := some .opened } ∧
        (∀ j, e = some j → t.srcs[j] = { s.srcs[j] with
          floorState := some (if s.srcs[j].floorState = some .opened then .pending else .closed) }) ∧
        (∀ j, j ≠ i → e ≠ some j → t.srcs[j] = s.srcs[j]) ∧
        { t with srcs := s.srcs, floor := s.floor } = s) ∧
    (s.srcs[i].floorState = some .closed → tryAdmit i s = none → attempt i s = { s with
      srcs := s.srcs.set i { s.srcs[i] with floorState := some .pending }
      floor := { s.floor with
        chairs := if s.srcs[i].cls = some .chair then s.floor.chairs ++ [i] else s.floor.chairs
        delegates := if s.srcs[i].cls = some .chair then s.floor.delegates else s.floor.delegates ++ [i] } })

/-- Pending service (R65), where the collections keep their law: with an empty queue, or a head whose attempt fails,
nothing happens; otherwise the head is admitted as its attempt gives (AdmissionIsDecidedByTheFloor), and service goes
on from there. It always ends, with an empty queue or a failing head. It moves sources between the queue and the floor
list alone, keeps the law of the collections and the block number, and never makes the floor longer than MaxOpen. The
head is the first CHAIR entry, or else the first DELEGATE entry (R58). A removal, which often comes before it, takes a
source out of its collection as CLOSED, the others keeping their order (R57, R69). -/
def Obligations.PendingServiceServesUntilItFails : Prop :=
  (∀ (s : State) (i : SrcSlot), closeSource i s = { s with
    floor := { s.floor with
      list := s.floor.list.erase i
      chairs := s.floor.chairs.erase i
      delegates := s.floor.delegates.erase i }
    srcs := s.srcs.set i { s.srcs[i] with floorState := some .closed } }) ∧
  ∀ s : State,
    s.floor.queueHead = (s.floor.chairs ++ s.floor.delegates).head? ∧
    (s.floor.chairs = [] → s.floor.delegates = [] → pendingService s = s) ∧
    (∀ i, (s.floor.chairs ++ s.floor.delegates).head? = some i → tryAdmit i s = none → pendingService s = s) ∧
    (MembershipLaw s →
      (∀ i t, (s.floor.chairs ++ s.floor.delegates).head? = some i → tryAdmit i s = some t →
        pendingService s = pendingService t) ∧
      QueueServed (pendingService s) ∧
      MembershipLaw (pendingService s) ∧
      (s.floor.list.length ≤ s.params.maxOpen → (pendingService s).floor.list.length ≤ s.params.maxOpen)) ∧
    (pendingService s).floor.block = s.floor.block ∧
    (∀ i : SrcSlot, (pendingService s).srcs[i]
      = { s.srcs[i] with floorState := (pendingService s).srcs[i].floorState }) ∧
    { pendingService s with srcs := s.srcs, floor := s.floor } = s

/-- One measurement of a source that has received its block (R19, R22 to R26, R28 to R30): S moves toward 8L by the
shifted step, N and the creep count follow under the voice state as it stood, the voice state is decided from the new
S and N, and the talk-while-muted count and ALERT follow under the new voice state and the effective mute as it
stands; TALK_MUTED is set when ALERT goes on. Nothing else of the record moves but what the floor owns, and every gain
follows from what the event leaves of the floor (R76, R103, R105). That a measurement which finds a QUIET source QUIET
again keeps its count and ALERT is the model's reading (notes/assumptions/13.md), and so is that a slot which is FREE
or has no block to be measured is not measured (notes/assumptions/6.md and 7.md); that a raised count is no rise still
to be judged, which the model's own mark says, is notes/assumptions/6.md too. -/
def Obligations.MeasurementMovesTheLevelFields : Prop :=
  ∀ (s : State) (i : SrcSlot),
    (s.srcs[i].state = .free ∨ s.srcs[i].inBlock = none → exec (.measurement i) s = .next s) ∧
    ∀ b : Block, s.srcs[i].state ≠ .free → s.srcs[i].inBlock = some b →
      ∃ (t : State) (sNew nNew creepNew twmNew : Nat) (voiceNew : VoiceState) (alertNew roseNew : Bool),
        exec (.measurement i) s = .next t ∧
        t.srcs[i] = { s.srcs[i] with
          s := sNew
          n := nNew
          creep := creepNew
          voice := voiceNew
          twm := twmNew
          twmRose := roseNew
          alert := alertNew
          inBlock := none
          floorState := t.srcs[i].floorState
          gain := t.srcs[i].gain } ∧
        (s.srcs[i].s < 8 * blockLevel b →
          sNew = s.srcs[i].s + max 1 ((8 * blockLevel b - s.srcs[i].s) / 2 ^ s.params.attackShift)) ∧
        (8 * blockLevel b < s.srcs[i].s →
          sNew = s.srcs[i].s - max 1 ((s.srcs[i].s - 8 * blockLevel b) / 2 ^ s.params.releaseShift)) ∧
        (s.srcs[i].s = 8 * blockLevel b → sNew = s.srcs[i].s) ∧
        (sNew < s.srcs[i].n → nNew = sNew ∧ creepNew = 0) ∧
        (s.srcs[i].n = sNew ∨ s.srcs[i].n < sNew ∧ s.srcs[i].voice = .voiced →
          nNew = s.srcs[i].n ∧ creepNew = s.srcs[i].creep) ∧
        (s.srcs[i].n < sNew → s.srcs[i].voice = .quiet →
          (s.params.creepBlocks ≤ s.srcs[i].creep + 1 → nNew = s.srcs[i].n + 1 ∧ creepNew = 0) ∧
          (s.srcs[i].creep + 1 < s.params.creepBlocks → nNew = s.srcs[i].n ∧ creepNew = s.srcs[i].creep + 1)) ∧
        (s.srcs[i].voice = .quiet → (voiceNew = .voiced ↔
          nNew + 8 * s.params.margin ≤ sNew ∧ 8 * s.params.voiceFloor ≤ sNew)) ∧
        (s.srcs[i].voice = .voiced → (voiceNew = .quiet ↔
          sNew < nNew + 8 * (s.params.margin - s.params.hysteresis) ∨ sNew < 8 * s.params.voiceFloor)) ∧
        (s.srcs[i].voice = .voiced → voiceNew = .quiet → twmNew = 0 ∧ alertNew = false) ∧
        (s.srcs[i].state = .active → voiceNew = .voiced → s.srcs[i].effMute = true → s.srcs[i].alert = false →
          twmNew = s.srcs[i].twm + 1 ∧ roseNew = false ∧ (alertNew = true ↔ s.params.twmBlocks ≤ s.srcs[i].twm + 1)) ∧
        (¬ (s.srcs[i].voice = .voiced ∧ voiceNew = .quiet) →
          s.srcs[i].state ≠ .active ∨ voiceNew = .quiet ∨ s.srcs[i].effMute = false ∨ s.srcs[i].alert = true →
          twmNew = s.srcs[i].twm ∧ alertNew = s.srcs[i].alert) ∧
        (s.srcs[i].twmRose = false → roseNew = false) ∧
        (t.notice.set.talkMuted = true ↔ s.notice.set.talkMuted = true ∨ alertNew = true ∧ s.srcs[i].alert = false) ∧
        OnlyNotices [.talkMuted, .floor] s t ∧
        (∀ j : SrcSlot, j ≠ i → t.srcs[j] = s.srcs[j].withFloorOf t.srcs[j]) ∧
        (∀ j : SrcSlot, GainFollows s t j) ∧
        { t with srcs := s.srcs, floor := s.floor, notice := s.notice } = s

/-- What a measurement does at the floor (the table of R60, with R66 and R67), for a state whose collections keep
their law: each floor state under the voice state handed over, with the mute as it stands, and nothing for a source
that is not ACTIVE or not of a floor class. Pending service follows where the floor list has become shorter, or the
source has gone from OPEN to HOLD with the queue not empty (R65, R66, R69), and FLOOR is set exactly when a collection
has changed (R80). In each case the whole floor is given: collections, stamps, block number and the floor state of
every source. What an attempt and pending service do is in AdmissionIsDecidedByTheFloor and
PendingServiceServesUntilItFails. -/
def Obligations.MeasurementActsAtTheFloor : Prop :=
  ∀ (s : State) (i : SrcSlot) (b : Block), MembershipLaw s → s.srcs[i].state ≠ .free → s.srcs[i].inBlock = some b →
    ∃ t, exec (.measurement i) s = .next t ∧ FloorNoticed s t ∧
      (t.floor.list.length < s.floor.list.length → QueueServed t) ∧
      (s.srcs[i].state = .active → s.srcs[i].floorClass = true → s.srcs[i].floorState = some .opened →
        t.srcs[i].voice = .quiet → s.floor.chairs ≠ [] ∨ s.floor.delegates ≠ [] → QueueServed t) ∧
      (s.srcs[i].state = .active → s.srcs[i].floorClass = true → t.srcs[i].voice = .quiet →
        onFloor s.srcs[i].floorState = true → t.srcs[i].floorState = some .closed → QueueServed t) ∧
      (s.srcs[i].state ≠ .active ∨ s.srcs[i].floorClass = false →
        SameFloor s t) ∧
      (s.srcs[i].state = .active → s.srcs[i].floorClass = true →
        (s.srcs[i].floorState = some .closed → t.srcs[i].voice = .quiet ∨ s.srcs[i].effMute = true →
          SameFloor s t) ∧
        (s.srcs[i].floorState = some .closed → t.srcs[i].voice = .voiced → s.srcs[i].effMute = false →
          SameFloor (attempt i s) t ∧
          (t.srcs[i].floorState = some .opened ∧ t.floor.list.getLast? = some i ∧
              t.floor.stamps.getLast? = some ⟨s.floor.block, true⟩ ∨
            t.srcs[i].floorState = some .pending ∧ (i ∈ t.floor.chairs ∨ i ∈ t.floor.delegates) ∧
              t.floor.list = s.floor.list ∧ t.floor.stamps = s.floor.stamps)) ∧
        (s.srcs[i].floorState = some .pending → t.srcs[i].voice = .voiced →
          SameFloor s t) ∧
        (s.srcs[i].floorState = some .pending → t.srcs[i].voice = .quiet →
          SameFloor (closeSource i s) t ∧ t.srcs[i].floorState = some .closed ∧ t.floor.list = s.floor.list ∧
          i ∉ t.floor.chairs ∧ i ∉ t.floor.delegates) ∧
        (s.srcs[i].floorState = some .opened → t.srcs[i].voice = .voiced →
          SameFloor s t) ∧
        (∀ u : State, u = { s with srcs := s.srcs.set i { s.srcs[i] with floorState := some (.hold s.params.holdBlocks) } } →
          s.srcs[i].floorState = some .opened → t.srcs[i].voice = .quiet → 0 < s.params.holdBlocks →
          (s.floor.chairs = [] → s.floor.delegates = [] → SameFloor u t) ∧
          (s.floor.chairs ≠ [] ∨ s.floor.delegates ≠ [] → SameFloor (pendingService u) t) ∧
          (t.srcs[i].floorState = some (.hold s.params.holdBlocks) ∧ i ∈ t.floor.list ∨
            t.srcs[i].floorState = some .closed ∧ i ∉ t.floor.list)) ∧
        ((∃ c, s.srcs[i].floorState = some (.hold c)) ∨ s.srcs[i].floorState = some .last →
          t.srcs[i].voice = .voiced →
          SameFloor { s with srcs := s.srcs.set i { s.srcs[i] with floorState := some .opened } } t) ∧
        (s.srcs[i].floorState = some .last → t.srcs[i].voice = .quiet →
          SameFloor s t) ∧
        (∀ c, 2 ≤ c → s.srcs[i].floorState = some (.hold c) → t.srcs[i].voice = .quiet →
          SameFloor { s with srcs := s.srcs.set i { s.srcs[i] with floorState := some (.hold (c - 1)) } } t) ∧
        ((∃ c, c ≤ 1 ∧ s.srcs[i].floorState = some (.hold c)) ∨
            s.srcs[i].floorState = some .opened ∧ s.params.holdBlocks = 0 → t.srcs[i].voice = .quiet →
          (s.params.lastMic = true ∧ s.floor.list = [i] ∧ s.floor.chairs = [] ∧ s.floor.delegates = [] →
            SameFloor { s with srcs := s.srcs.set i { s.srcs[i] with floorState := some .last } } t) ∧
          (s.params.lastMic = false ∨ s.floor.list ≠ [i] ∨ s.floor.chairs ≠ [] ∨ s.floor.delegates ≠ [] →
            SameFloor (pendingService (closeSource i s)) t ∧
            t.srcs[i].floorState = some .closed ∧ i ∉ t.floor.list)))

/-- NOISE_FLOOR_CREEP and ALERT as events of their own: N rises by one and the creep count returns to 0 when the count
of a QUIET source with S above N has reached CreepBlocks (R24); ALERT goes on and TALK_MUTED is set when a rise has
brought the talk-while-muted count of an ACTIVE, VOICED, muted source to TwmBlocks (R29). A count that stands there
without a rise, as a swap effect can leave it, turns no ALERT on (R36). That a rise still to be judged is a mark of
the model's own, and that the event does not come about where its condition does not stand, is the model's reading
(notes/assumptions/6.md). -/
def Obligations.NoiseFloorCreepAndAlert : Prop :=
  ∀ (s : State) (i : SrcSlot),
    (s.srcs[i].state ≠ .free → s.srcs[i].voice = .quiet → s.srcs[i].n < s.srcs[i].s →
      s.params.creepBlocks ≤ s.srcs[i].creep →
      exec (.noiseFloorCreep i) s
        = .next { s with srcs := s.srcs.set i { s.srcs[i] with n := s.srcs[i].n + 1, creep := 0 } }) ∧
    (s.srcs[i].state = .free ∨ s.srcs[i].voice = .voiced ∨ s.srcs[i].s ≤ s.srcs[i].n ∨
      s.srcs[i].creep < s.params.creepBlocks → exec (.noiseFloorCreep i) s = .next s) ∧
    (s.srcs[i].state = .active → s.srcs[i].voice = .voiced → s.srcs[i].effMute = true → s.srcs[i].alert = false →
      s.srcs[i].twmRose = true → s.params.twmBlocks ≤ s.srcs[i].twm → ∃ t, exec (.alert i) s = .next t ∧
        t.srcs = s.srcs.set i { s.srcs[i] with alert := true, twmRose := false } ∧
        t.notice.set = { s.notice.set with talkMuted := true } ∧ t.notice.mask = s.notice.mask ∧ AttentionLaw t ∧
        { t with srcs := s.srcs, notice := s.notice } = s) ∧
    (s.srcs[i].state ≠ .active ∨ s.srcs[i].voice = .quiet ∨ s.srcs[i].effMute = false ∨ s.srcs[i].alert = true ∨
      s.srcs[i].twmRose = false ∨ s.srcs[i].twm < s.params.twmBlocks → exec (.alert i) s = .next s)

/-- The ramps (R105 to R107): a target equal to the one held changes nothing, one equal to the current gain ends the
ramp, and any other makes a record whose duration the difference decides; after j of its steps the current gain is the
start plus the truncated j-th part of the difference, which never leaves the span nor moves away from the target, and
after the last it is the target, when and only when the end of the block removes the record. -/
def Obligations.RampsStepToTheirTarget : Prop :=
  ∀ (g : GainUnit) (b : Int),
    (b = g.target → g.hand b = g) ∧
    (b ≠ g.target → b = g.current → g.hand b = ⟨g.current, b, none⟩) ∧
    ∀ d : Nat, b ≠ g.target → b ≠ g.current → (b - g.current).natAbs ≤ 216 →
      ((b - g.current).natAbs ≤ 2 ∧ d = 1 ∨ 3 ≤ (b - g.current).natAbs ∧ (b - g.current).natAbs ≤ 12 ∧ d = 4 ∨
        13 ≤ (b - g.current).natAbs ∧ d = 16) →
      g.hand b = ⟨g.current, b, some ⟨g.current, d, 0⟩⟩ ∧
      (∀ j : Nat, j ≤ d →
        (GainUnit.step^[j] (g.hand b)).target = b ∧
        (GainUnit.step^[j] (g.hand b)).ramp = some ⟨g.current, d, j⟩ ∧
        (g.current ≤ b → (GainUnit.step^[j] (g.hand b)).current
          = g.current + (((b - g.current).toNat * j / d : Nat) : Int)) ∧
        (b ≤ g.current → (GainUnit.step^[j] (g.hand b)).current
          = g.current - (((g.current - b).toNat * j / d : Nat) : Int)) ∧
        (j < d → (GainUnit.step^[j] (g.hand b)).finish = GainUnit.step^[j] (g.hand b))) ∧
      (GainUnit.step^[d] (g.hand b)).finish = ⟨b, b, none⟩

/-- The ends of a mix block: RAMP_END removes a record that has used its last step and no other (R107); a RETIRING
source or feed whose fade has used OFF becomes FREE, the feed keeping its clip counter, and no other slot is touched
(R11, R91, R198); in RAMPING the finished crosspoint ramps are removed, and when none is left the swap is SETTLED and
SWAP_DONE is set (R111, R132). Elsewhere the events do not come about (the model's reading, notes/assumptions/6.md). -/
def Obligations.BlockEndsRemoveWhatIsFinished : Prop :=
  ∀ s : State,
    (∀ (i : SrcSlot) (g : GainUnit),
      ((∃ r, s.srcs[i].gain.ramp = some r ∧ r.duration ≤ r.done) ∧ g = { s.srcs[i].gain with ramp := none } ∨
        (∀ r, s.srcs[i].gain.ramp = some r → r.done < r.duration) ∧ g = s.srcs[i].gain) →
      exec (.rampEnd (.source i)) s = .next { s with srcs := s.srcs.set i { s.srcs[i] with gain := g } }) ∧
    (∀ (f : FeedSlot) (g : GainUnit),
      ((∃ r, s.feeds[f].gain.ramp = some r ∧ r.duration ≤ r.done) ∧ g = { s.feeds[f].gain with ramp := none } ∨
        (∀ r, s.feeds[f].gain.ramp = some r → r.done < r.duration) ∧ g = s.feeds[f].gain) →
      exec (.rampEnd (.feed f)) s = .next { s with feeds := s.feeds.set f { s.feeds[f] with gain := g } }) ∧
    (∀ (f : FeedSlot) (i : SrcSlot), ∃ m : Matrix (Option XpRamp),
      exec (.rampEnd (.crosspoint f i)) s = .next { s with xpRamps := m } ∧
      (∀ (g : FeedSlot) (j : SrcSlot), (g, j) ≠ (f, i) → m[g][j] = s.xpRamps[g][j]) ∧
      (∀ r, s.xpRamps[f][i] = some r → r.duration ≤ r.done → m[f][i] = none) ∧
      ((∀ r, s.xpRamps[f][i] = some r → r.done < r.duration) → m[f][i] = s.xpRamps[f][i])) ∧
    (∀ i : SrcSlot,
      (s.srcs[i].state = .retiring → s.srcs[i].gain.current = -192 →
        (∀ r, s.srcs[i].gain.ramp = some r → r.duration ≤ r.done) →
        exec (.sourceRetirementCompletion i) s = .next { s with srcs := s.srcs.set i .free }) ∧
      (s.srcs[i].state ≠ .retiring ∨ s.srcs[i].gain.current ≠ -192 ∨
          (∃ r, s.srcs[i].gain.ramp = some r ∧ r.done < r.duration) →
        exec (.sourceRetirementCompletion i) s = .next s)) ∧
    (∀ f : FeedSlot,
      (s.feeds[f].state = .retiring → s.feeds[f].gain.current = -192 →
        (∀ r, s.feeds[f].gain.ramp = some r → r.duration ≤ r.done) →
        exec (.feedRetirementCompletion f) s = .next { s with
          feeds := s.feeds.set f ⟨.free, none, -192, false, 0, ⟨-192, -192, none⟩, s.feeds[f].clips⟩ }) ∧
      (s.feeds[f].state ≠ .retiring ∨ s.feeds[f].gain.current ≠ -192 ∨
          (∃ r, s.feeds[f].gain.ramp = some r ∧ r.done < r.duration) →
        exec (.feedRetirementCompletion f) s = .next s)) ∧
    (s.banks.swap ≠ .ramping → exec .crosspointRampsEnd s = .next s) ∧
    (s.banks.swap = .ramping → ∃ t, exec .crosspointRampsEnd s = .next t ∧
      (∀ (f : FeedSlot) (i : SrcSlot),
        (∀ r, s.xpRamps[f][i] = some r → r.duration ≤ r.done → t.xpRamps[f][i] = none) ∧
        ((∀ r, s.xpRamps[f][i] = some r → r.done < r.duration) → t.xpRamps[f][i] = s.xpRamps[f][i])) ∧
      ((∀ (f : FeedSlot) (i : SrcSlot) (r : XpRamp), s.xpRamps[f][i] = some r → r.duration ≤ r.done) →
        t.banks = { s.banks with swap := .settled } ∧
        t.notice.set = { s.notice.set with swapDone := true } ∧ t.notice.mask = s.notice.mask ∧ AttentionLaw t) ∧
      ((∃ (f : FeedSlot) (i : SrcSlot) (r : XpRamp), s.xpRamps[f][i] = some r ∧ r.done < r.duration) →
        t.banks = s.banks ∧ t.notice = s.notice) ∧
      { t with xpRamps := s.xpRamps, banks := s.banks, notice := s.notice } = s)

/-- FEEDS_FORMED (R97, R118, R163, R164, R176, R181): every destination receives the block formed for it or silence,
once per mix block: pod frames of the header fixed at the block's start and 288 bytes of audio, far-end blocks under
the table of R176, aux blocks; clip counters rise by the clipped samples and CLIP is set when there is one, SLIP when
an output buffer overflows. After an ENGINE.RESET in the same block no clip is counted, and the destinations are given
the blocks that EngineResetReturnsThePart leaves due (R85, R163, R176, R181; that this is all is the model's reading,
notes/assumptions/4.md). With no mix block in progress, or its feeds formed already, the event does not come
about (the model's reading, notes/assumptions/6.md). What the blocks hold is in EveryFeedSampleIsTheExactMix, the
bytes of a frame in FramesAndAnswersAreLaidOut. -/
def Obligations.FeedsFormedDeliversEveryBlock : Prop :=
  ∀ s : State,
    (s.mix = none → s.outputsDue = none → exec .feedsFormed s = .next s) ∧
    (∀ o, s.mix = none → s.outputsDue = some o → ∃ t, exec .feedsFormed s = .next t ∧ t.outputsDue = none ∧
      (∀ l : PodLink, t.pods[l] = { s.pods[l] with sent := some (s.pods[l].head.bytes ++ blockBytes o.pods[l]) }) ∧
      (∀ a : AuxPort, t.auxOut[a] = o.aux[a]) ∧
      (∀ p : FarPort,
        (s.ports[p].state = .down → t.ports[p] = s.ports[p]) ∧
        (s.ports[p].state ≠ .down → s.ports[p].output.length < 4 → t.ports[p] = { s.ports[p] with
          output := s.ports[p].output ++ [o.far[p]]
          primed := s.ports[p].primed || decide (1 ≤ s.ports[p].output.length) }) ∧
        (s.ports[p].state ≠ .down → 4 ≤ s.ports[p].output.length → t.ports[p] = { s.ports[p] with
          output := s.ports[p].output.tail ++ [o.far[p]]
          outOver := min 65535 (s.ports[p].outOver + 1) })) ∧
      (t.notice.set.slip = true ↔ s.notice.set.slip = true ∨
        ∃ p : FarPort, s.ports[p].state ≠ .down ∧ 4 ≤ s.ports[p].output.length) ∧
      OnlyNotices [.slip] s t ∧
      { t with pods := s.pods, ports := s.ports, auxOut := s.auxOut, outputsDue := s.outputsDue, notice := s.notice } = s) ∧
    ∀ v, s.mix = some v → ∃ t, exec .feedsFormed s = .next t ∧ t.mix = none ∧ t.outputsDue = none ∧
      (∀ f : FeedSlot, t.feeds[f] = { s.feeds[f] with clips := min 65535 (s.feeds[f].clips + clipsOf v f) }) ∧
      (t.notice.set.clip = true ↔ s.notice.set.clip = true ∨ ∃ f, 0 < clipsOf v f) ∧
      (∀ l : PodLink, t.pods[l] = { s.pods[l] with
        sent := some (s.pods[l].head.bytes ++ blockBytes (blockFor v (.podSpk l))) }) ∧
      (∀ a : AuxPort, t.auxOut[a] = blockFor v (.auxOut a)) ∧
      (∀ p : FarPort,
        (s.ports[p].state = .down → t.ports[p] = s.ports[p]) ∧
        (s.ports[p].state ≠ .down → s.ports[p].output.length < 4 → t.ports[p] = { s.ports[p] with
          output := s.ports[p].output ++ [blockFor v (.farSend p)]
          primed := s.ports[p].primed || decide (1 ≤ s.ports[p].output.length) }) ∧
        (s.ports[p].state ≠ .down → 4 ≤ s.ports[p].output.length → t.ports[p] = { s.ports[p] with
          output := s.ports[p].output.tail ++ [blockFor v (.farSend p)]
          outOver := min 65535 (s.ports[p].outOver + 1) })) ∧
      (t.notice.set.slip = true ↔ s.notice.set.slip = true ∨
        ∃ p : FarPort, s.ports[p].state ≠ .down ∧ 4 ≤ s.ports[p].output.length) ∧
      (∀ k, k ≠ .clip → k ≠ .slip → t.notice.set.has k = s.notice.set.has k) ∧ t.notice.mask = s.notice.mask ∧
      { t with feeds := s.feeds, pods := s.pods, ports := s.ports, auxOut := s.auxOut, mix := s.mix,
               outputsDue := s.outputsDue, notice := s.notice } = s

/-- Every sample a destination receives is the exact mix (R112, R115 to R117): the sum over all eighty slots of sample
times coefficient of the contribution index, scaled with halves toward plus infinity, clamped to 24 bits; a sample the
clamp changes is a clip (R118); and a destination no feed held receives silence (R97). The contribution index is OFF
for an unbound source, at the same site, in an excluded group or for an OFF term, and otherwise the clamped sum of the
three terms (R96, R112). -/
def Obligations.EveryFeedSampleIsTheExactMix : Prop :=
  ∀ v : MixView,
    (∀ d : Destination, (∀ (f : FeedSlot) (x : FeedView), v.feeds[f] = some x → x.dest ≠ some d) →
      ∀ n : Fin 96, (blockFor v d)[n] = 0) ∧
    (∀ (f : FeedSlot) (i : SrcSlot) (x : FeedView),
      (v.srcs[i] = none → contribution v.xp[f][i] v.srcs[i] x = -192) ∧
      ∀ y, v.srcs[i] = some y →
        ((∃ o d, y.origin = some o ∧ x.dest = some d ∧
            ((∃ l e, o = .pod l e ∧ d = .podSpk l) ∨ (∃ p, o = .far p ∧ d = .farSend p) ∨
              ∃ a, o = .aux a ∧ d = .auxOut a)) ∨
          (∃ g, y.groups.getLsbD g = true ∧ x.excluded.getLsbD g = true) ∨
          v.xp[f][i] = -192 ∨ y.gain = -192 ∨ x.gain = -192 →
          contribution v.xp[f][i] v.srcs[i] x = -192) ∧
        ((∀ l e, y.origin = some (.pod l e) → x.dest ≠ some (.podSpk l)) →
          (∀ p, y.origin = some (.far p) → x.dest ≠ some (.farSend p)) →
          (∀ a, y.origin = some (.aux a) → x.dest ≠ some (.auxOut a)) →
          y.groups &&& x.excluded = 0 → v.xp[f][i] ≠ -192 → y.gain ≠ -192 → x.gain ≠ -192 →
          contribution v.xp[f][i] v.srcs[i] x = max (-192) (min 24 (v.xp[f][i] + y.gain + x.gain)))) ∧
    ∀ (f : FeedSlot) (x : FeedView), v.feeds[f] = some x → ∃ y : Fin 96 → Int,
      (∀ n : Fin 96,
        8192 * y n ≤ (∑ i : SrcSlot, (viewBlock v.srcs[i])[n].toInt *
            (coefficient (contribution v.xp[f][i] v.srcs[i] x) : Int)) + 4096 ∧
        (∑ i : SrcSlot, (viewBlock v.srcs[i])[n].toInt *
            (coefficient (contribution v.xp[f][i] v.srcs[i] x) : Int)) + 4096 < 8192 * (y n + 1)) ∧
      clipsOf v f = (Finset.univ.filter fun n => y n < -8388608 ∨ 8388607 < y n).card ∧
      ∀ d, x.dest = some d → (∀ (g : FeedSlot) (z : FeedView), v.feeds[g] = some z → z.dest = some d → g = f) →
        ∀ n : Fin 96, ((blockFor v d)[n]).toInt = max (-8388608) (min 8388607 (y n))

/-- Mix-minus (R96): what a listener receives from a formed block does not depend on what a source at the listener's
own site sends, nor on its gain or its groups; and a feed does not depend on a source of its excluded groups. -/
def Obligations.MixMinusLeavesOutTheListenersOwnSources : Prop :=
  ∀ (s : State) (v : MixView) (i : SrcSlot) (x x' : SrcView) (t t' : State),
    s.mix = some v → v.srcs[i] = some x → x'.origin = x.origin →
    exec .feedsFormed s = .next t →
    exec .feedsFormed { s with mix := some { v with srcs := v.srcs.set i (some x') } } = .next t' →
    (∀ l e, x.origin = some (.pod l e) → t.pods[l] = t'.pods[l]) ∧
    (∀ p, x.origin = some (.far p) → t.ports[p] = t'.ports[p]) ∧
    (∀ a : AuxPort, x.origin = some (.aux a) → t.auxOut[a] = t'.auxOut[a]) ∧
    (x'.groups = x.groups → ∀ (f : FeedSlot) (y : FeedView) (d : Destination), feedAt v d = some f →
      v.feeds[f] = some y → x.groups &&& y.excluded ≠ 0 →
      (∀ l, d = .podSpk l → t.pods[l] = t'.pods[l]) ∧ (∀ p, d = .farSend p → t.ports[p] = t'.ports[p]) ∧
      ∀ a : AuxPort, d = .auxOut a → t.auxOut[a] = t'.auxOut[a])

/-- The coefficient of every contribution index is 8192 x 10^(E/40) rounded to the nearest integer, a half up, and 0
at OFF; it never exceeds 32613 (R114). -/
def Obligations.CoefficientIsTheRoundedPower : Prop :=
  coefficient (-192) = 0 ∧
  ∀ e : Int, -191 ≤ e → e ≤ 24 →
    (coefficient e : Int) = ⌊(8192 : ℝ) * (10 : ℝ) ^ ((e : ℝ) / 40) + 1 / 2⌋ ∧ coefficient e ≤ 32613

/-- The block level is 200 + round(20 log10(ms / 8388608^2)) with halves away from zero, clamped to 0 to 200, and 0
for a block of zeros (R20). -/
def Obligations.BlockLevelIsTheRoundedLogarithm : Prop :=
  ∀ (b : Block) (ms : ℝ), ms = (∑ n : Fin 96, ((b[n].toInt : ℝ)) ^ 2) / 96 →
    (ms = 0 → blockLevel b = 0) ∧
    (ms ≠ 0 → ∀ v : ℝ, v = 20 * Real.logb 10 (ms / 8388608 ^ 2) →
      (blockLevel b : Int) = max 0 (min 200 (200 + (if 0 ≤ v then ⌊v + 1 / 2⌋ else ⌈v - 1 / 2⌉))))

/-! ### Pod links and far-end ports (chapters 8 and 9) -/

/-- The framing of a pod link outside SYNC, and POD.SETUP (R151 to R153, R155, R160): in HUNT every byte position of
the stream is tested in turn, from the one at which the search began, and the first whose four bytes form a good
header leads to PRESYNC with that byte position; while none does, nothing changes; a good header in PRESYNC raises the
run, and when the run reaches the sync depth the link is in SYNC with both runs 0, POD_LINK is set and the frame is
taken as a good frame; a bad one leads back to HUNT, searching one byte after its place; POD.SETUP sets a depth of 2
or 3 and refuses any other. In another framing state the event does not come about (the model's reading,
notes/assumptions/16.md). -/
def Obligations.FramingFindsItsPod : Prop :=
  ∀ (s : State) (l : PodLink) (h : PodHeader) (audio : Vector Byte 1152),
    (h.good = true ↔ h.check = crc8 [h.frameType, h.elements, h.buttons] ∧ h.frameType = 0x3A ∧
      1 ≤ h.elements.toNat ∧ h.elements.toNat ≤ 4) ∧
    (∀ (searched stream : List Byte) (k : Nat) (m : PodHeader) (place : FramePlace), s.pods[l].framing = .hunt →
      stream = searched ++ [h.frameType, h.elements, h.buttons, h.check] →
      stream[k]? = some m.frameType → stream[k + 1]? = some m.elements → stream[k + 2]? = some m.buttons →
      stream[k + 3]? = some m.check → m.good = true →
      (∀ j b0 b1 b2 b3, j < k → stream[j]? = some b0 → stream[j + 1]? = some b1 → stream[j + 2]? = some b2 →
        stream[j + 3]? = some b3 → (PodHeader.mk b0 b1 b2 b3).good = false) →
      place.val = (s.pods[l].place.val + k) % 1200 →
      exec (.huntMatch l searched h) s = .next { s with pods := s.pods.set l { s.pods[l] with
        framing := .presync, goodRun := 1, elements := m.elements.toNat, place := place } }) ∧
    (∀ searched stream : List Byte, stream = searched ++ [h.frameType, h.elements, h.buttons, h.check] →
      (s.pods[l].framing ≠ .hunt ∨ ∀ j b0 b1 b2 b3, stream[j]? = some b0 → stream[j + 1]? = some b1 →
        stream[j + 2]? = some b2 → stream[j + 3]? = some b3 → (PodHeader.mk b0 b1 b2 b3).good = false) →
      exec (.huntMatch l searched h) s = .next s) ∧
    (s.pods[l].framing ≠ .presync → exec (.presyncJudgement l h audio) s = .next s) ∧
    (s.pods[l].framing = .presync →
      (h.good = false → ∃ next : FramePlace, next.val = (s.pods[l].place.val + 1) % 1200 ∧
        exec (.presyncJudgement l h audio) s = .next { s with pods := s.pods.set l { s.pods[l] with
          framing := .hunt, goodRun := 0, place := next } }) ∧
      (h.good = true → s.pods[l].goodRun + 1 < s.pods[l].depth →
        exec (.presyncJudgement l h audio) s = .next { s with pods := s.pods.set l { s.pods[l] with
          goodRun := s.pods[l].goodRun + 1, elements := h.elements.toNat } }) ∧
      (h.good = true → s.pods[l].depth ≤ s.pods[l].goodRun + 1 → ∃ u,
        u.pods = s.pods.set l { s.pods[l] with
          framing := .sync, goodRun := 0, badRun := 0, elements := h.elements.toNat } ∧
        u.notice.set = { s.notice.set with podLink := true } ∧ u.notice.mask = s.notice.mask ∧ AttentionLaw u ∧
        { u with pods := s.pods, notice := s.notice } = s ∧
        exec (.presyncJudgement l h audio) s = exec (.goodFrameInSync l h audio) u)) ∧
    (hostOwnsLine s →
      (∀ depth : Byte, depth = 2 ∨ depth = 3 → exec (.podSetup (byteOf l) depth) s
        = .next { written s with pods := s.pods.set l { s.pods[l] with depth := depth.toNat } }) ∧
      ∀ link depth : Byte, 16 ≤ link.toNat ∨ depth.toNat < 2 ∨ 3 < depth.toNat →
        exec (.podSetup link depth) s = .next (refusedWith .badParam s))

/-- A good frame in SYNC (R42, R46, R48, R49, R154, R156, R157): the record takes the frame's count and blocks, the
counter rises and the bad run is 0; a MUTE press toggles the user mutes of the pod's ACTIVE sources as a group, a
CHAIR press on a pod with an ACTIVE chair toggles the room mute, the held privacy takes the frame's level for every
source of the pod; BUTTON and PRIVACY are set accordingly; the effective mutes agree with their layers afterwards; the
changes of effective mute are handed on as MutesHandedOn gives (R30, R39, R65, R69 to R71), one pending service behind
all of them being the model's reading (notes/assumptions/11.md), and every gain following from what the event leaves
(R76, R103); FLOOR is set exactly when a collection has changed (R80), and no other notice; and a frame without press
or change of privacy does nothing beyond the record. The holding takes as many element blocks as the header counts,
each sample from three bytes, most significant first (R148, R207). Outside SYNC, or with a bad header, the event does
not come about (the model's reading, notes/assumptions/16.md). -/
def Obligations.GoodFrameIsTakenWhole : Prop :=
  ∀ (s : State) (l : PodLink) (h : PodHeader) (audio : Vector Byte 1152),
    (s.pods[l].framing ≠ .sync ∨ h.good = false → exec (.goodFrameInSync l h audio) s = .next s) ∧
    ∀ pod : Pod, s.pods[l].framing = .sync → h.good = true →
      pod = { s.pods[l] with
        badRun := 0
        goodFrames := min 65535 (s.pods[l].goodFrames + 1)
        elements := h.elements.toNat
        holding := some (framedBlocks h audio)
        privacy := h.buttons.getLsbD 2 } →
      (framedBlocks h audio).length = h.elements.toNat ∧
      (∀ (e : Element) (b : Block), (framedBlocks h audio)[e.val]? = some b → ∀ n : Fin 96,
        b[n] = audio[288 * e.val + 3 * n.val] ++ audio[288 * e.val + 3 * n.val + 1]
          ++ audio[288 * e.val + 3 * n.val + 2]) ∧
      (h.buttons.getLsbD 0 = false → h.buttons.getLsbD 1 = false → h.buttons.getLsbD 2 = s.pods[l].privacy →
        exec (.goodFrameInSync l h audio) s = .next { s with pods := s.pods.set l pod }) ∧
      ∃ t, exec (.goodFrameInSync l h audio) s = .next t ∧ t.pods = s.pods.set l pod ∧
        (∀ mutes : Bool, (mutes = true ↔ h.buttons.getLsbD 0 = true ∧
            ∃ (i : SrcSlot) (e : Element), s.srcs[i].state = .active ∧ s.srcs[i].origin = some (.pod l e)) →
          ∀ chairs : Bool, (chairs = true ↔ h.buttons.getLsbD 1 = true ∧
            ∃ (i : SrcSlot) (e : Element), s.srcs[i].state = .active ∧ s.srcs[i].origin = some (.pod l e) ∧
              s.srcs[i].cls = some .chair) →
          t.mute = ⟨s.mute.groups, s.mute.room ^^ chairs⟩ ∧
          (t.notice.set.button = true ↔ s.notice.set.button = true ∨ mutes = true ∨ chairs = true) ∧
          (t.notice.set.privacy = true ↔ s.notice.set.privacy = true ∨ pod.privacy ≠ s.pods[l].privacy) ∧
          (∀ (i : SrcSlot) (e : Element), mutes = true → s.srcs[i].state = .active →
            s.srcs[i].origin = some (.pod l e) →
            (t.srcs[i].userMute = true ↔ ∃ (j : SrcSlot) (e' : Element), s.srcs[j].state = .active ∧
              s.srcs[j].origin = some (.pod l e') ∧ s.srcs[j].userMute = false)) ∧
          (∀ i : SrcSlot, mutes = false ∨ s.srcs[i].state ≠ .active ∨
              (∀ e, s.srcs[i].origin ≠ some (.pod l e)) → t.srcs[i].userMute = s.srcs[i].userMute)) ∧
        (∀ i : SrcSlot, (∀ e, s.srcs[i].origin ≠ some (.pod l e)) → t.srcs[i].privacy = s.srcs[i].privacy) ∧
        (MuteLaw s → MuteLaw t) ∧
        MutesHandedOn s t ∧ FloorNoticed s t ∧ OnlyNotices [.button, .privacy, .floor] s t ∧
        (∀ i : SrcSlot, t.srcs[i] = { s.srcs[i] with
          userMute := t.srcs[i].userMute
          privacy := t.srcs[i].privacy
          effMute := t.srcs[i].effMute
          twm := t.srcs[i].twm
          alert := t.srcs[i].alert
          floorState := t.srcs[i].floorState
          gain := t.srcs[i].gain }) ∧
        { t with srcs := s.srcs, mute := s.mute, floor := s.floor, pods := s.pods, notice := s.notice,
                 freeCount := s.freeCount } = s

/-- A bad frame in SYNC (R158) empties the holding, counts a header error and raises the bad run, and nothing more
before the fourth in a row. The fourth loses SYNC (R34, R74, R159): HUNT with both runs 0, one more sync loss,
POD_LINK, the Level Monitor fields of the pod's non-FREE sources reset, and its ACTIVE sources off the floor as
CLOSED, the others keeping their order (R57), with pending service where a member was among them (R65), which gives
the whole floor and, by R76 and R103, every gain; FLOOR is set exactly when a collection has changed (R80), and no
notice but the two; held privacy, element count and sync depth are kept. Outside SYNC, or with a good header, the
event does not come about (the model's reading, notes/assumptions/16.md). -/
def Obligations.BadFramesLoseTheLink : Prop :=
  ∀ (s : State) (l : PodLink) (h : PodHeader),
    (s.pods[l].framing ≠ .sync ∨ h.good = true → exec (.badFrameInSync l h) s = .next s) ∧
    (s.pods[l].framing = .sync → h.good = false → s.pods[l].badRun < 3 → exec (.badFrameInSync l h) s
      = .next { s with pods := s.pods.set l { s.pods[l] with
          holding := none
          headerErrors := min 65535 (s.pods[l].headerErrors + 1)
          badRun := s.pods[l].badRun + 1 } }) ∧
    (s.pods[l].framing = .sync → h.good = false → 3 ≤ s.pods[l].badRun → ∃ (t : State) (next : FramePlace),
      exec (.badFrameInSync l h) s = .next t ∧ next.val = (s.pods[l].place.val + 1) % 1200 ∧
      t.pods = s.pods.set l { s.pods[l] with
        framing := .hunt
        goodRun := 0
        badRun := 0
        holding := none
        place := next
        headerErrors := min 65535 (s.pods[l].headerErrors + 1)
        syncLosses := min 65535 (s.pods[l].syncLosses + 1) } ∧
      t.notice.set.podLink = true ∧ FloorNoticed s t ∧ OnlyNotices [.podLink, .floor] s t ∧
      (MembershipLaw s → (∃ i ∈ s.floor.list, ∃ e, s.srcs[i].origin = some (.pod l e)) → QueueServed t) ∧
      (∀ (w : State) (away : SrcSlot → Bool), MembershipLaw s →
        (∀ i : SrcSlot, away i = true ↔ ∃ e, s.srcs[i].origin = some (.pod l e)) →
        w = { s with
          floor := { s.floor with
            list := s.floor.list.filter fun i => !away i
            chairs := s.floor.chairs.filter fun i => !away i
            delegates := s.floor.delegates.filter fun i => !away i }
          srcs := Vector.ofFn fun i =>
            if away i ∧ (i ∈ s.floor.list ∨ i ∈ s.floor.chairs ∨ i ∈ s.floor.delegates) then
              { s.srcs[i] with floorState := some .closed }
            else s.srcs[i] } →
        ((∃ i ∈ s.floor.list, away i = true) → SameFloor (pendingService w) t) ∧
        ((∀ i ∈ s.floor.list, away i = false) → SameFloor w t)) ∧
      (∀ i : SrcSlot, GainFollows s t i ∧
        ((∃ e, s.srcs[i].origin = some (.pod l e)) → s.srcs[i].state ≠ .free →
          t.srcs[i] = { s.srcs[i] with
            s := 0, n := 0, creep := 0, voice := .quiet, twm := 0, alert := false
            floorState := t.srcs[i].floorState, gain := t.srcs[i].gain }) ∧
        ((∀ e, s.srcs[i].origin ≠ some (.pod l e)) → t.srcs[i] = s.srcs[i].withFloorOf t.srcs[i]) ∧
        (MembershipLaw s → (∃ e, s.srcs[i].origin = some (.pod l e)) →
          s.srcs[i].state = .active → s.srcs[i].floorClass = true →
          t.srcs[i].floorState = some .closed ∧ i ∉ t.floor.list ∧ i ∉ t.floor.chairs ∧ i ∉ t.floor.delegates)) ∧
      { t with srcs := s.srcs, floor := s.floor, pods := s.pods, notice := s.notice } = s)

/-- A codec pulse (R170, R172, R173, R177): in DOWN it is the return of the clock; otherwise the sample joins the
assembly and one sample of the send block goes out, and the 96th makes the input arrival and the codec take of the two
tables, SLIP being set by an overflow or an underflow (R178). CLOCK_LOSS as an event of its own takes a port whose
idle count has reached 8 into DOWN (R171); elsewhere it does not come about (the model's reading,
notes/assumptions/6.md). -/
def Obligations.CodecPulseAndClockLoss : Prop :=
  ∀ (s : State) (p : FarPort) (x : Sample), ∃ (t u : State),
    exec (.codecPulse p x) s = .next t ∧ exec (.clockLoss p) s = .next u ∧
    (s.ports[p].state = .down → t = { s with ports := s.ports.set p { s.ports[p] with
      state := .priming, input := [], output := [], asm := silence.set 0 x, fill := 1, primed := false,
      send := silence, idle := 0, seen := true, codecOut := 0 } }) ∧
    (∀ h : s.ports[p].fill.val + 1 < 96, s.ports[p].state ≠ .down →
      t = { s with ports := s.ports.set p { s.ports[p] with
        asm := s.ports[p].asm.set s.ports[p].fill x, fill := ⟨s.ports[p].fill.val + 1, h⟩, seen := true,
        codecOut := s.ports[p].send[s.ports[p].fill] } }) ∧
    (s.ports[p].fill.val = 95 → s.ports[p].state ≠ .down →
      t.ports[p] = { s.ports[p] with
        asm := silence, fill := 0, seen := true, codecOut := s.ports[p].send[s.ports[p].fill]
        state := t.ports[p].state, input := t.ports[p].input, inOver := t.ports[p].inOver
        send := t.ports[p].send, output := t.ports[p].output, primed := t.ports[p].primed
        outUnder := t.ports[p].outUnder } ∧
      (∀ b, b = s.ports[p].asm.set s.ports[p].fill x →
        (s.ports[p].state = .priming → t.ports[p].input = s.ports[p].input ++ [b] ∧
          t.ports[p].inOver = s.ports[p].inOver ∧
          t.ports[p].state = (if s.ports[p].input = [] then .priming else .running)) ∧
        (s.ports[p].state = .running → s.ports[p].input.length < 4 → t.ports[p].input = s.ports[p].input ++ [b] ∧
          t.ports[p].inOver = s.ports[p].inOver ∧ t.ports[p].state = .running) ∧
        (s.ports[p].state = .running → 4 ≤ s.ports[p].input.length →
          t.ports[p].input = s.ports[p].input.tail ++ [b] ∧
          t.ports[p].inOver = min 65535 (s.ports[p].inOver + 1) ∧ t.ports[p].state = .running)) ∧
      (s.ports[p].primed = false → t.ports[p].send = silence ∧ t.ports[p].output = s.ports[p].output ∧
        t.ports[p].primed = false ∧ t.ports[p].outUnder = s.ports[p].outUnder) ∧
      (s.ports[p].primed = true → s.ports[p].output ≠ [] →
        t.ports[p].send :: t.ports[p].output = s.ports[p].output ∧ t.ports[p].primed = true ∧
        t.ports[p].outUnder = s.ports[p].outUnder) ∧
      (s.ports[p].primed = true → s.ports[p].output = [] → t.ports[p].send = silence ∧ t.ports[p].output = [] ∧
        t.ports[p].primed = false ∧ t.ports[p].outUnder = min 65535 (s.ports[p].outUnder + 1)) ∧
      (t.notice.set.slip = true ↔ s.notice.set.slip = true ∨
        s.ports[p].state = .running ∧ 4 ≤ s.ports[p].input.length ∨
        s.ports[p].primed = true ∧ s.ports[p].output = []) ∧
      (∀ q : FarPort, q ≠ p → t.ports[q] = s.ports[q]) ∧
      (∀ k, k ≠ .slip → t.notice.set.has k = s.notice.set.has k) ∧ t.notice.mask = s.notice.mask ∧
      { t with ports := s.ports, notice := s.notice } = s) ∧
    (s.ports[p].state = .down ∨ s.ports[p].idle < 8 → u = s) ∧
    (s.ports[p].state ≠ .down → 8 ≤ s.ports[p].idle →
      u.ports = s.ports.set p { s.ports[p] with
        state := .down, input := [], asm := silence, fill := 0, output := [], send := silence, primed := false
        clockLosses := min 65535 (s.ports[p].clockLosses + 1) } ∧
      u.notice.set = { s.notice.set with slip := true } ∧ u.notice.mask = s.notice.mask ∧ AttentionLaw u ∧
      { u with ports := s.ports, notice := s.notice } = s)

/-! ### ENGINE.RESET -/

/-- ENGINE.RESET (R197, R198): every slot FREE, no ramp, the floor empty and block 0, no mute, both banks at their
defaults with A operating and SETTLED, the default window and cursor, every counter 0, pod framing and held privacy
kept with the holdings empty, running ports PRIMING with both buffers empty, and the notice set empty with every kind
enabled. With the answer-wanted flag clear the error set is emptied at once; with it set the kinds standing are kept
for the answer. The aux outputs stand (R181). The blocks of a mix block in progress, from the records as it began
(R85), are due; a FEEDS_FORMED taken after the reset counts no clip and gives them to the pods, in frames of the
header fixed at the block's start, to the aux outputs and to each far-end port that is not DOWN: the model's reading
of R18, R85, R97, R113, R120, R163, R176, R180, R181 and R198 together (notes/assumptions/4.md). The first mix block
after the reset is block 1, forms no feed and sends "no feed", DARK and no tag. -/
def Obligations.EngineResetReturnsThePart : Prop :=
  ∀ s : State, hostOwnsLine s → ∃ t, exec .engineReset s = .next t ∧
    t.ctl.rx = .idle ∧ (∀ k, t.ctl.errors.has k = false) ∧
    runAll (packetOf true .engineReset) s = .next { t with ctl :=
      { rx := .owed 0x5F { Reply.plain with engineReset := true }, errors := (written s).ctl.errors } } ∧
    (∀ i : SrcSlot, t.srcs[i] = .free) ∧ (∀ f : FeedSlot, t.feeds[f] = .free 0) ∧
    (∀ (f : FeedSlot) (i : SrcSlot), t.xpRamps[f][i] = none) ∧
    t.floor = ⟨[], [], [], [], 0⟩ ∧ t.mute = ⟨0, false⟩ ∧
    t.banks.operating = .a ∧ t.banks.swap = .settled ∧ t.banks.cursor = 0 ∧
    t.banks.window = ⟨0, 31, 0, 79, .feedMajor, false, false⟩ ∧
    (∀ n, (t.banks.bank n).params = .default ∧
      ∀ (f : FeedSlot) (i : SrcSlot), (t.banks.bank n).xp[f][i] = -192) ∧
    (∀ l : PodLink, t.pods[l] = { s.pods[l] with
      holding := none, goodFrames := 0, headerErrors := 0, syncLosses := 0 }) ∧
    (∀ p : FarPort, t.ports[p] = { s.ports[p] with
      state := (if s.ports[p].state = .down then .down else .priming)
      input := [], output := [], primed := false
      inOver := 0, inUnder := 0, outOver := 0, outUnder := 0, clockLosses := 0 }) ∧
    (∀ k, t.notice.set.has k = false) ∧ (∀ k, t.notice.mask.has k = true) ∧ t.notice.attention = false ∧
    t.auxOut = s.auxOut ∧ t.mix = none ∧ (s.mix = none → t.outputsDue = s.outputsDue) ∧
    (∀ v, s.mix = some v → ∃ o, t.outputsDue = some o ∧ (∀ l : PodLink, o.pods[l] = blockFor v (.podSpk l)) ∧
      (∀ p : FarPort, o.far[p] = blockFor v (.farSend p)) ∧ ∀ a : AuxPort, o.aux[a] = blockFor v (.auxOut a)) ∧
    (t.outputsDue = none → exec .feedsFormed t = .next t) ∧
    (∀ o, t.outputsDue = some o → ∃ u, exec .feedsFormed t = .next u ∧
      (∀ l : PodLink, u.pods[l] = { t.pods[l] with sent := some (s.pods[l].head.bytes ++ blockBytes o.pods[l]) }) ∧
      (∀ a : AuxPort, u.auxOut[a] = o.aux[a]) ∧
      (∀ p : FarPort, u.ports[p] = { t.ports[p] with
        output := if s.ports[p].state ≠ .down then [o.far[p]] else [] }) ∧
      u.outputsDue = none ∧
      { u with pods := t.pods, ports := t.ports, auxOut := t.auxOut, outputsDue := t.outputsDue } = t) ∧
    (s.mix ≠ none → ∃ v u, exec .feedsFormed s = .next v ∧ exec .feedsFormed t = .next u ∧
      u.auxOut = v.auxOut ∧ ∀ l : PodLink, u.pods[l].sent = v.pods[l].sent) ∧
    ∀ aux, ∃ u, exec (.mixBlockStart aux) t = .next u ∧ u.floor.block = 1 ∧
      (∀ v, u.mix = some v → ∀ f : FeedSlot, v.feeds[f] = none) ∧
      ∀ l : PodLink, u.pods[l].head.noFeed = true ∧ u.pods[l].head.tag = none ∧
        ∀ e : Element, u.pods[l].head.codes[e] = .dark

/-! ### Laws that every step keeps -/

/-- Every step keeps four laws of every state: the attention line is asserted exactly while the notice set holds an
enabled kind (R193); 0 ≤ N ≤ S ≤ 1600 for every source (R23); no two non-FREE records hold the same origin or the same
destination (R4, R86); and every pod link record, far-end port record and clip counter stays in the ranges of R147,
R169 and R196. -/
def Obligations.AttentionLevelBindingAndRecordLawsAreKept : Prop :=
  Kept AttentionLaw ∧ Kept LevelLaw ∧ Kept BindingLaw ∧ Kept RecordLaw

/-- Every step keeps the floor parameters of both banks in their ranges with Hysteresis at most Margin, every
crosspoint in OFF to +24 (R122, R124, R125, R143), every gain index the part holds for a slot in its range with its
ramp record (R101, R106, R107), and, from legal banks, every crosspoint ramp one from the edit bank's value to the other
value the operating bank holds, both gain indices, over 1, 4 or 16 blocks as R106 gives with no more done, and none
outside RAMPING (R101, R110, R111, R128). -/
def Obligations.BankAndGainLawsAreKept : Prop :=
  Kept BankLaw ∧ Kept GainLaw ∧ KeptUnder BankLaw XpRampLaw

/-- Every step keeps the laws of the counts and cursors: the window's starts not above its ends and the cursor within
the walk (R137, R139); from legal banks, every creep count below CreepBlocks and every talk-while-muted count at most
5000, below 5000 while ALERT is off (R24, R29, R36); from a floor that keeps its law, every hold count from 1 to
HoldBlocks (R66, R67, R78); and from gains in their ranges, every current gain at its target or at what its ramp
record has reached (R105, R107). -/
def Obligations.CountCursorAndRampLawsAreKept : Prop :=
  Kept WindowLaw ∧ KeptUnder BankLaw MonitorLaw ∧ KeptUnder FloorLaw HoldLaw ∧ KeptUnder GainLaw RampLaw

/-- Every step keeps the effective mute of every source derived from its layers, off in a FREE slot, and the privacy
of a pod source equal to the held privacy of its pod (R17, R38). -/
def Obligations.MuteLawIsKept : Prop :=
  Kept MuteLaw

/-- Every step keeps the law of the floor (R10, R56 to R59, R70): the floor list and the queue hold exactly the ACTIVE
floor-class sources whose floor state names them, once each and unmuted; no more members than MaxOpen and no more stamps
than AdmitBurst of the operating bank. -/
def Obligations.FloorLawIsKept : Prop :=
  KeptUnder BankLaw FloorLaw

/-- Every step keeps the target of every source the one that R102 composes from its record, the floor and the
operating bank, from every state that meets the law of the floor. -/
def Obligations.TargetLawIsKept : Prop :=
  KeptUnder FloorLaw TargetLaw
end

