-- ==== Sys2Proof/Laws/State.lean ====
section
/-! SUPPORT. What each named update of the state leaves in each field: one lemma per field per update, and the readings
of a record after a write of one. -/

namespace Sys2Proof.Machine

variable (s : State)

/-! ### setSrc -/

@[simp] theorem State.setSrc_srcs (i : SrcSlot) (x : Source) :
    (s.setSrc i x).srcs = s.srcs.set i x := rfl

@[simp] theorem State.setSrc_feeds (i : SrcSlot) (x : Source) : (s.setSrc i x).feeds = s.feeds := rfl

@[simp] theorem State.setSrc_mute (i : SrcSlot) (x : Source) : (s.setSrc i x).mute = s.mute := rfl

@[simp] theorem State.setSrc_floor (i : SrcSlot) (x : Source) : (s.setSrc i x).floor = s.floor := rfl

@[simp] theorem State.setSrc_banks (i : SrcSlot) (x : Source) : (s.setSrc i x).banks = s.banks := rfl

@[simp] theorem State.setSrc_xpRamps (i : SrcSlot) (x : Source) : (s.setSrc i x).xpRamps = s.xpRamps := rfl

@[simp] theorem State.setSrc_pods (i : SrcSlot) (x : Source) : (s.setSrc i x).pods = s.pods := rfl

@[simp] theorem State.setSrc_ports (i : SrcSlot) (x : Source) : (s.setSrc i x).ports = s.ports := rfl

@[simp] theorem State.setSrc_auxOut (i : SrcSlot) (x : Source) : (s.setSrc i x).auxOut = s.auxOut := rfl

@[simp] theorem State.setSrc_mix (i : SrcSlot) (x : Source) : (s.setSrc i x).mix = s.mix := rfl

@[simp] theorem State.setSrc_outputsDue (i : SrcSlot) (x : Source) : (s.setSrc i x).outputsDue = s.outputsDue := rfl

@[simp] theorem State.setSrc_notice (i : SrcSlot) (x : Source) : (s.setSrc i x).notice = s.notice := rfl

@[simp] theorem State.setSrc_ctl (i : SrcSlot) (x : Source) : (s.setSrc i x).ctl = s.ctl := rfl

@[simp] theorem State.setSrc_freeCount (i : SrcSlot) (x : Source) : (s.setSrc i x).freeCount = s.freeCount := rfl

@[simp] theorem State.setSrc_pending (i : SrcSlot) (x : Source) : (s.setSrc i x).pending = s.pending := rfl

/-! ### mapSrcs -/

@[simp] theorem State.mapSrcs_srcs (f : SrcSlot → Source → Source) :
    (s.mapSrcs f).srcs = Vector.ofFn fun i => f i s.srcs[i] := rfl

@[simp] theorem State.mapSrcs_feeds (f : SrcSlot → Source → Source) : (s.mapSrcs f).feeds = s.feeds := by simp only [State.mapSrcs]

@[simp] theorem State.mapSrcs_mute (f : SrcSlot → Source → Source) : (s.mapSrcs f).mute = s.mute := by simp only [State.mapSrcs]

@[simp] theorem State.mapSrcs_floor (f : SrcSlot → Source → Source) : (s.mapSrcs f).floor = s.floor := by simp only [State.mapSrcs]

@[simp] theorem State.mapSrcs_banks (f : SrcSlot → Source → Source) : (s.mapSrcs f).banks = s.banks := by simp only [State.mapSrcs]

@[simp] theorem State.mapSrcs_xpRamps (f : SrcSlot → Source → Source) : (s.mapSrcs f).xpRamps = s.xpRamps := by simp only [State.mapSrcs]

@[simp] theorem State.mapSrcs_pods (f : SrcSlot → Source → Source) : (s.mapSrcs f).pods = s.pods := by simp only [State.mapSrcs]

@[simp] theorem State.mapSrcs_ports (f : SrcSlot → Source → Source) : (s.mapSrcs f).ports = s.ports := by simp only [State.mapSrcs]

@[simp] theorem State.mapSrcs_auxOut (f : SrcSlot → Source → Source) : (s.mapSrcs f).auxOut = s.auxOut := by simp only [State.mapSrcs]

@[simp] theorem State.mapSrcs_mix (f : SrcSlot → Source → Source) : (s.mapSrcs f).mix = s.mix := by simp only [State.mapSrcs]

@[simp] theorem State.mapSrcs_outputsDue (f : SrcSlot → Source → Source) : (s.mapSrcs f).outputsDue = s.outputsDue := by simp only [State.mapSrcs]

@[simp] theorem State.mapSrcs_notice (f : SrcSlot → Source → Source) : (s.mapSrcs f).notice = s.notice := by simp only [State.mapSrcs]

@[simp] theorem State.mapSrcs_ctl (f : SrcSlot → Source → Source) : (s.mapSrcs f).ctl = s.ctl := by simp only [State.mapSrcs]

@[simp] theorem State.mapSrcs_freeCount (f : SrcSlot → Source → Source) : (s.mapSrcs f).freeCount = s.freeCount := by simp only [State.mapSrcs]

@[simp] theorem State.mapSrcs_pending (f : SrcSlot → Source → Source) : (s.mapSrcs f).pending = s.pending := by simp only [State.mapSrcs]

/-! ### setFeed -/

@[simp] theorem State.setFeed_srcs (f : FeedSlot) (x : Feed) : (s.setFeed f x).srcs = s.srcs := rfl

@[simp] theorem State.setFeed_feeds (f : FeedSlot) (x : Feed) :
    (s.setFeed f x).feeds = s.feeds.set f x := rfl

@[simp] theorem State.setFeed_mute (f : FeedSlot) (x : Feed) : (s.setFeed f x).mute = s.mute := rfl

@[simp] theorem State.setFeed_floor (f : FeedSlot) (x : Feed) : (s.setFeed f x).floor = s.floor := rfl

@[simp] theorem State.setFeed_banks (f : FeedSlot) (x : Feed) : (s.setFeed f x).banks = s.banks := rfl

@[simp] theorem State.setFeed_xpRamps (f : FeedSlot) (x : Feed) : (s.setFeed f x).xpRamps = s.xpRamps := rfl

@[simp] theorem State.setFeed_pods (f : FeedSlot) (x : Feed) : (s.setFeed f x).pods = s.pods := rfl

@[simp] theorem State.setFeed_ports (f : FeedSlot) (x : Feed) : (s.setFeed f x).ports = s.ports := rfl

@[simp] theorem State.setFeed_auxOut (f : FeedSlot) (x : Feed) : (s.setFeed f x).auxOut = s.auxOut := rfl

@[simp] theorem State.setFeed_mix (f : FeedSlot) (x : Feed) : (s.setFeed f x).mix = s.mix := rfl

@[simp] theorem State.setFeed_outputsDue (f : FeedSlot) (x : Feed) : (s.setFeed f x).outputsDue = s.outputsDue := rfl

@[simp] theorem State.setFeed_notice (f : FeedSlot) (x : Feed) : (s.setFeed f x).notice = s.notice := rfl

@[simp] theorem State.setFeed_ctl (f : FeedSlot) (x : Feed) : (s.setFeed f x).ctl = s.ctl := rfl

@[simp] theorem State.setFeed_freeCount (f : FeedSlot) (x : Feed) : (s.setFeed f x).freeCount = s.freeCount := rfl

@[simp] theorem State.setFeed_pending (f : FeedSlot) (x : Feed) : (s.setFeed f x).pending = s.pending := rfl

/-! ### mapFeeds -/

@[simp] theorem State.mapFeeds_srcs (g : FeedSlot → Feed → Feed) : (s.mapFeeds g).srcs = s.srcs := by simp only [State.mapFeeds]

@[simp] theorem State.mapFeeds_feeds (g : FeedSlot → Feed → Feed) :
    (s.mapFeeds g).feeds = Vector.ofFn fun f => g f s.feeds[f] := rfl

@[simp] theorem State.mapFeeds_mute (g : FeedSlot → Feed → Feed) : (s.mapFeeds g).mute = s.mute := by simp only [State.mapFeeds]

@[simp] theorem State.mapFeeds_floor (g : FeedSlot → Feed → Feed) : (s.mapFeeds g).floor = s.floor := by simp only [State.mapFeeds]

@[simp] theorem State.mapFeeds_banks (g : FeedSlot → Feed → Feed) : (s.mapFeeds g).banks = s.banks := by simp only [State.mapFeeds]

@[simp] theorem State.mapFeeds_xpRamps (g : FeedSlot → Feed → Feed) : (s.mapFeeds g).xpRamps = s.xpRamps := by simp only [State.mapFeeds]

@[simp] theorem State.mapFeeds_pods (g : FeedSlot → Feed → Feed) : (s.mapFeeds g).pods = s.pods := by simp only [State.mapFeeds]

@[simp] theorem State.mapFeeds_ports (g : FeedSlot → Feed → Feed) : (s.mapFeeds g).ports = s.ports := by simp only [State.mapFeeds]

@[simp] theorem State.mapFeeds_auxOut (g : FeedSlot → Feed → Feed) : (s.mapFeeds g).auxOut = s.auxOut := by simp only [State.mapFeeds]

@[simp] theorem State.mapFeeds_mix (g : FeedSlot → Feed → Feed) : (s.mapFeeds g).mix = s.mix := by simp only [State.mapFeeds]

@[simp] theorem State.mapFeeds_outputsDue (g : FeedSlot → Feed → Feed) : (s.mapFeeds g).outputsDue = s.outputsDue := by simp only [State.mapFeeds]

@[simp] theorem State.mapFeeds_notice (g : FeedSlot → Feed → Feed) : (s.mapFeeds g).notice = s.notice := by simp only [State.mapFeeds]

@[simp] theorem State.mapFeeds_ctl (g : FeedSlot → Feed → Feed) : (s.mapFeeds g).ctl = s.ctl := by simp only [State.mapFeeds]

@[simp] theorem State.mapFeeds_freeCount (g : FeedSlot → Feed → Feed) : (s.mapFeeds g).freeCount = s.freeCount := by simp only [State.mapFeeds]

@[simp] theorem State.mapFeeds_pending (g : FeedSlot → Feed → Feed) : (s.mapFeeds g).pending = s.pending := by simp only [State.mapFeeds]

/-! ### setPod -/

@[simp] theorem State.setPod_srcs (l : PodLink) (x : Pod) : (s.setPod l x).srcs = s.srcs := rfl

@[simp] theorem State.setPod_feeds (l : PodLink) (x : Pod) : (s.setPod l x).feeds = s.feeds := rfl

@[simp] theorem State.setPod_mute (l : PodLink) (x : Pod) : (s.setPod l x).mute = s.mute := rfl

@[simp] theorem State.setPod_floor (l : PodLink) (x : Pod) : (s.setPod l x).floor = s.floor := rfl

@[simp] theorem State.setPod_banks (l : PodLink) (x : Pod) : (s.setPod l x).banks = s.banks := rfl

@[simp] theorem State.setPod_xpRamps (l : PodLink) (x : Pod) : (s.setPod l x).xpRamps = s.xpRamps := rfl

@[simp] theorem State.setPod_pods (l : PodLink) (x : Pod) :
    (s.setPod l x).pods = s.pods.set l x := rfl

@[simp] theorem State.setPod_ports (l : PodLink) (x : Pod) : (s.setPod l x).ports = s.ports := rfl

@[simp] theorem State.setPod_auxOut (l : PodLink) (x : Pod) : (s.setPod l x).auxOut = s.auxOut := rfl

@[simp] theorem State.setPod_mix (l : PodLink) (x : Pod) : (s.setPod l x).mix = s.mix := rfl

@[simp] theorem State.setPod_outputsDue (l : PodLink) (x : Pod) : (s.setPod l x).outputsDue = s.outputsDue := rfl

@[simp] theorem State.setPod_notice (l : PodLink) (x : Pod) : (s.setPod l x).notice = s.notice := rfl

@[simp] theorem State.setPod_ctl (l : PodLink) (x : Pod) : (s.setPod l x).ctl = s.ctl := rfl

@[simp] theorem State.setPod_freeCount (l : PodLink) (x : Pod) : (s.setPod l x).freeCount = s.freeCount := rfl

@[simp] theorem State.setPod_pending (l : PodLink) (x : Pod) : (s.setPod l x).pending = s.pending := rfl

/-! ### setPort -/

@[simp] theorem State.setPort_srcs (p : FarPort) (x : Port) : (s.setPort p x).srcs = s.srcs := rfl

@[simp] theorem State.setPort_feeds (p : FarPort) (x : Port) : (s.setPort p x).feeds = s.feeds := rfl

@[simp] theorem State.setPort_mute (p : FarPort) (x : Port) : (s.setPort p x).mute = s.mute := rfl

@[simp] theorem State.setPort_floor (p : FarPort) (x : Port) : (s.setPort p x).floor = s.floor := rfl

@[simp] theorem State.setPort_banks (p : FarPort) (x : Port) : (s.setPort p x).banks = s.banks := rfl

@[simp] theorem State.setPort_xpRamps (p : FarPort) (x : Port) : (s.setPort p x).xpRamps = s.xpRamps := rfl

@[simp] theorem State.setPort_pods (p : FarPort) (x : Port) : (s.setPort p x).pods = s.pods := rfl

@[simp] theorem State.setPort_ports (p : FarPort) (x : Port) :
    (s.setPort p x).ports = s.ports.set p x := rfl

@[simp] theorem State.setPort_auxOut (p : FarPort) (x : Port) : (s.setPort p x).auxOut = s.auxOut := rfl

@[simp] theorem State.setPort_mix (p : FarPort) (x : Port) : (s.setPort p x).mix = s.mix := rfl

@[simp] theorem State.setPort_outputsDue (p : FarPort) (x : Port) : (s.setPort p x).outputsDue = s.outputsDue := rfl

@[simp] theorem State.setPort_notice (p : FarPort) (x : Port) : (s.setPort p x).notice = s.notice := rfl

@[simp] theorem State.setPort_ctl (p : FarPort) (x : Port) : (s.setPort p x).ctl = s.ctl := rfl

@[simp] theorem State.setPort_freeCount (p : FarPort) (x : Port) : (s.setPort p x).freeCount = s.freeCount := rfl

@[simp] theorem State.setPort_pending (p : FarPort) (x : Port) : (s.setPort p x).pending = s.pending := rfl

/-! ### addNotice -/

@[simp] theorem State.addNotice_srcs (k : NoticeKind) : (s.addNotice k).srcs = s.srcs := rfl

@[simp] theorem State.addNotice_feeds (k : NoticeKind) : (s.addNotice k).feeds = s.feeds := rfl

@[simp] theorem State.addNotice_mute (k : NoticeKind) : (s.addNotice k).mute = s.mute := rfl

@[simp] theorem State.addNotice_floor (k : NoticeKind) : (s.addNotice k).floor = s.floor := rfl

@[simp] theorem State.addNotice_banks (k : NoticeKind) : (s.addNotice k).banks = s.banks := rfl

@[simp] theorem State.addNotice_xpRamps (k : NoticeKind) : (s.addNotice k).xpRamps = s.xpRamps := rfl

@[simp] theorem State.addNotice_pods (k : NoticeKind) : (s.addNotice k).pods = s.pods := rfl

@[simp] theorem State.addNotice_ports (k : NoticeKind) : (s.addNotice k).ports = s.ports := rfl

@[simp] theorem State.addNotice_auxOut (k : NoticeKind) : (s.addNotice k).auxOut = s.auxOut := rfl

@[simp] theorem State.addNotice_mix (k : NoticeKind) : (s.addNotice k).mix = s.mix := rfl

@[simp] theorem State.addNotice_outputsDue (k : NoticeKind) : (s.addNotice k).outputsDue = s.outputsDue := rfl

@[simp] theorem State.addNotice_notice (k : NoticeKind) :
    (s.addNotice k).notice = s.notice.withSet (s.notice.set.add k) := rfl

@[simp] theorem State.addNotice_ctl (k : NoticeKind) : (s.addNotice k).ctl = s.ctl := rfl

@[simp] theorem State.addNotice_freeCount (k : NoticeKind) : (s.addNotice k).freeCount = s.freeCount := rfl

@[simp] theorem State.addNotice_pending (k : NoticeKind) : (s.addNotice k).pending = s.pending := rfl

/-! ### addError -/

@[simp] theorem State.addError_srcs (k : ErrKind) : (s.addError k).srcs = s.srcs := rfl

@[simp] theorem State.addError_feeds (k : ErrKind) : (s.addError k).feeds = s.feeds := rfl

@[simp] theorem State.addError_mute (k : ErrKind) : (s.addError k).mute = s.mute := rfl

@[simp] theorem State.addError_floor (k : ErrKind) : (s.addError k).floor = s.floor := rfl

@[simp] theorem State.addError_banks (k : ErrKind) : (s.addError k).banks = s.banks := rfl

@[simp] theorem State.addError_xpRamps (k : ErrKind) : (s.addError k).xpRamps = s.xpRamps := rfl

@[simp] theorem State.addError_pods (k : ErrKind) : (s.addError k).pods = s.pods := rfl

@[simp] theorem State.addError_ports (k : ErrKind) : (s.addError k).ports = s.ports := rfl

@[simp] theorem State.addError_auxOut (k : ErrKind) : (s.addError k).auxOut = s.auxOut := rfl

@[simp] theorem State.addError_mix (k : ErrKind) : (s.addError k).mix = s.mix := rfl

@[simp] theorem State.addError_outputsDue (k : ErrKind) : (s.addError k).outputsDue = s.outputsDue := rfl

@[simp] theorem State.addError_notice (k : ErrKind) : (s.addError k).notice = s.notice := rfl

@[simp] theorem State.addError_ctl (k : ErrKind) :
    (s.addError k).ctl = { s.ctl with errors := s.ctl.errors.add k } := rfl

@[simp] theorem State.addError_freeCount (k : ErrKind) : (s.addError k).freeCount = s.freeCount := rfl

@[simp] theorem State.addError_pending (k : ErrKind) : (s.addError k).pending = s.pending := rfl

/-! ### setFloorState -/

@[simp] theorem State.setFloorState_srcs (i : SrcSlot) (f : FloorState) :
    (s.setFloorState i f).srcs = s.srcs.set i { s.srcs[i] with floorState := some f } := rfl

@[simp] theorem State.setFloorState_feeds (i : SrcSlot) (f : FloorState) : (s.setFloorState i f).feeds = s.feeds := rfl

@[simp] theorem State.setFloorState_mute (i : SrcSlot) (f : FloorState) : (s.setFloorState i f).mute = s.mute := rfl

@[simp] theorem State.setFloorState_floor (i : SrcSlot) (f : FloorState) : (s.setFloorState i f).floor = s.floor := rfl

@[simp] theorem State.setFloorState_banks (i : SrcSlot) (f : FloorState) : (s.setFloorState i f).banks = s.banks := rfl

@[simp] theorem State.setFloorState_xpRamps (i : SrcSlot) (f : FloorState) : (s.setFloorState i f).xpRamps = s.xpRamps := rfl

@[simp] theorem State.setFloorState_pods (i : SrcSlot) (f : FloorState) : (s.setFloorState i f).pods = s.pods := rfl

@[simp] theorem State.setFloorState_ports (i : SrcSlot) (f : FloorState) : (s.setFloorState i f).ports = s.ports := rfl

@[simp] theorem State.setFloorState_auxOut (i : SrcSlot) (f : FloorState) : (s.setFloorState i f).auxOut = s.auxOut := rfl

@[simp] theorem State.setFloorState_mix (i : SrcSlot) (f : FloorState) : (s.setFloorState i f).mix = s.mix := rfl

@[simp] theorem State.setFloorState_outputsDue (i : SrcSlot) (f : FloorState) : (s.setFloorState i f).outputsDue = s.outputsDue := rfl

@[simp] theorem State.setFloorState_notice (i : SrcSlot) (f : FloorState) : (s.setFloorState i f).notice = s.notice := rfl

@[simp] theorem State.setFloorState_ctl (i : SrcSlot) (f : FloorState) : (s.setFloorState i f).ctl = s.ctl := rfl

@[simp] theorem State.setFloorState_freeCount (i : SrcSlot) (f : FloorState) : (s.setFloorState i f).freeCount = s.freeCount := rfl

@[simp] theorem State.setFloorState_pending (i : SrcSlot) (f : FloorState) : (s.setFloorState i f).pending = s.pending := rfl

/-! ### addNoticeIf -/

@[simp] theorem State.addNoticeIf_false (k : NoticeKind) : s.addNoticeIf false k = s := rfl

@[simp] theorem State.addNoticeIf_true (k : NoticeKind) : s.addNoticeIf true k = s.addNotice k := rfl

@[simp] theorem State.addNoticeIf_srcs (c : Bool) (k : NoticeKind) : (s.addNoticeIf c k).srcs = s.srcs := by
  cases c <;> rfl

@[simp] theorem State.addNoticeIf_feeds (c : Bool) (k : NoticeKind) : (s.addNoticeIf c k).feeds = s.feeds := by
  cases c <;> rfl

@[simp] theorem State.addNoticeIf_mute (c : Bool) (k : NoticeKind) : (s.addNoticeIf c k).mute = s.mute := by
  cases c <;> rfl

@[simp] theorem State.addNoticeIf_floor (c : Bool) (k : NoticeKind) : (s.addNoticeIf c k).floor = s.floor := by
  cases c <;> rfl

@[simp] theorem State.addNoticeIf_banks (c : Bool) (k : NoticeKind) : (s.addNoticeIf c k).banks = s.banks := by
  cases c <;> rfl

@[simp] theorem State.addNoticeIf_xpRamps (c : Bool) (k : NoticeKind) : (s.addNoticeIf c k).xpRamps = s.xpRamps := by
  cases c <;> rfl

@[simp] theorem State.addNoticeIf_pods (c : Bool) (k : NoticeKind) : (s.addNoticeIf c k).pods = s.pods := by
  cases c <;> rfl

@[simp] theorem State.addNoticeIf_ports (c : Bool) (k : NoticeKind) : (s.addNoticeIf c k).ports = s.ports := by
  cases c <;> rfl

@[simp] theorem State.addNoticeIf_auxOut (c : Bool) (k : NoticeKind) : (s.addNoticeIf c k).auxOut = s.auxOut := by
  cases c <;> rfl

@[simp] theorem State.addNoticeIf_mix (c : Bool) (k : NoticeKind) : (s.addNoticeIf c k).mix = s.mix := by
  cases c <;> rfl

@[simp] theorem State.addNoticeIf_outputsDue (c : Bool) (k : NoticeKind) : (s.addNoticeIf c k).outputsDue = s.outputsDue := by
  cases c <;> rfl

@[simp] theorem State.addNoticeIf_ctl (c : Bool) (k : NoticeKind) : (s.addNoticeIf c k).ctl = s.ctl := by
  cases c <;> rfl

@[simp] theorem State.addNoticeIf_freeCount (c : Bool) (k : NoticeKind) : (s.addNoticeIf c k).freeCount = s.freeCount := by
  cases c <;> rfl

@[simp] theorem State.addNoticeIf_pending (c : Bool) (k : NoticeKind) : (s.addNoticeIf c k).pending = s.pending := by
  cases c <;> rfl

/-! ### A record after a write -/

theorem State.setSrc_same (i : SrcSlot) (x : Source) : (s.setSrc i x).srcs[i] = x := by simp

theorem State.setSrc_other {i j : SrcSlot} (x : Source) (h : j ≠ i) : (s.setSrc i x).srcs[j] = s.srcs[j] := by
  have : i.val ≠ j.val := fun e => h (Fin.ext e.symm)
  simp [this]

theorem State.setFeed_same (f : FeedSlot) (x : Feed) : (s.setFeed f x).feeds[f] = x := by simp

theorem State.setFeed_other {f g : FeedSlot} (x : Feed) (h : g ≠ f) : (s.setFeed f x).feeds[g] = s.feeds[g] := by
  have : f.val ≠ g.val := fun e => h (Fin.ext e.symm)
  simp [this]

theorem State.setPod_same (l : PodLink) (x : Pod) : (s.setPod l x).pods[l] = x := by simp

theorem State.setPod_other {l m : PodLink} (x : Pod) (h : m ≠ l) : (s.setPod l x).pods[m] = s.pods[m] := by
  have : l.val ≠ m.val := fun e => h (Fin.ext e.symm)
  simp [this]

theorem State.setPort_same (p : FarPort) (x : Port) : (s.setPort p x).ports[p] = x := by simp

theorem State.setPort_other {p q : FarPort} (x : Port) (h : q ≠ p) : (s.setPort p x).ports[q] = s.ports[q] := by
  have : p.val ≠ q.val := fun e => h (Fin.ext e.symm)
  simp [this]

/-- A record written back as it stands changes nothing. -/
theorem State.setSrc_self (i : SrcSlot) : s.setSrc i s.srcs[i] = s := by
  have : s.srcs.set i s.srcs[i] = s.srcs := Vector.set_getElem_self i.isLt
  simp only [State.setSrc, this]

/-- Records replaced by themselves change nothing. -/
theorem State.mapSrcs_self {f : SrcSlot → Source → Source} (h : ∀ i : SrcSlot, f i s.srcs[i] = s.srcs[i]) :
    s.mapSrcs f = s := by
  have : (Vector.ofFn fun i => f i s.srcs[i]) = s.srcs := by
    apply Vector.ext
    intro n hn
    simpa using h ⟨n, hn⟩
  rw [State.mapSrcs, this]

theorem State.mapSrcs_at (f : SrcSlot → Source → Source) (i : SrcSlot) :
    (s.mapSrcs f).srcs[i] = f i s.srcs[i] := by simp

theorem State.mapFeeds_at (g : FeedSlot → Feed → Feed) (f : FeedSlot) :
    (s.mapFeeds g).feeds[f] = g f s.feeds[f] := by simp

end Sys2Proof.Machine
end

