-- ==== Sys2Proof/Laws/Floor.lean ====
section
/-! SUPPORT. What the Floor Controller's operations can change (spec/04_the_floor.md): the floor and the floor states, and
nothing else; what an admission attempt can answer; and what the end of an event adds. -/

namespace Sys2Proof.Machine

/-- From `s` to `t` nothing but the collections, the stamps and the floor states has moved; the block number has not. -/
structure FloorFrame (s t : State) : Prop where
  srcs : ∀ i : SrcSlot, t.srcs[i] = { s.srcs[i] with floorState := t.srcs[i].floorState }
  block : t.floor.block = s.floor.block
  rest : { t with srcs := s.srcs, floor := s.floor } = s

variable {s t u : State} {i : SrcSlot}

theorem FloorFrame.refl (s : State) : FloorFrame s s := ⟨fun _ => rfl, rfl, rfl⟩

theorem FloorFrame.trans (h : FloorFrame s t) (k : FloorFrame t u) : FloorFrame s u where
  srcs i := by rw [k.srcs i, h.srcs i]
  block := k.block.trans h.block
  rest := by
    have e : { u with srcs := s.srcs, floor := s.floor }
        = { { u with srcs := t.srcs, floor := t.floor } with srcs := s.srcs, floor := s.floor } := rfl
    rw [e, k.rest, h.rest]

theorem FloorFrame.params (h : FloorFrame s t) : t.params = s.params := by
  have := congrArg State.params h.rest
  exact this

theorem FloorFrame.notice (h : FloorFrame s t) : t.notice = s.notice := by
  have := congrArg State.notice h.rest
  exact this

/-- The Floor Controller's own record replaced, its block number kept. -/
theorem FloorFrame.of_floor (s : State) (c : FloorCtl) (h : c.block = s.floor.block) :
    FloorFrame s { s with floor := c } := ⟨fun _ => rfl, h, rfl⟩

theorem setFloorState_frame (i : SrcSlot) (f : FloorState) (s : State) : FloorFrame s (s.setFloorState i f) where
  srcs j := by
    by_cases h : j = i
    · subst h; simp [State.setFloorState]
    · have : i.val ≠ j.val := fun e => h (Fin.ext e.symm)
      simp [State.setFloorState, this]
  block := rfl
  rest := rfl

theorem closeSource_frame (i : SrcSlot) (s : State) : FloorFrame s (closeSource i s) :=
  (FloorFrame.of_floor s (s.floor.without i) rfl).trans (setFloorState_frame i .closed _)

theorem joinTail_frame (i : SrcSlot) (s : State) : FloorFrame s (joinTail i s) := by
  refine FloorFrame.trans (FloorFrame.of_floor s _ ?_) (setFloorState_frame i .pending _)
  split <;> rfl

theorem moveToHead_frame (i : SrcSlot) (s : State) : FloorFrame s (moveToHead i s) := by
  refine FloorFrame.trans (FloorFrame.of_floor s _ ?_) (setFloorState_frame i .pending _)
  split <;> rfl

theorem evict_frame (i : SrcSlot) (s : State) : FloorFrame s (evict i s) := by
  unfold evict
  split
  · exact moveToHead_frame i s
  · exact closeSource_frame i s

theorem pushStamp_frame (s : State) : FloorFrame s (pushStamp s) := FloorFrame.of_floor s _ rfl

theorem expireStamps_frame (s : State) : FloorFrame s (expireStamps s) := FloorFrame.of_floor s _ rfl

theorem swapStamps_frame (s : State) : FloorFrame s (swapStamps s) := FloorFrame.of_floor s _ rfl

theorem admitSource_frame (i : SrcSlot) (e : Option SrcSlot) (s : State) : FloorFrame s (admitSource i e s) := by
  have join (u : State) : FloorFrame u
      (pushStamp ({ u with floor := { u.floor.without i with list := (u.floor.without i).list ++ [i] } }.setFloorState
        i .opened)) :=
    FloorFrame.trans (FloorFrame.of_floor u { u.floor.without i with list := (u.floor.without i).list ++ [i] } rfl)
      ((setFloorState_frame i .opened _).trans (pushStamp_frame _))
  cases e with
  | none => exact join s
  | some e => exact (evict_frame e s).trans (join _)

/-- What an admission attempt can answer (R62, R63): where it answers, the admission with what it evicts. -/
theorem tryAdmit_cases (h : tryAdmit i s = some t) :
    (s.srcs[i].isChair = true ∨ windowExhausted s = false) ∧
      (s.floor.list.length < s.params.maxOpen ∧ t = admitSource i none s ∨
        s.params.maxOpen ≤ s.floor.list.length ∧ ∃ e, evictee s.srcs[i].isChair s = some e ∧ t = admitSource i (some e) s) := by
  simp only [tryAdmit] at h
  split at h
  · cases h
  · rename_i hw
    refine ⟨by cases hc : s.srcs[i].isChair <;> simp_all, ?_⟩
    split at h
    · exact .inl ⟨‹_›, (Option.some.inj h).symm⟩
    · refine .inr ⟨by omega, ?_⟩
      split at h
      · exact ⟨_, ‹_›, (Option.some.inj h).symm⟩
      · cases h

theorem tryAdmit_frame (h : tryAdmit i s = some t) : FloorFrame s t := by
  obtain ⟨-, ⟨-, rfl⟩ | ⟨-, e, -, rfl⟩⟩ := tryAdmit_cases h <;> exact admitSource_frame _ _ _

theorem attempt_frame (i : SrcSlot) (s : State) : FloorFrame s (attempt i s) := by
  unfold attempt
  cases h : tryAdmit i s with
  | none => exact joinTail_frame i s
  | some t => exact tryAdmit_frame h

theorem serve_frame (n : Nat) (s : State) : FloorFrame s (serve n s) := by
  induction n generalizing s with
  | zero => exact .refl s
  | succ n ih =>
    unfold serve
    split
    · exact .refl s
    · split
      · exact (tryAdmit_frame ‹_›).trans (ih _)
      · exact .refl s

theorem pendingService_frame (s : State) : FloorFrame s (pendingService s) := serve_frame _ s

theorem serviceIf_frame (b : Bool) (s : State) : FloorFrame s (serviceIf b s) := by
  cases b
  · exact .refl s
  · exact pendingService_frame s

theorem removeSource_frame (i : SrcSlot) (s : State) : FloorFrame s (removeSource i s).1 := by
  unfold removeSource
  split
  · exact closeSource_frame i s
  · split
    · exact closeSource_frame i s
    · exact .refl s

theorem removeSources_frame (is : List SrcSlot) (s : State) : FloorFrame s (removeSources is s).1 := by
  have go (b : Bool) : ∀ u, FloorFrame s u → FloorFrame s (is.foldl (fun (a : State × Bool) i =>
      ((removeSource i a.1).1, a.2 || (removeSource i a.1).2)) (u, b)).1 := by
    induction is generalizing b with
    | nil => intro u h; exact h
    | cons i rest ih => intro u h; exact ih _ _ (h.trans (removeSource_frame i u))
  exact go false s (.refl s)

theorem expireHold_frame (i : SrcSlot) (s : State) : FloorFrame s (expireHold i s).1 := by
  unfold expireHold
  split
  · exact setFloorState_frame i .last s
  · exact closeSource_frame i s

theorem floorAction_frame (i : SrcSlot) (s : State) : FloorFrame s (floorAction i s) := by
  have expiry : FloorFrame s (match expireHold i s with | (s', shorter) => serviceIf shorter s') :=
    (expireHold_frame i s).trans (serviceIf_frame _ _)
  simp only [floorAction]
  split
  · split
    · exact .refl s
    · exact attempt_frame i s
  · exact closeSource_frame i s
  · split
    · exact expiry
    · exact (setFloorState_frame i _ s).trans (serviceIf_frame _ _)
  · exact setFloorState_frame i _ s
  · split
    · exact expiry
    · exact setFloorState_frame i _ s
  · exact setFloorState_frame i _ s
  · exact .refl s

theorem floorHandover_frame (i : SrcSlot) (s : State) : FloorFrame s (floorHandover i s) := by
  unfold floorHandover
  split
  · exact floorAction_frame i s
  · exact .refl s

theorem handToFloor_frame (a : State × Bool) (i : SrcSlot) : FloorFrame a.1 (handToFloor a i).1 := by
  obtain ⟨s, b⟩ := a
  simp only [handToFloor]
  split
  · exact removeSource_frame i s
  · split
    · exact attempt_frame i s
    · exact .refl s

theorem handAllToFloor_frame (is : List SrcSlot) (a : State × Bool) : FloorFrame a.1 (is.foldl handToFloor a).1 := by
  induction is generalizing a with
  | nil => exact .refl _
  | cons i rest ih => exact (handToFloor_frame a i).trans (ih _)

/-! ### The end of an event (R76, R80) -/

@[simp] theorem noteFloor_srcs (s t : State) : (noteFloor s t).srcs = t.srcs := State.addNoticeIf_srcs ..

@[simp] theorem noteFloor_floor (s t : State) : (noteFloor s t).floor = t.floor := State.addNoticeIf_floor ..

@[simp] theorem finishEvent_floor (s t : State) : (finishEvent s t).floor = t.floor := by simp [finishEvent]

@[simp] theorem finishEvent_notice (s t : State) : (finishEvent s t).notice = (noteFloor s t).notice := by
  simp [finishEvent]

/-- The end of an event moves no field of a source but its gain. -/
theorem finishEvent_src (s t : State) (i : SrcSlot) :
    (finishEvent s t).srcs[i] = if handedOn s t i then retarget t t.srcs[i] else t.srcs[i] := by
  simp only [finishEvent, State.mapSrcs_at, noteFloor_srcs]

/-- The end of an event leaves everything but the gains and the notices. -/
theorem finishEvent_rest (s t : State) :
    { finishEvent s t with srcs := t.srcs, notice := t.notice } = t := by
  simp only [finishEvent, noteFloor, State.mapSrcs, State.addNoticeIf]
  split <;> rfl

end Sys2Proof.Machine
end

