-- ==== Sys2Proof/Laws/Events.lean ====
section
/-! SUPPORT. What the operations that several events share leave: clamps, a target handed to the ramp unit, a notice
added, a change of effective mute, the forming of a mix block, the talk-while-muted count, the gains at the end of an event,
the search in HUNT, and the moving of the far-end ports. -/

namespace Sys2Proof.Machine

variable (s : State)

/-! ### Clamps and gains (R101, R105) -/

theorem clampInt_mem {lo hi : Int} (h : lo ≤ hi) (v : Int) : lo ≤ clampInt lo hi v ∧ clampInt lo hi v ≤ hi := by
  unfold clampInt; omega

theorem clampGain_mem (v : Int) : GainIndex (clampGain v) := clampInt_mem (by decide) v

@[simp] theorem GainUnit.hand_current (g : GainUnit) (b : Int) : (g.hand b).current = g.current := by
  simp only [GainUnit.hand]; split
  · rfl
  · split <;> rfl

@[simp] theorem GainUnit.hand_target (g : GainUnit) (b : Int) : (g.hand b).target = b := by
  simp only [GainUnit.hand]; split
  · exact (‹b = g.target›).symm
  · split <;> rfl

/-- The ramp record after a target is handed over (R105). -/
theorem GainUnit.hand_ramp (g : GainUnit) (b : Int) : (g.hand b).ramp =
    if b = g.target then g.ramp
    else if b = g.current then none
    else some ⟨g.current, rampDuration (b - g.current).natAbs, 0⟩ := by
  simp only [GainUnit.hand]; split
  · rfl
  · split <;> rfl

@[simp] theorem retarget_floorState (x : Source) : (retarget s x).floorState = x.floorState := rfl

@[simp] theorem retarget_effMute (x : Source) : (retarget s x).effMute = x.effMute := rfl

/-! ### Notices (R192, R193) -/

theorem NoticeSet.meets_iff (n m : NoticeSet) : n.meets m = true ↔ ∃ k, n.has k = true ∧ m.has k = true := by
  constructor
  · intro h
    simp only [NoticeSet.meets, Bool.or_eq_true, Bool.and_eq_true] at h
    obtain ((((((h | h) | h) | h) | h) | h) | h) | h := h
    exacts [⟨.podLink, h⟩, ⟨.privacy, h⟩, ⟨.button, h⟩, ⟨.talkMuted, h⟩, ⟨.floor, h⟩, ⟨.slip, h⟩, ⟨.clip, h⟩,
      ⟨.swapDone, h⟩]
  · rintro ⟨k, h⟩
    cases k <;> simp_all [NoticeSet.meets, NoticeSet.has]

/-- A replaced notice set leaves the attention line following it. -/
theorem withSet_attention (u : NoticeUnit) (n : NoticeSet) :
    (u.withSet n).attention = true ↔ ∃ k, n.has k = true ∧ u.mask.has k = true := NoticeSet.meets_iff n u.mask

theorem addNotice_attention (k : NoticeKind) : AttentionLaw (s.addNotice k) := withSet_attention _ _

theorem addNoticeIf_attention {s : State} (h : AttentionLaw s) (c : Bool) (k : NoticeKind) :
    AttentionLaw (s.addNoticeIf c k) := by
  cases c
  · exact h
  · exact addNotice_attention s k

/-- A kind added stands in the set, and no other kind comes or goes. -/
theorem NoticeSet.add_has (n : NoticeSet) (k j : NoticeKind) : (n.add k).has j = (n.has j || j == k) := by
  cases k <;> cases j <;> simp [NoticeSet.add, NoticeSet.has]

/-! ### The effective mute (R38, R39) -/

/-- The changed effective mutes written, with what each hands to the Level Monitor. -/
def mutesWritten (changed : List SrcSlot) : State :=
  s.mapSrcs fun i x => if changed.contains i then setMute (deriveMute s.mute x) x else x

/-- The effective mutes derived again (R38, R39): nothing where none changes; otherwise the changes written, then what the
floor makes of them, then the end of the event. -/
theorem deriveMutes_cases (affected : SrcSlot → Bool) :
    muteChanges affected s = [] ∧ deriveMutes affected s = s ∨
      ∃ u, FloorFrame (mutesWritten s (muteChanges affected s)) u ∧
        deriveMutes affected s = finishEvent s { u with freeCount := s.freeCount + 1 } := by
  unfold deriveMutes
  generalize muteChanges affected s = changed
  cases changed with
  | nil => exact .inl ⟨rfl, rfl⟩
  | cons i is =>
    exact .inr ⟨_, (handAllToFloor_frame _ (mutesWritten s (i :: is), false)).trans (serviceIf_frame _ _), rfl⟩

/-- The effective mutes derived again move no field of a source but the mute, the talk-while-muted fields, the floor state
and the gain. -/
theorem deriveMutes_src (affected : SrcSlot → Bool) (i : SrcSlot) :
    (deriveMutes affected s).srcs[i] = { s.srcs[i] with
      effMute := (deriveMutes affected s).srcs[i].effMute
      twm := (deriveMutes affected s).srcs[i].twm
      alert := (deriveMutes affected s).srcs[i].alert
      floorState := (deriveMutes affected s).srcs[i].floorState
      gain := (deriveMutes affected s).srcs[i].gain } := by
  obtain ⟨-, h⟩ | ⟨u, hu, h⟩ := deriveMutes_cases s affected
  · rw [h]
  · rw [h, finishEvent_src]
    have hi := hu.srcs i
    simp only [mutesWritten, State.mapSrcs_at] at hi
    dsimp only
    rw [hi]
    split <;> split <;> rfl

/-- The effective mutes derived again leave everything but sources, floor, notices and the free order's counter. -/
theorem deriveMutes_rest (affected : SrcSlot → Bool) :
    { deriveMutes affected s with srcs := s.srcs, floor := s.floor, notice := s.notice, freeCount := s.freeCount } = s := by
  have overwrite (v w : State) (h : { v with srcs := w.srcs, notice := w.notice } = w) :
      { v with srcs := s.srcs, floor := s.floor, notice := s.notice, freeCount := s.freeCount }
        = { w with srcs := s.srcs, floor := s.floor, notice := s.notice, freeCount := s.freeCount } := by rw [← h]
  have frame (v w : State) (h : FloorFrame v w) :
      { w with srcs := s.srcs, floor := s.floor, notice := s.notice, freeCount := s.freeCount }
        = { v with srcs := s.srcs, floor := s.floor, notice := s.notice, freeCount := s.freeCount } := by rw [← h.rest]
  obtain ⟨-, h⟩ | ⟨u, hu, h⟩ := deriveMutes_cases s affected
  · rw [h]
  · rw [h, overwrite _ _ (finishEvent_rest _ _)]
    refine (frame _ _ hu).trans ?_
    simp only [mutesWritten, State.mapSrcs]

/-! ### The talk-while-muted count (R28 to R30) -/

/-- The talk-while-muted fields after a measurement's voice decision: cleared, raised and judged, or kept. -/
theorem moveTwm_cases (p : Params) (old : VoiceState) (x : Source) :
    old = .voiced ∧ x.voice = .quiet ∧ moveTwm p old x = { x with twm := 0, alert := false } ∨
      (x.isActive = true ∧ x.voice = .voiced ∧ x.effMute = true ∧ x.alert = false) ∧
        moveTwm p old x = { x with
          twm := x.twm + 1, alert := decide (p.twmBlocks ≤ x.twm + 1), twmRose := false } ∨
      ¬ (old = .voiced ∧ x.voice = .quiet) ∧
        ¬ (x.isActive = true ∧ x.voice = .voiced ∧ x.effMute = true ∧ x.alert = false) ∧ moveTwm p old x = x := by
  unfold moveTwm
  split
  · rename_i h
    simp only [Bool.and_eq_true, beq_iff_eq] at h
    exact .inl ⟨h.1, h.2, rfl⟩
  · rename_i h
    simp only [Bool.and_eq_true, beq_iff_eq] at h
    split
    · rename_i k
      simp only [Bool.and_eq_true, beq_iff_eq, Bool.not_eq_true'] at k
      refine .inr (.inl ⟨⟨k.1.1.1, k.1.1.2, k.1.2, k.2⟩, ?_⟩)
      simp [judgeRise, k.2]
    · rename_i k
      simp only [Bool.and_eq_true, beq_iff_eq, Bool.not_eq_true'] at k
      exact .inr (.inr ⟨h, fun e => k ⟨⟨⟨e.1, e.2.1⟩, e.2.2.1⟩, e.2.2.2⟩, rfl⟩)

/-! ### The gains at the end of an event (R76, R103) -/

theorem gateShut_iff (x : Source) : gateShut x ↔ gateOpen x.floorState = false := by
  unfold gateShut
  cases h : x.floorState with
  | none => simp [gateOpen]
  | some f => cases f <;> simp [gateOpen]

theorem handedOn_iff (t : State) (i : SrcSlot) : handedOn s t i = true ↔ HandsOn s t i := by
  have state : t.srcs[i].isActive = true ↔ t.srcs[i].state = .active := by
    simp [Source.isActive]
  have gate (a b : Source) : gateOpen a.floorState ≠ gateOpen b.floorState ↔ ¬ (gateShut a ↔ gateShut b) := by
    rw [gateShut_iff, gateShut_iff]
    cases gateOpen a.floorState <;> cases gateOpen b.floorState <;> decide
  simp only [handedOn, HandsOn, Bool.and_eq_true, Bool.or_eq_true, bne_iff_ne, state, gate]

/-- The end of an event hands on the gains as they follow from the state the event has left. -/
theorem finishEvent_gain {t : State} (i : SrcSlot) (h : t.srcs[i].gain = s.srcs[i].gain) :
    GainFollows s (finishEvent s t) i := by
  have params : (finishEvent s t).params = t.params := by
    simp only [State.params, finishEvent, noteFloor, State.mapSrcs_banks, State.addNoticeIf_banks]
  have hands : HandsOn s (finishEvent s t) i ↔ handedOn s t i = true := by
    rw [handedOn_iff]
    simp only [HandsOn, finishEvent_src, finishEvent_floor]
    split <;> rfl
  refine ⟨fun k => ?_, fun k => ?_⟩
  · rw [hands] at k
    rw [params, finishEvent_floor, finishEvent_src, if_pos k, ← h]
    rfl
  · rw [hands] at k
    rw [finishEvent_src, if_neg k, h]

/-! ### The search in HUNT (R151) -/

/-- Where four bytes stand, they are tested, and otherwise the search goes on one byte after. -/
theorem searchHeader_step (b0 b1 b2 b3 : Byte) (rest : List Byte) :
    searchHeader (b0 :: b1 :: b2 :: b3 :: rest) =
      if (PodHeader.mk b0 b1 b2 b3).good then some (0, ⟨b0, b1, b2, b3⟩)
      else (searchHeader (b1 :: b2 :: b3 :: rest)).map fun r => (r.1 + 1, r.2) := rfl

/-- Fewer than four bytes hold no match. -/
theorem searchHeader_short {stream : List Byte} (h : stream.length < 4) : searchHeader stream = none := by
  match stream with
  | [] => rfl
  | [_] => rfl
  | [_, _] => rfl
  | [_, _, _] => rfl
  | _ :: _ :: _ :: _ :: _ => simp at h; omega

/-! ### Far-end ports (R171, R174, R176) -/

@[simp] theorem movePorts_ports (f : FarPort → Port → Port × Bool) :
    (movePorts f s).ports = Vector.ofFn fun p => (f p s.ports[p]).1 := State.addNoticeIf_ports ..

/-- Ports moved leave everything else but the notices. -/
theorem movePorts_rest (f : FarPort → Port → Port × Bool) :
    { movePorts f s with ports := s.ports, notice := s.notice } = s := by
  simp only [movePorts, State.addNoticeIf]
  split <;> rfl

/-- Ports moved set SLIP when one of them slipped, and no other kind (R178). -/
theorem movePorts_notice (f : FarPort → Port → Port × Bool) :
    (movePorts f s).notice
      = if (List.finRange 8).any (fun p => (f p s.ports[p]).2) then s.notice.withSet (s.notice.set.add .slip)
        else s.notice := by
  simp only [movePorts, State.addNoticeIf]
  split <;> rfl

/-! ### The mix block in progress (R115, R197, R198) -/

/-- FEEDS_FORMED with no block in progress and none cut short does nothing. -/
theorem feedsFormed_none {s : State} (h : s.mix = none) (k : s.outputsDue = none) : feedsFormed s = s := by
  simp [feedsFormed, h, k]

/-- FEEDS_FORMED in a block cut short gives the destinations the blocks that are due. -/
theorem feedsFormed_cut {s : State} {o : BlockOutputs} (h : s.mix = none) (k : s.outputsDue = some o) :
    feedsFormed s = giveOutputs o s := by
  simp [feedsFormed, h, k]

/-- FEEDS_FORMED with a block in progress forms its feeds. -/
theorem feedsFormed_some {s : State} {v : MixView} (h : s.mix = some v) : feedsFormed s = formFeeds v s := by
  simp [feedsFormed, h]

/-- The audio of one pod's frame. -/
@[simp] theorem outputsOf_pods (v : MixView) (l : PodLink) : (outputsOf v).pods[l] = blockFor v (.podSpk l) := by
  simp [outputsOf]

/-- The block of one far-end port's output write. -/
@[simp] theorem outputsOf_far (v : MixView) (p : FarPort) : (outputsOf v).far[p] = blockFor v (.farSend p) := by
  simp [outputsOf]

/-- The block of one aux output. -/
@[simp] theorem outputsOf_aux (v : MixView) (a : AuxPort) : (outputsOf v).aux[a] = blockFor v (.auxOut a) := by
  simp [outputsOf]

/-- Blocks given leave everything but the frames sent, the ports, the aux outputs, the notices and the block itself. -/
theorem giveOutputs_rest (o : BlockOutputs) :
    { giveOutputs o s with
      pods := s.pods, ports := s.ports, auxOut := s.auxOut, mix := s.mix, outputsDue := s.outputsDue
      notice := s.notice } = s := by
  simp only [giveOutputs, movePorts, State.addNoticeIf_srcs, State.addNoticeIf_feeds, State.addNoticeIf_mute,
    State.addNoticeIf_floor, State.addNoticeIf_banks, State.addNoticeIf_xpRamps, State.addNoticeIf_ctl,
    State.addNoticeIf_freeCount, State.addNoticeIf_pending]

@[simp] theorem giveOutputs_auxOut (o : BlockOutputs) : (giveOutputs o s).auxOut = o.aux := by
  simp only [giveOutputs, movePorts, State.addNoticeIf_auxOut]

/-- Every pod link is sent the frame of its header and its block, and nothing else of its record changes. -/
@[simp] theorem giveOutputs_pod (o : BlockOutputs) (l : PodLink) : (giveOutputs o s).pods[l]
    = { s.pods[l] with sent := some (s.pods[l].head.frame o.pods[l]) } := by
  simp [giveOutputs, movePorts]

@[simp] theorem formFeeds_srcs (v : MixView) : (formFeeds v s).srcs = s.srcs := by
  simp only [formFeeds, giveOutputs, movePorts, State.addNoticeIf_srcs, State.mapFeeds_srcs]

@[simp] theorem formFeeds_mute (v : MixView) : (formFeeds v s).mute = s.mute := by
  simp only [formFeeds, giveOutputs, movePorts, State.addNoticeIf_mute, State.mapFeeds_mute]

@[simp] theorem formFeeds_floor (v : MixView) : (formFeeds v s).floor = s.floor := by
  simp only [formFeeds, giveOutputs, movePorts, State.addNoticeIf_floor, State.mapFeeds_floor]

@[simp] theorem formFeeds_banks (v : MixView) : (formFeeds v s).banks = s.banks := by
  simp only [formFeeds, giveOutputs, movePorts, State.addNoticeIf_banks, State.mapFeeds_banks]

@[simp] theorem formFeeds_xpRamps (v : MixView) : (formFeeds v s).xpRamps = s.xpRamps := by
  simp only [formFeeds, giveOutputs, movePorts, State.addNoticeIf_xpRamps, State.mapFeeds_xpRamps]

@[simp] theorem formFeeds_ctl (v : MixView) : (formFeeds v s).ctl = s.ctl := by
  simp only [formFeeds, giveOutputs, movePorts, State.addNoticeIf_ctl, State.mapFeeds_ctl]

@[simp] theorem formFeeds_freeCount (v : MixView) : (formFeeds v s).freeCount = s.freeCount := by
  simp only [formFeeds, giveOutputs, movePorts, State.addNoticeIf_freeCount, State.mapFeeds_freeCount]

@[simp] theorem formFeeds_pending (v : MixView) : (formFeeds v s).pending = s.pending := by
  simp only [formFeeds, giveOutputs, movePorts, State.addNoticeIf_pending, State.mapFeeds_pending]

/-- Feeds formed leave everything but clips, frames, ports, aux outputs, notices and the block itself. -/
theorem formFeeds_rest (v : MixView) :
    { formFeeds v s with
      feeds := s.feeds, pods := s.pods, ports := s.ports, auxOut := s.auxOut, mix := s.mix, outputsDue := s.outputsDue
      notice := s.notice } = s := by
  simp only [formFeeds_srcs, formFeeds_mute, formFeeds_floor, formFeeds_banks, formFeeds_xpRamps, formFeeds_ctl,
    formFeeds_freeCount, formFeeds_pending]

@[simp] theorem formFeeds_mix (v : MixView) : (formFeeds v s).mix = none := by
  simp only [formFeeds, giveOutputs, movePorts, State.addNoticeIf_mix]

@[simp] theorem formFeeds_outputsDue (v : MixView) : (formFeeds v s).outputsDue = none := by
  simp only [formFeeds, giveOutputs, movePorts, State.addNoticeIf_outputsDue]

@[simp] theorem formFeeds_auxOut (v : MixView) :
    (formFeeds v s).auxOut = (outputsOf v).aux := by
  simp only [formFeeds, giveOutputs_auxOut]

/-- A block cut short leaves everything but the block itself. -/
theorem cutBlock_rest : { cutBlock s with mix := s.mix, outputsDue := s.outputsDue } = s := by
  unfold cutBlock
  split <;> rfl

@[simp] theorem cutBlock_mix : (cutBlock s).mix = none := by
  unfold cutBlock
  split
  · rfl
  · assumption

/-- After a cut the blocks of the mix block in progress are due, or those that were due already. -/
theorem cutBlock_outputsDue : (cutBlock s).outputsDue = match s.mix with
    | some v => some (outputsOf v)
    | none => s.outputsDue := by
  unfold cutBlock
  split <;> simp [*]

/-- ENGINE.RESET leaves no block in progress (R120). -/
@[simp] theorem engineReset_mix : (engineReset s).mix = none := cutBlock_mix s

/-- ENGINE.RESET leaves the blocks of a mix block it cut short still due (R85). -/
theorem engineReset_outputsDue : (engineReset s).outputsDue = match s.mix with
    | some v => some (outputsOf v)
    | none => s.outputsDue := cutBlock_outputsDue s

/-- ENGINE.RESET leaves the aux outputs as they are (R181). -/
@[simp] theorem engineReset_auxOut : (engineReset s).auxOut = s.auxOut := by
  show (cutBlock s).auxOut = s.auxOut
  unfold cutBlock
  split <;> rfl

/-- ENGINE.RESET resets each pod link's record, the latest frame sent standing (R167). -/
theorem engineReset_pod (l : PodLink) : (engineReset s).pods[l] = s.pods[l].engineReset := by
  have h : (cutBlock s).pods = s.pods := by
    unfold cutBlock
    split <;> rfl
  simp [engineReset, resetRecords, h]

end Sys2Proof.Machine
end

