-- ==== Sys2Proof/Laws/Packets.lean ====
section
/-! SUPPORT. What a packet's start, its judgement and its answer leave (spec/10_control_link_notices_and_reset.md): one
lemma for each outcome of a host command's packet. -/

namespace Sys2Proof.Machine

variable {s s' : State} {code : Byte} {take : State → Taken} {r : Reply} {k : ErrKind}

@[simp] theorem openPacket_srcs (s : State) : (openPacket s).srcs = s.srcs := by
  unfold openPacket
  split <;> rfl

@[simp] theorem openPacket_feeds (s : State) : (openPacket s).feeds = s.feeds := by
  unfold openPacket
  split <;> rfl

@[simp] theorem openPacket_mute (s : State) : (openPacket s).mute = s.mute := by
  unfold openPacket
  split <;> rfl

@[simp] theorem openPacket_floor (s : State) : (openPacket s).floor = s.floor := by
  unfold openPacket
  split <;> rfl

@[simp] theorem openPacket_banks (s : State) : (openPacket s).banks = s.banks := by
  unfold openPacket
  split <;> rfl

@[simp] theorem openPacket_xpRamps (s : State) : (openPacket s).xpRamps = s.xpRamps := by
  unfold openPacket
  split <;> rfl

@[simp] theorem openPacket_pods (s : State) : (openPacket s).pods = s.pods := by
  unfold openPacket
  split <;> rfl

@[simp] theorem openPacket_ports (s : State) : (openPacket s).ports = s.ports := by
  unfold openPacket
  split <;> rfl

@[simp] theorem openPacket_auxOut (s : State) : (openPacket s).auxOut = s.auxOut := by
  unfold openPacket
  split <;> rfl

@[simp] theorem openPacket_mix (s : State) : (openPacket s).mix = s.mix := by
  unfold openPacket
  split <;> rfl

@[simp] theorem openPacket_outputsDue (s : State) : (openPacket s).outputsDue = s.outputsDue := by
  unfold openPacket
  split <;> rfl

@[simp] theorem openPacket_freeCount (s : State) : (openPacket s).freeCount = s.freeCount := by
  unfold openPacket
  split <;> rfl

@[simp] theorem openPacket_pending (s : State) : (openPacket s).pending = s.pending := by
  unfold openPacket
  split <;> rfl

/-- A packet start leaves the interface in HEADER unless the part owns the line (R182). -/
theorem openPacket_rx (h : hostOwnsLine s) : (openPacket s).ctl.rx = .header := by
  unfold openPacket
  split
  · exact absurd ‹_› (h _ _)
  all_goals rfl

/-- A host command's packet, while the host owns the line: its start, then its judgement (R186). -/
theorem hostPacket_owned (h : hostOwnsLine s) :
    hostPacket code take s = settle code false (openPacket s) (take (openPacket s)) := by
  unfold hostPacket
  split
  · exact absurd ‹_› (h _ _)
  · rfl

/-- While the part owns the line a host command's packet is not received (R190). -/
theorem hostPacket_answering {as : List Answer} (h : s.ctl.rx = .answering as r) : hostPacket code take s = s := by
  simp [hostPacket, h]

/-- A write taken (R186, R188). -/
theorem hostPacket_write (h : hostOwnsLine s) (hc : readCode code = false) (ht : take (openPacket s) = .write s') :
    hostPacket code take s = { s' with ctl := { rx := .idle, errors := s'.ctl.errors } } := by
  simp [hostPacket_owned h, ht, settle, owe, hc, Taken.write, Reply.plain]

/-- A write refused (R186, R188). -/
theorem hostPacket_refused (h : hostOwnsLine s) (hc : readCode code = false) (ht : take (openPacket s) = .refused k) :
    hostPacket code take s = refusedWith k s := by
  simp [hostPacket_owned h, ht, settle, owe, hc, Reply.plain, refusedWith, State.addError]

/-- A read taken (R186, R188). -/
theorem hostPacket_read (h : hostOwnsLine s) (hc : readCode code = true) (ht : take (openPacket s) = .taken r s') :
    hostPacket code take s = { s' with ctl := { rx := .owed code r, errors := s'.ctl.errors } } := by
  simp [hostPacket_owned h, ht, settle, owe, hc]

/-- A read refused (R186, R188). -/
theorem hostPacket_refusedRead (h : hostOwnsLine s) (hc : readCode code = true)
    (ht : take (openPacket s) = .refused k) : hostPacket code take s = refusedRead code k s := by
  simp [hostPacket_owned h, ht, settle, owe, hc, refusedRead, State.addError]

/-! ### Answers sent (R190) -/

/-- The sending of one answer clears no more than the counters it names, and empties no more than the error set. -/
theorem carryOut_rest (a : Answer) (r : Reply) (s : State) :
    { carryOut a r s with feeds := s.feeds, pods := s.pods, ports := s.ports, ctl := s.ctl } = s := by
  unfold carryOut
  split
  · split
    · rename_i t _
      cases t <;> rfl
    · rfl
  · rfl
  · rfl

/-- An answer sent with none behind it hands the line back; with others behind it the part goes on answering. -/
theorem answerSent_cons (a : Answer) (rest : List Answer) (r : Reply) (s : State) :
    rest = [] ∧ answerSent (a :: rest) r s = handBack r (carryOut a r s) ∨
      rest ≠ [] ∧ answerSent (a :: rest) r s
        = { carryOut a r s with ctl := { rx := .answering rest r, errors := (carryOut a r s).ctl.errors } } := by
  cases rest with
  | nil => exact .inl ⟨rfl, rfl⟩
  | cons b rest => exact .inr ⟨nofun, rfl⟩

/-- The number a byte of `byteOf` names. -/
theorem numberBelow_byteOf {n : Nat} (i : Fin n) (hn : n ≤ 256) : numberBelow n (byteOf i) = some i := by
  have h : (byteOf i).toNat = i.val := by
    simp only [byteOf, BitVec.toNat_ofNat]
    exact Nat.mod_eq_of_lt (by omega)
  simp [numberBelow, h]

/-- A byte that names no number below n. -/
theorem numberBelow_out {n : Nat} {b : Byte} (h : n ≤ b.toNat) : numberBelow n b = none := by
  simp [numberBelow, Nat.not_lt.mpr h]

end Sys2Proof.Machine
end

