-- ==== Sys2Proof/Laws/PerInstr.lean ====
section
/-! SUPPORT. Per-instruction family `WordCounts`: a well-formed row that is a long host command has a payload of 1 to
256 words, the word counts a packet header can name (R183, R201). -/

namespace Sys2Proof.Laws.WordCounts

open Sys2Proof.Machine

/-- The payload of the host command that a well-formed row is, when its packet is long, has 1 to 256 words. -/
def Statement (i : Instr) : Prop :=
  ∀ c ws, hostInstr c = i → i.wf = true → c.body = .long ws → 1 ≤ ws.length ∧ ws.length ≤ 256

/-- A row of a host command is well-formed when the command is. -/
theorem hostInstr_wf (c : HostCmd) : (hostInstr c).wf = c.wf := by cases c <;> rfl

/-- Two words a pair. -/
theorem pairWords_length (ps : List (Word × Word)) : (pairWords ps).length = 2 * ps.length := by
  induction ps with
  | nil => rfl
  | cons p rest ih => simp only [pairWords, List.length_cons, ih]; omega

/-- The word counts of a command that a packet can carry. -/
theorem body_length (c : HostCmd) (h : c.wf = true) (ws : List Word) (hb : c.body = .long ws) :
    1 ≤ ws.length ∧ ws.length ≤ 256 := by
  cases c <;> simp only [HostCmd.body, PacketBody.long.injEq, reduceCtorEq] at hb <;> subst hb <;>
    simp [HostCmd.wf, pairWords_length] at h ⊢ <;> omega

/-- The statement of every row, from the command it is. -/
theorem of_command (i : Instr) : Statement i := by
  rintro c ws rfl hw hb
  exact body_length c ((hostInstr_wf c).symm.trans hw) ws hb

theorem srcAttach (slot : Byte) (chair : Bool) (origin : BitVec 7) (trim : Word) (groups : Groups) :
    Statement (.srcAttach slot chair origin trim groups) :=
  of_command _

theorem srcRetire (slot : Byte) : Statement (.srcRetire slot) :=
  of_command _

theorem srcTrim (slot : Byte) (trim : Byte) : Statement (.srcTrim slot trim) :=
  of_command _

theorem srcGroups (slot : Byte) (groups : Groups) : Statement (.srcGroups slot groups) :=
  of_command _

theorem srcGet (slot : Byte) : Statement (.srcGet slot) :=
  of_command _

theorem srcMute (slot : Byte) (on : Bool) : Statement (.srcMute slot on) :=
  of_command _

theorem grpMute (group : Byte) (on : Bool) : Statement (.grpMute group on) :=
  of_command _

theorem roomMute (on : Bool) : Statement (.roomMute on) :=
  of_command _

theorem muteGet : Statement (.muteGet) :=
  of_command _

theorem floorGet : Statement (.floorGet) :=
  of_command _

theorem floorReset : Statement (.floorReset) :=
  of_command _

theorem feedAttach (slot : Byte) (dest : Byte) (master : Word) (excluded : Groups) :
    Statement (.feedAttach slot dest master excluded) :=
  of_command _

theorem feedRetire (slot : Byte) : Statement (.feedRetire slot) :=
  of_command _

theorem feedLevel (slot : Byte) (master : Word) : Statement (.feedLevel slot master) :=
  of_command _

theorem feedMute (slot : Byte) (on : Bool) : Statement (.feedMute slot on) :=
  of_command _

theorem feedExclude (slot : Byte) (groups : Groups) : Statement (.feedExclude slot groups) :=
  of_command _

theorem feedGet (slot : Byte) : Statement (.feedGet slot) :=
  of_command _

theorem bankSwap : Statement (.bankSwap) :=
  of_command _

theorem bankCopy : Statement (.bankCopy) :=
  of_command _

theorem bankGet : Statement (.bankGet) :=
  of_command _

theorem paramSet (pairs : List (Word × Word)) : Statement (.paramSet pairs) :=
  of_command _

theorem paramGet (bank : Byte) : Statement (.paramGet bank) :=
  of_command _

theorem xpWindow (feedStart feedEnd srcStart srcEnd : Byte) (order : Word) (feedRev srcRev : Bool) :
    Statement (.xpWindow feedStart feedEnd srcStart srcEnd order feedRev srcRev) :=
  of_command _

theorem xpPut (words : List Word) : Statement (.xpPut words) :=
  of_command _

theorem xpPutNext (words : List Word) : Statement (.xpPutNext words) :=
  of_command _

theorem xpTake (count : Word) : Statement (.xpTake count) :=
  of_command _

theorem xpTakeNext (count : Word) : Statement (.xpTakeNext count) :=
  of_command _

theorem podSetup (link : Byte) (depth : Byte) : Statement (.podSetup link depth) :=
  of_command _

theorem podGet (link : Byte) : Statement (.podGet link) :=
  of_command _

theorem portGet (port : Byte) : Statement (.portGet port) :=
  of_command _

theorem noteGet : Statement (.noteGet) :=
  of_command _

theorem noteMask (mask : Byte) : Statement (.noteMask mask) :=
  of_command _

theorem countGet (kind : Byte) (number : Byte) : Statement (.countGet kind number) :=
  of_command _

theorem engineReset : Statement (.engineReset) :=
  of_command _

theorem powerOnReset : Statement (.powerOnReset) :=
  of_command _

theorem packetStart : Statement (.packetStart) :=
  of_command _

theorem headerComplete (b0 b1 b2 b3 b4 : Byte) : Statement (.headerComplete b0 b1 b2 b3 b4) :=
  of_command _

theorem payloadComplete (words : List Word) (check : Word) : Statement (.payloadComplete words check) :=
  of_command _

theorem turnaround : Statement (.turnaround) :=
  of_command _

theorem answerSent : Statement (.answerSent) :=
  of_command _

theorem mixBlockStart (aux : Vector Block 8) : Statement (.mixBlockStart aux) :=
  of_command _

theorem clockLoss (port : FarPort) : Statement (.clockLoss port) :=
  of_command _

theorem swapEffect : Statement (.swapEffect) :=
  of_command _

theorem stampExpiry : Statement (.stampExpiry) :=
  of_command _

theorem measurement (slot : SrcSlot) : Statement (.measurement slot) :=
  of_command _

theorem noiseFloorCreep (slot : SrcSlot) : Statement (.noiseFloorCreep slot) :=
  of_command _

theorem alert (slot : SrcSlot) : Statement (.alert slot) :=
  of_command _

theorem holdExpiry (slot : SrcSlot) : Statement (.holdExpiry slot) :=
  of_command _

theorem rampEnd (owner : RampOwner) : Statement (.rampEnd owner) :=
  of_command _

theorem sourceRetirementCompletion (slot : SrcSlot) : Statement (.sourceRetirementCompletion slot) :=
  of_command _

theorem feedRetirementCompletion (slot : FeedSlot) : Statement (.feedRetirementCompletion slot) :=
  of_command _

theorem crosspointRampsEnd : Statement (.crosspointRampsEnd) :=
  of_command _

theorem feedsFormed : Statement (.feedsFormed) :=
  of_command _

theorem huntMatch (link : PodLink) (searched : List Byte) (header : PodHeader) :
    Statement (.huntMatch link searched header) :=
  of_command _

theorem presyncJudgement (link : PodLink) (header : PodHeader) (audio : Vector Byte 1152) :
    Statement (.presyncJudgement link header audio) :=
  of_command _

theorem goodFrameInSync (link : PodLink) (header : PodHeader) (audio : Vector Byte 1152) :
    Statement (.goodFrameInSync link header audio) :=
  of_command _

theorem badFrameInSync (link : PodLink) (header : PodHeader) : Statement (.badFrameInSync link header) :=
  of_command _

theorem codecPulse (port : FarPort) (sample : Sample) : Statement (.codecPulse port sample) :=
  of_command _

end Sys2Proof.Laws.WordCounts
end

