-- ==== Sys2Proof/Tests/Slice0.lean ====
section
/-! SUPPORT. Tests of the model against the spec's own tables and worked examples, the WellFormed smoke test, and a
witness for the hypotheses of each obligation. -/

namespace Sys2Proof.Tests

open Sys2Proof.Machine

set_option maxRecDepth 20000

/-! ### Small states -/

/-- The state a command leaves. -/
def after (c : Instr) (s : State) : State :=
  match exec c s with
  | .next t => t
  | .fault r => nomatch r
  | .refused _ => s

/-- The receive state replaced. -/
def withRx (r : LinkState) (s : State) : State := { s with ctl := { s.ctl with rx := r } }

/-- An ACTIVE source with a given gain, attached to an origin. -/
def talker (o : Origin) (c : SrcClass) (f : FloorState) (gain : Int) : Source :=
  { Source.free with
    state := .active, origin := some o, cls := some c, floorState := some f, gain := ⟨gain, gain, none⟩ }

/-- A source whose fade to OFF has begun. -/
def leaver (o : Origin) : Source :=
  { talker o .delegate .closed (-36) with
    state := .retiring, gain := ⟨-36, -192, some ⟨-36, 16, 0⟩⟩ }

/-- An ACTIVE feed. -/
def listener (d : Destination) (gain : Int) : Feed :=
  { Feed.free 0 with state := .active, dest := some d, master := gain, gain := ⟨gain, gain, none⟩ }

/-- A small hall: a chair OPEN in slot 0, delegates in HOLD, PENDING and CLOSED in slots 1 to 3, a programme source in slot
5, a RETIRING delegate in slot 79; one feed to a far site, one RETIRING. -/
def hall : State :=
  { State.reset with
    srcs := (((((State.reset.srcs.set 0 { talker (.pod 0 0) .chair .opened (-6) with voice := .voiced }).set 1
      (talker (.pod 0 1) .delegate (.hold 0) (-6))).set 2
      { talker (.pod 1 0) .delegate .pending (-36) with voice := .voiced }).set 3
      (talker (.pod 1 1) .delegate .closed (-36))).set 5 (talker (.aux 7) .program .ungated 0)).set 79
      (leaver (.pod 15 3))
    feeds := (State.reset.feeds.set 0 (listener (.farSend 0) 0)).set 31
      { listener (.auxOut 7) 0 with state := .retiring, gain := ⟨-96, -192, some ⟨0, 16, 8⟩⟩ }
    floor := ⟨[0, 1], [], [2], [⟨0, true⟩], 7⟩ }

/-! ### WellFormed: every check refuses an ill-formed term -/

theorem test_wf_pairs : (Instr.paramSet []).wf = false ∧ (Instr.paramSet (List.replicate 129 (1, 1))).wf = false := by
  decide

theorem test_wf_words :
    (Instr.xpPut []).wf = false ∧ (Instr.xpPut (List.replicate 257 0)).wf = false ∧
    (Instr.xpPutNext []).wf = false ∧ (Instr.xpPutNext (List.replicate 257 0)).wf = false := by decide

theorem test_wf_payload :
    (Instr.payloadComplete [] 0).wf = false ∧ (Instr.payloadComplete (List.replicate 257 0) 0).wf = false := by decide

theorem test_wf_headers :
    (Instr.huntMatch 0 [] ⟨0x3A, 0, 0, crc8 [0x3A, 0, 0]⟩).wf = false ∧
    (Instr.huntMatch 0 [0x3A, 1, 0, crc8 [0x3A, 1, 0]] ⟨0x3A, 1, 0, crc8 [0x3A, 1, 0]⟩).wf = false ∧
    (Instr.goodFrameInSync 0 ⟨0x3B, 1, 0, crc8 [0x3B, 1, 0]⟩ (Vector.replicate 1152 0)).wf = false ∧
    (Instr.badFrameInSync 0 ⟨0x3A, 4, 0, crc8 [0x3A, 4, 0]⟩).wf = false := by decide

/-! ### Data formats (chapter 11) -/

/-- The check of a header with d0 alone set: position 3, so c0 and c1, and three bits set give c6 (R202). -/
theorem test_headerCheck_d0 : headerCheck 1 = 0x43 := by decide

/-- d31 stands at position 38 = 100110 in binary: c1, c2, c5, and four bits set leave c6 off (R202). -/
theorem test_headerCheck_d31 : headerCheck 0x80000000 = 0x26 := by decide

/-- The well-known check value of the generator of R203 with its register at all ones, over the text 123456789. -/
theorem test_crc16_generator :
    [0x31, 0x32, 0x33, 0x34, 0x35, 0x36, 0x37, 0x38, 0x39].foldl (crcByte 0x1021) (0xFFFF : Word) = 0x29B1 := by decide

/-- The well-known check value of the generator of R208 with its register at 0, over the text 123456789. -/
theorem test_crc8_generator : crc8 [0x31, 0x32, 0x33, 0x34, 0x35, 0x36, 0x37, 0x38, 0x39] = 0xF4 := by decide

/-- SRC.ATTACH 12, POD(3,1), chair flag off, trim -4, groups {2} (example 1.7.1) packed by hand from R204. -/
theorem test_decode_srcAttach :
    decodePacket 0x01 (.long [0x0C0D, 0xFFFC, 0x0004]) = .ok (.srcAttach 12 false 13 0xFFFC 4) := by decide

/-- XP.WINDOW of feeds 3 to 5, sources 10 to 20, SOURCE-MAJOR, source-reverse on, packed by hand from R204. -/
theorem test_decode_xpWindow :
    decodePacket 0x38 (.long [0x0305, 0x0A14, 1, 2]) = .ok (.xpWindow 3 5 10 20 1 false true) := by decide

/-- Element 1's sample 2 stands at bytes 294 to 296 behind the header, most significant first (R148, R207). -/
theorem test_elementBlock :
    (elementBlock (Vector.ofFn fun k => BitVec.ofNat 8 k.val) 1)[2] = 0x262728 ∧
    sampleBytes 0x262728 = [0x26, 0x27, 0x28] := by decide

/-- A byte goes out most significant bit first (R200). -/
theorem test_lineBits : lineBits [0x81, 0x40] =
    [true, false, false, false, false, false, false, true, false, true, false, false, false, false, false, false] := by
  decide

/-- Bits that are not read change nothing: SRC.MUTE's P2 bits 7 to 1, NOTE.MASK's P1, FEED.LEVEL's high byte (R204). -/
theorem test_decode_unread :
    decodePacket 0x06 (.short 5 0xFF) = .ok (.srcMute 5 true) ∧ decodePacket 0x51 (.short 9 3) = .ok (.noteMask 3) ∧
    decodePacket 0x22 (.long [0xAB05, 7]) = .ok (.feedLevel 5 7) := by decide

/-- The counts of R186's first two checks: an unknown code, a long command's code in a short packet. -/
theorem test_decode_refused :
    decodePacket 0x07 (.short 0 0) = .error .unknownCmd ∧ decodePacket 0x01 (.short 0 0) = .error .length := by decide

/-! ### Sources (chapter 1) -/

/-- Example 1.7.1: the room before slot 12 is attached. -/
def room : State :=
  { State.reset with
    srcs := (State.reset.srcs.set 5 (talker (.pod 0 0) .delegate .opened (-6))).set 40
      (talker (.pod 0 1) .delegate .opened (-6))
    floor := ⟨[5, 40], [], [], [], 0⟩ }

/-- Example 1.7.1: trim -4 gives target -4 - 30 - 6, and a fade-in of 16 blocks. -/
theorem test_srcAttach_example :
    (after (.srcAttach 12 false 13 0xFFFC 4) room).srcs[12].gain = ⟨-192, -40, some ⟨-192, 16, 0⟩⟩ ∧
    (after (.srcAttach 12 false 13 0xFFFC 4) room).srcs[12].trim = -4 := by decide

/-- Example 1.7.2: the room before slot 12 is retired. -/
def fullRoom : State :=
  { room with
    srcs := room.srcs.set 12 { talker (.pod 3 1) .delegate .opened (-14) with trim := -4 }
    floor := ⟨[5, 40, 12], [], [], [], 0⟩ }

/-- Example 1.7.2: slot 12 leaves the list and fades from -14; 5 and 40 are retargeted to -6; FLOOR is set. -/
theorem test_srcRetire_example :
    (after (.srcRetire 12) fullRoom).srcs[12].gain = ⟨-14, -192, some ⟨-14, 16, 0⟩⟩ ∧
    (after (.srcRetire 12) fullRoom).floor.list = [5, 40] ∧
    (after (.srcRetire 12) fullRoom).srcs[40].gain.target = -6 ∧
    (after (.srcRetire 12) fullRoom).notice.set.floor = true := by decide

/-- The used gains of example 1.7.2's fade. -/
theorem test_ramp_example :
    [1, 2, 8, 15, 16].map (fun j => rampUsed (-14) (-192) j 16) = [-25, -36, -103, -180, -192] := by decide

/-! ### Level Monitor (chapter 2) -/

set_option exponentiation.threshold 500 in
/-- Rows of the table of R20. -/
theorem test_blockLevel_table :
    levelOfSum (96 * 4194304 ^ 2) = 188 ∧ levelOfSum (96 * 838861 ^ 2) = 160 ∧ levelOfSum (96 * 8389 ^ 2) = 80 ∧
    levelOfSum (96 * 84 ^ 2) = 0 := by decide

/-- The table of R22. -/
theorem test_moveLevel_table :
    moveLevel .default 140 400 = 760 ∧ moveLevel .default 40 941 = 922 ∧ moveLevel .default 140 1119 = 1120 ∧
    moveLevel .default 0 20 = 19 ∧ moveLevel .default 95 760 = 760 := by decide

/-- The 50th block in which S stands above N raises N (R24), and the default drop-out of R26 at N = 380 is below 492. -/
theorem test_noise_and_voice :
    (moveNoise .default { Source.free with s := 10, n := 3, creep := 49 }).n = 4 ∧
    decideVoice .default { Source.free with s := 492, n := 380, voice := .voiced } = .voiced ∧
    decideVoice .default { Source.free with s := 491, n := 380, voice := .voiced } = .quiet ∧
    decideVoice .default { Source.free with s := 540, n := 380 } = .voiced := by decide

/-- A count above a swap's new TwmBlocks turns no ALERT on before a measurement raises it (R36). -/
theorem test_alert_needs_a_rise :
    let x := { talker (.aux 0) .program .ungated 0 with voice := .voiced, effMute := true, twm := 300 }
    (after (.alert 4) (State.reset.setSrc 4 x)).srcs[4].alert = false ∧
    (moveTwm .default .voiced x).alert = true := by decide

/-! ### Mutes and the floor (chapters 3 and 4) -/

/-- SRC.MUTE on takes slot 1 off the hall's floor, and pending service admits slot 2 in its place (R41, R65, R70). -/
theorem test_srcMute_hall :
    (after (.srcMute 1 true) hall).floor.list = [0, 2] ∧ (after (.srcMute 1 true) hall).floor.delegates = [] ∧
    (after (.srcMute 1 true) hall).srcs[1].floorState = some .closed ∧
    (after (.srcMute 1 true) hall).srcs[1].gain.target = -192 := by decide

/-- ROOM.MUTE on mutes a delegate and leaves a chair (R38, R45). -/
theorem test_roomMute :
    let s : State := { State.reset with
      srcs := (State.reset.srcs.set 0 (talker (.pod 0 0) .chair .closed (-30))).set 1
        (talker (.pod 0 1) .delegate .closed (-30)) }
    (after (.roomMute true) s).srcs[0].effMute = false ∧ (after (.roomMute true) s).srcs[1].effMute = true := by decide

/-- FLOOR.RESET empties the hall's floor and keeps the block number (R82). -/
theorem test_floorReset_hall :
    (after .floorReset hall).floor = ⟨[], [], [], [], 7⟩ ∧
    (after .floorReset hall).srcs[0].gain.target = -30 := by decide

/-- Example 4.9.2: chair 9 meets a full floor of OPEN delegates and an exhausted window. -/
theorem test_admission_example :
    let s : State :=
      { State.reset with
        srcs := (((((State.reset.srcs.set 1 (talker (.pod 0 0) .delegate .opened 0)).set 4
          (talker (.pod 0 1) .delegate .opened 0)).set 5 (talker (.pod 0 2) .delegate .opened 0)).set 6
          (talker (.pod 0 3) .delegate .pending 0)).set 9 (talker (.pod 1 0) .chair .closed 0))
        banks := { State.reset.banks with a := { Bank.default with params := { Params.default with maxOpen := 3 } } }
        floor := ⟨[1, 4, 5], [], [6], [⟨2000, true⟩, ⟨2010, true⟩, ⟨2020, true⟩, ⟨2030, true⟩], 2050⟩ }
    (attempt 9 s).floor
      = ⟨[4, 5, 9], [], [1, 6], [⟨2010, true⟩, ⟨2020, true⟩, ⟨2030, true⟩, ⟨2050, true⟩], 2050⟩ := by decide

/-- The table of R75. -/
theorem test_nom_table : (List.range 9).map nom = [0, 0, 6, 10, 12, 14, 16, 17, 18] := by decide

/-! ### Feeds, gains and the mix (chapters 5 and 6) -/

/-- FEED.ATTACH with a master above the range: clamped to +24, fading in over 16 blocks (R88, R101). -/
theorem test_feedAttach_clamps :
    (after (.feedAttach 31 31 100 0) State.reset).feeds[31].gain = ⟨-192, 24, some ⟨-192, 16, 0⟩⟩ := by decide

/-- Durations at the ends of the ranges of R106. -/
theorem test_rampDuration : [1, 2, 3, 12, 13, 216].map rampDuration = [1, 1, 4, 4, 16, 16] := by decide

/-- Rows of the table of R114. -/
theorem test_coefficient_table :
    [24, 12, 6, 0, -2, -20, -60, -120, -168, -169].map coefficient
      = [32613, 16345, 11572, 8192, 7301, 2591, 259, 8, 1, 0] := by decide

/-- The table of R116. -/
theorem test_scaleSum_table :
    [6549600000, -6549600000, 12288, -12288, 4095, -4096, -4097].map scaleSum
      = [799512, -799512, 2, -1, 0, 0, -1] := by decide

/-! ### Banks and the matrix (chapter 7) -/

/-- AdmitWindow written as 9000 is stored as 5000, and MaxOpen written as 0 as 1 (R124). -/
theorem test_paramSet_clamps :
    (after (.paramSet [(10, 9000), (1, 0)]) State.reset).banks.b.params.admitWindow = 5000 ∧
    (after (.paramSet [(10, 9000), (1, 0)]) State.reset).banks.b.params.maxOpen = 1 := by decide

/-- A Margin lowered below the Hysteresis lowers it, and raising it does not raise it again (R125). -/
theorem test_paramSet_margin :
    (after (.paramSet [(5, 4), (5, 30)]) State.reset).banks.b.params.hysteresis = 4 := by decide

/-- A window of 2 feeds and 2 sources, SOURCE-MAJOR with feed-reverse: its walk by hand from R138. -/
theorem test_walk :
    (Window.mk 3 4 10 11 .sourceMajor true false).walk = [(4, 10), (3, 10), (4, 11), (3, 11)] := by decide

/-- Three words over a window of two positions: the last word stays on the first pair (R141, R143). -/
theorem test_xpPut_wraps :
    let s : State := { State.reset with banks := { State.reset.banks with window := ⟨0, 0, 0, 1, .feedMajor, false, false⟩ } }
    (after (.xpPut [1, 2, 30]) s).banks.b.xp[0][0] = 24 ∧ (after (.xpPut [1, 2, 30]) s).banks.b.xp[0][1] = 2 ∧
    (after (.xpPut [1, 2, 30]) s).banks.cursor = 1 := by decide

/-! ### Links (chapters 8 to 10) -/

/-- A good header of four elements. -/
def good (buttons : Byte) : PodHeader := ⟨0x3A, 4, buttons, crc8 [0x3A, 4, buttons]⟩

/-- A header whose check does not agree. -/
def bad : PodHeader := ⟨0x3A, 4, 0, crc8 [0x3A, 4, 0] ^^^ 1⟩

/-- The second good header in PRESYNC, with the default depth 2, is the entry into SYNC (R153). -/
theorem test_presync_enters :
    let s := State.reset.setPod 0 { Pod.reset with framing := .presync, goodRun := 1, elements := 4 }
    (after (.presyncJudgement 0 (good 0) (Vector.replicate 1152 0)) s).pods[0].framing = .sync ∧
    (after (.presyncJudgement 0 (good 0) (Vector.replicate 1152 0)) s).pods[0].goodFrames = 1 := by decide

/-- The fourth bad header in a row loses the link (R158, R159). -/
theorem test_badFrame_fourth :
    let s := State.reset.setPod 0 { Pod.reset with framing := .sync, badRun := 3 }
    (after (.badFrameInSync 0 bad) s).pods[0].framing = .hunt ∧
    (after (.badFrameInSync 0 bad) s).pods[0].syncLosses = 1 ∧
    (after (.badFrameInSync 0 bad) s).notice.set.podLink = true := by decide

/-- The 96th pulse in PRIMING with one block held starts the port (R173). -/
theorem test_codecPulse_runs :
    let s := State.reset.setPort 7 { Port.reset with state := .priming, input := [silence], fill := 95, idle := 0 }
    (after (.codecPulse 7 1) s).ports[7].state = .running ∧ (after (.codecPulse 7 1) s).ports[7].fill = 0 := by decide

/-- Example 10.8.1: slot 79 is RETIRING, slot 30 FREE; SRC.GET as a long packet owes an answer. -/
theorem test_errors_example :
    (after (.srcTrim 79 0) hall).ctl.errors.busy = true ∧ (after (.srcMute 30 true) hall).ctl.errors.notAttached = true ∧
    (after (.payloadComplete [30] (crc16 [30])) (withRx (.payload false 0x05 1) hall)).ctl
      = ⟨.owed 0x05 .plain, ErrSet.none.add .length⟩ := by decide

/-- Example 10.8.2: an abandoned NOTE.GET returns FLOOR and SLIP beside BUTTON. -/
theorem test_noteGet_abandoned :
    let s := ((State.reset.addNotice .floor).addNotice .slip)
    let t := (after .noteGet s).addNotice .button
    (after .noteGet s).notice.attention = false ∧
    (after .packetStart t).notice.set = ((NoticeSet.none.add .floor).add .slip).add .button := by decide

/-- Example 10.8.3: a counter read at 40 is cleared after it has become 43. -/
theorem test_countGet_example :
    let s := State.reset.setFeed 5 (.free 40)
    let t := (after (.countGet 2 5) s).setFeed 5 (.free 43)
    (after .turnaround t).ctl.rx = .answering [.data 0x52 [40]] { dataReply [40] with clears := some (.feed 5) } ∧
    (after .answerSent (after .turnaround t)).feeds[5].clips = 0 := by decide

/-- With an error standing, the DATA's sending clears the counter and the ERROR REPORT's empties the error set (R190). -/
theorem test_countGet_with_errors :
    let s := (State.reset.setFeed 5 (.free 40)).addError .bound
    let t := after .answerSent (after .turnaround (after (.countGet 2 5) s))
    t.feeds[5].clips = 0 ∧ t.ctl.errors.bound = true ∧
    (after .answerSent (t.setFeed 5 (.free 2))).feeds[5].clips = 2 ∧
    (after .answerSent (t.setFeed 5 (.free 2))).ctl = ⟨.idle, .none⟩ := by decide

/-! ### Witnesses: states and operands that meet the hypotheses of the obligations -/

theorem owns_reset : hostOwnsLine State.reset := by intro as r h; cases h

theorem owns_hall : hostOwnsLine hall := by intro as r h; cases h

theorem witness_StepTakesTheFrontOfTheQueue :
    ({ hall with pending := [.noteGet, .turnaround] } : State).pending = .noteGet :: [.turnaround] ∧
    hall.pending = [] := by decide

theorem witness_PacketStartInEachReceiveState :
    (withRx .idle hall).ctl.rx = .idle ∧ (withRx .header hall).ctl.rx = .header ∧
    (withRx .discard hall).ctl.rx = .discard ∧ (withRx (.payload true 1 256) hall).ctl.rx = .payload true 1 256 ∧
    (withRx (.owed 0x50 (dataReply [])) hall).ctl.rx = .owed 0x50 (dataReply []) ∧
    (dataReply []).engineReset = false ∧
    (withRx (.owed 0x5F { Reply.plain with engineReset := true }) hall).ctl.rx
      = .owed 0x5F { Reply.plain with engineReset := true } ∧
    (withRx (.answering [] .plain) hall).ctl.rx = .answering [] .plain := by decide

theorem witness_HeaderCheckCorrectsOneErrorAndRefusesTwo :
    judgeHeader (0x00120000 ^^^ BitVec.twoPow 32 31) (headerCheck 0x00120000) = .corrected 0x00120000 ∧
    judgeHeader (0x00120000 ^^^ BitVec.twoPow 32 30 ^^^ BitVec.twoPow 32 31) (headerCheck 0x00120000) = .failed ∧
    judgeHeader 0x00120000 (headerCheck 0x00120000 ^^^ BitVec.twoPow 8 5 ^^^ BitVec.twoPow 8 6) = .failed ∧
    judgeHeader (0x00120000 ^^^ BitVec.twoPow 32 31) (headerCheck 0x00120000 ^^^ BitVec.twoPow 8 6) = .failed := by
  decide

/-- The lines of R202's table at the edges of the content positions, 38 and 39, and at 63, with parity 1. -/
theorem test_syndromes_above_the_positions :
    ((headerCheck 0 ^^^ 0x26 ^^^ headerCheck 0).extractLsb' 0 6).toNat = 38 ∧
    judgeHeader 0 0x26 = .corrected (BitVec.twoPow 32 31) ∧
    judgeHeader 0 0x67 = .failed ∧ judgeHeader 0 0x7F = .failed ∧ judgeHeader 0 0x3F = .failed ∧
    judgeHeader 0 0x40 = .corrected 0 ∧ judgeHeader 0 0x20 = .corrected 0 ∧
    ((0x7F : Byte) ^^^ headerCheck 0).extractLsb' 0 6 = 63 ∧ (List.range 7).countP (0x7F : Byte).getLsbD % 2 = 1 := by
  decide

theorem witness_HeaderCompleteIsJudged :
    hall.ctl.rx ≠ .header ∧ (withRx .header hall).ctl.rx = .header ∧
    judgeHeader (headerContent 0 0x12 0 0) 0 = .failed ∧
    judgeHeader (headerContent 0 0x12 0 1) (headerCheck (headerContent 0 0x12 0 0))
      = .corrected (headerContent 0 0x12 0 0) ∧
    judgeHeader (headerContent 0xC0 0x39 0 255) (headerCheck (headerContent 0xC0 0x39 0 255)) = .correct ∧
    judgeHeader (headerContent 0 0x07 0 0) (headerCheck (headerContent 0 0x07 0 0)) = .correct ∧
    judgeHeader (headerContent 0x40 0x01 0 0) (headerCheck (headerContent 0x40 0x01 0 0)) = .correct ∧
    -- unread bits set: byte 0 bits 5 to 0 and check bit 7; ROOM.MUTE's P1 and P2; GRP.MUTE's P2
    judgeHeader (headerContent 0x3F 0x11 0xFF 0xFF) (headerCheck (headerContent 0x3F 0x11 0xFF 0xFF) ^^^ 0x80) = .correct ∧
    judgeHeader (headerContent 0 0x11 1 0) (headerCheck (headerContent 0 0x11 1 0)) = .correct ∧
    (0xFF : Byte).getLsbD 0 = (1 : Byte).getLsbD 0 ∧ (0x3F : Byte).getLsbD 6 = (0 : Byte).getLsbD 6 ∧
    judgeHeader (headerContent 0 0x10 15 0xFE) (headerCheck (headerContent 0 0x10 15 0xFE)) = .correct ∧
    judgeHeader (headerContent 0 0x10 15 0) (headerCheck (headerContent 0 0x10 15 0)) = .correct ∧
    (0xFE : Byte).getLsbD 0 = (0 : Byte).getLsbD 0 := by decide

theorem witness_PayloadCompleteIsJudged :
    hall.ctl.rx = .idle ∧ (withRx (.payload true 0x39 1) hall).ctl.rx = .payload true 0x39 [(5 : Word)].length ∧
    crc16 [5] ≠ crc16 [5] ^^^ 1 ∧
    (withRx (.payload false 0x33 255) hall).ctl.rx = .payload false 0x33 (List.replicate 255 (1 : Word)).length ∧
    (List.replicate 255 (1 : Word)).length % 2 = 1 ∧
    (withRx (.payload false 0x22 2) hall).ctl.rx = .payload false 0x22 [(0xAB05 : Word), 7].length ∧
    (0xAB05 : Word).extractLsb' 0 8 = (0x0005 : Word).extractLsb' 0 8 ∧
    (withRx (.payload false 0x38 4) hall).ctl.rx = .payload false 0x38 [(0x0305 : Word), 0x0A14, 1, 0xFFFE].length ∧
    (0xFFFE : Word).getLsbD 0 = (2 : Word).getLsbD 0 ∧ (0xFFFE : Word).getLsbD 1 = (2 : Word).getLsbD 1 := by decide

theorem witness_PacketsOfACommandAreTheCommand :
    hostOwnsLine hall ∧ (HostCmd.xpPut (List.replicate 256 1)).wf = true ∧ (HostCmd.paramSet [(1, 1)]).wf = true ∧
    readCode HostCmd.noteGet.code = true ∧ readCode (HostCmd.noteMask 1).code = false :=
  ⟨owns_hall, by decide⟩

theorem witness_PacketBodyReadsBackItsCommand :
    (HostCmd.xpPutNext (List.replicate 256 7)).wf = true ∧ (HostCmd.paramSet (List.replicate 128 (1, 1))).wf = true ∧
    (HostCmd.xpPut [0]).wf = true ∧ ∀ c : HostCmd, c.code ≠ 0x5E :=
  ⟨by decide, by decide, by decide, fun c => by cases c <;> simp [HostCmd.code]⟩

/-- The word 0 of SRC.ATTACH and the words of XP.WINDOW, written out from R204's packing. -/
theorem test_packed_words :
    (HostCmd.srcAttach 79 true 0x35 0xFF88 3).body = .long [0x4FB5, 0xFF88, 3] ∧
    (HostCmd.xpWindow 1 30 2 77 1 false true).body = .long [0x011E, 0x024D, 1, 2] ∧
    (HostCmd.feedAttach 31 24 0 0).body = .long [0x1F18, 0, 0] := by decide

theorem witness_TurnaroundSendsTheOwedAnswers :
    (dataReply [1]).words = some [1] ∧ hall.ctl.errors = .none ∧ (hall.addError .bound).ctl.errors ≠ .none ∧
    Reply.plain.words = none ∧ Reply.plain.clears = none ∧
    (withRx (.answering [.data 0x12 [1], .errorReport 0x12 .none] (dataReply [1])) hall).ctl.rx
      = .answering [.data 0x12 [1], .errorReport 0x12 .none] (dataReply [1]) ∧
    (withRx (.answering [.ack 0x5F] { Reply.plain with engineReset := true }) hall).ctl.rx
      = .answering [.ack 0x5F] { Reply.plain with engineReset := true } := by decide

theorem witness_NoteGetRemovesAndReturnsTheKinds : hostOwnsLine (hall.addNotice .clip) := by intro as r h; cases h

theorem witness_NoteMaskReplacesTheMask : hostOwnsLine hall := owns_hall

theorem witness_CountGetReadsThenClears :
    hostOwnsLine hall ∧ 3 ≤ (3 : Byte).toNat ∧ 16 ≤ (16 : Byte).toNat ∧ 8 ≤ (8 : Byte).toNat ∧
    32 ≤ (32 : Byte).toNat ∧ byteOf (31 : FeedSlot) = 31 ∧
    ({ dataReply [40] with clears := some (.feed 31) } : Reply).engineReset = false ∧
    ({ dataReply [1, 2, 3] with clears := some (.podLink 15) } : Reply).words = some [1, 2, 3] ∧
    (hall.addError .busy).ctl.errors ≠ .none ∧ hall.ctl.errors = .none ∧
    ({ dataReply [1, 2, 3, 4, 5] with clears := some (.farPort 7) } : Reply).clears = some (.farPort 7) ∧
    (withRx (.owed 0x52 { dataReply [40] with clears := some (.feed 31) }) hall).ctl.rx
      = .owed 0x52 { dataReply [40] with clears := some (.feed 31) } :=
  ⟨owns_hall, by decide⟩

theorem witness_ChecksAreTheirGeneratorsAndPositions :
    crc16 [] = 0xFFFF ∧ crc8 [] = 0 ∧ (headerCheck (BitVec.twoPow 32 31)).toNat % 64 = 38 ∧
    0 < 16 * [(1 : Word)].length ∧ 7 < 8 * [(1 : Byte)].length := by decide

theorem witness_FramesAndAnswersAreLaidOut :
    ([0xC5, 0x0F] : List Byte)[1]? = some 0x0F ∧ (List.replicate 256 (7 : Word)).length = 256 ∧
    hostOwnsLine hall ∧ (withRx (.answering [.ack 0x11] .plain) hall).ctl.rx = .answering [.ack 0x11] .plain ∧
    (after .turnaround (withRx (.owed 0x11 .plain) hall)).lineOut.length = 5 :=
  ⟨by decide, by decide, owns_hall, by decide, by decide⟩

theorem witness_SrcGetAndFeedGetReportTheRecord :
    hostOwnsLine hall ∧ hall.srcs[79].creep ≤ 255 ∧ hall.srcs[79].gain.ramp = some ⟨-36, 16, 0⟩ ∧
    hall.feeds[31].gain.ramp = some ⟨0, 16, 8⟩ ∧ 80 ≤ (80 : Byte).toNat ∧ 32 ≤ (32 : Byte).toNat :=
  ⟨owns_hall, by decide⟩

theorem witness_MuteFloorBankParamPodAndPortReads :
    hostOwnsLine hall ∧ 2 ≤ (2 : Byte).toNat ∧ 16 ≤ (16 : Byte).toNat ∧ 8 ≤ (8 : Byte).toNat := ⟨owns_hall, by decide⟩

theorem witness_SlotsOutsideActiveAreRefused :
    hostOwnsLine hall ∧ 80 ≤ (80 : Byte).toNat ∧ hall.srcs[78].state = .free ∧ (78 : Byte) = byteOf (78 : SrcSlot) ∧
    hall.srcs[79].state = .retiring ∧ (79 : Byte) = byteOf (79 : SrcSlot) ∧ 32 ≤ (32 : Byte).toNat ∧
    hall.feeds[30].state = .free ∧ hall.feeds[31].state = .retiring ∧ (31 : Byte) = byteOf (31 : FeedSlot) :=
  ⟨owns_hall, by decide⟩

theorem witness_SrcAttachIsCheckedAndFillsTheRecord :
    hall.srcs[78].state = .free ∧ (∀ j : SrcSlot, hall.srcs[j].state ≠ .free → hall.srcs[j].origin ≠ some (.pod 2 0)) ∧
    (true = true → ∃ l e, Origin.pod 2 0 = .pod l e) ∧ hostOwnsLine hall ∧ 80 ≤ (80 : Byte).toNat ∧ 80 ≤ (80 : BitVec 7).toNat ∧ 64 ≤ (64 : BitVec 7).toNat ∧
    (63 : BitVec 7).toNat < 64 ∧ hall.srcs[79].state ≠ .free ∧ hall.srcs[4].state = .free ∧
    hall.srcs[79].origin = some (.pod 15 3) ∧ originCode (.pod 15 3) = (63 : BitVec 7).toNat ∧
    hall.srcs[5].origin = some (.aux 7) ∧ originCode (.aux 7) = (79 : BitVec 7).toNat ∧
    ∀ j : SrcSlot, hall.srcs[j].origin ≠ some (.far 0) :=
  ⟨by decide, by decide, fun _ => ⟨2, 0, rfl⟩, owns_hall, by decide⟩

theorem witness_SrcTrimRetargetsTheGain : hostOwnsLine hall ∧ hall.srcs[3].state = .active := ⟨owns_hall, by decide⟩

theorem witness_FloorResetClearsTheFloor :
    hostOwnsLine hall ∧ hall.floor.list ≠ [] ∧ hostOwnsLine State.reset ∧ State.reset.floor.list = [] ∧
    State.reset.floor.chairs = [] ∧ State.reset.floor.delegates = [] :=
  ⟨owns_hall, by decide, owns_reset, by decide⟩

theorem witness_FeedAttachIsCheckedAndFillsTheRecord :
    hostOwnsLine hall ∧ 32 ≤ (32 : Byte).toNat ∧ (31 : Byte).toNat = destCode (.auxOut 7) ∧
    hall.feeds[31].state ≠ .free ∧ hall.feeds[31].dest = some (.auxOut 7) ∧ hall.feeds[30].state = .free ∧
    (∀ g : FeedSlot, hall.feeds[g].dest ≠ some (.podSpk 0)) ∧ (0 : Byte).toNat = destCode (.podSpk 0) :=
  ⟨owns_hall, by decide⟩

theorem witness_FeedCommandsOfAnActiveFeed :
    hostOwnsLine hall ∧ hall.feeds[0].state = .active ∧ hall.feeds[0].gain.current ≠ -192 ∧
    (after (.feedAttach 5 5 0 0) State.reset).feeds[5].state = .active ∧
    (after (.feedAttach 5 5 0 0) State.reset).feeds[5].gain.current = -192 := ⟨owns_hall, by decide⟩

/-- The hall with a swap pending. -/
def swapping : State := { hall with banks := { hall.banks with swap := .swapPending } }

theorem owns_swapping : hostOwnsLine swapping := by intro as r h; cases h

theorem witness_BankSwapAndCopyNeedSettled :
    hostOwnsLine hall ∧ hall.banks.swap = .settled ∧ hostOwnsLine swapping ∧ swapping.banks.swap ≠ .settled ∧
    (List.replicate 128 ((1, 1) : Word × Word)).length ≤ 128 ∧ (List.replicate 256 (1 : Word)).length ≤ 256 :=
  ⟨owns_hall, by decide, owns_swapping, by decide⟩

theorem witness_ParamSetWritesClampedParameters :
    hostOwnsLine hall ∧ hall.banks.swap = .settled ∧ [(1 : Word)].length % 2 = 1 ∧ (0 : Word).toNat = 0 ∧
    14 < (15 : Word).toNat ∧ 1 ≤ (14 : Word).toNat ∧ (14 : Word).toNat ≤ 14 ∧
    (List.replicate 64 ((1, 1) : Word × Word)).length + (List.replicate 64 ((14, 1) : Word × Word)).length ≤ 128 :=
  ⟨owns_hall, by decide⟩

/-- A window of one feed and two sources. -/
def narrow : Window := ⟨31, 31, 78, 79, .sourceMajor, true, true⟩

theorem witness_XpWindowReplacesTheWindowAndItsWalk :
    hostOwnsLine hall ∧ 32 ≤ (32 : Byte).toNat ∧ 80 ≤ (80 : Byte).toNat ∧ (3 : Byte).toNat < (4 : Byte).toNat ∧
    2 ≤ (2 : Word).toNat ∧ (31 : Byte) = byteOf (31 : FeedSlot) ∧ (79 : Byte) = byteOf (79 : SrcSlot) ∧
    (31 : FeedSlot) ≤ 31 ∧ (0 : SrcSlot) ≤ 79 ∧ narrow.feedStart ≤ narrow.feedEnd ∧ narrow.srcStart ≤ narrow.srcEnd ∧ 1 < narrow.walk.length ∧
    narrow.order = .sourceMajor ∧ 0 = 1 % (narrow.feedEnd.val - narrow.feedStart.val + 1) ∧
    1 = 1 / (narrow.feedEnd.val - narrow.feedStart.val + 1) := ⟨owns_hall, by decide⟩

/-- The hall with that window, the cursor at its last position. -/
def narrowed : State := { hall with banks := { hall.banks with window := narrow, cursor := 1 } }

theorem owns_narrowed : hostOwnsLine narrowed := by intro as r h; cases h

theorem witness_XpPutWritesAlongTheWalk :
    hostOwnsLine narrowed ∧ narrowed.banks.swap = .settled ∧
    narrowed.banks.window.feedStart ≤ narrowed.banks.window.feedEnd ∧
    narrowed.banks.window.srcStart ≤ narrowed.banks.window.srcEnd ∧
    narrowed.banks.cursor < narrowed.banks.window.walk.length ∧ 1 ≤ [(5 : Word)].length ∧
    (List.replicate 256 (5 : Word)).length ≤ 256 := ⟨owns_narrowed, by decide⟩

theorem witness_XpTakeReadsAlongTheWalk :
    hostOwnsLine narrowed ∧ (0 : Word).toNat = 0 ∧ 256 < (257 : Word).toNat ∧ 1 ≤ (1 : Word).toNat ∧
    (256 : Word).toNat ≤ 256 ∧ narrowed.banks.window.feedStart ≤ narrowed.banks.window.feedEnd ∧
    narrowed.banks.window.srcStart ≤ narrowed.banks.window.srcEnd := ⟨owns_narrowed, by decide⟩

/-! ### States that meet the laws -/

theorem hall_membership : MembershipLaw hall where
  list := by decide
  chairs := by decide
  delegates := by decide
  once := by decide
  unmuted := by decide
  gated := by decide
  ungated := by decide
  retiring := by decide
  free := by decide

/-- The law of the collections looks at the sources and the collections alone. -/
theorem membership_of {s t : State} (h : MembershipLaw s) (hs : t.srcs = s.srcs) (hl : t.floor.list = s.floor.list)
    (hc : t.floor.chairs = s.floor.chairs) (hd : t.floor.delegates = s.floor.delegates) : MembershipLaw t := by
  constructor <;> simp only [hs, hl, hc, hd]
  exacts [h.list, h.chairs, h.delegates, h.once, h.unmuted, h.gated, h.ungated, h.retiring, h.free]

theorem witness_SrcRetireFadesOrFreesTheSource :
    hostOwnsLine hall ∧ hall.srcs[1].state = .active ∧ hall.srcs[1].gain.current ≠ -192 ∧
    (after (.srcAttach 0 false 0 0 0) State.reset).srcs[0].gain.current = -192 ∧ hall.floor.list.Nodup ∧
    hall.floor.chairs.Nodup ∧ hall.floor.delegates.Nodup ∧ (5 : SrcSlot) ∉ hall.floor.list ∧
    (5 : SrcSlot) ∉ hall.floor.chairs ∧ (5 : SrcSlot) ∉ hall.floor.delegates ∧ hall.srcs[5].state = .active ∧ (1 : SrcSlot) ∈ hall.floor.list ∧
    MembershipLaw hall :=
  ⟨owns_hall, by decide, by decide, by decide, by decide, by decide, by decide, by decide, by decide, by decide, by decide,
    by decide, hall_membership⟩

theorem witness_SrcMuteAndSrcGroupsHandOnTheMute :
    hostOwnsLine hall ∧ hall.srcs[0].state = .active ∧ hall.srcs[0].effMute = false ∧ hall.srcs[0].voice = .voiced ∧
    hall.srcs[0].floorClass = true ∧ hall.srcs[5].floorClass = false ∧ hall.srcs[5].state = .active ∧ (0 : SrcSlot) ∈ hall.floor.list ∧
    MembershipLaw hall :=
  ⟨owns_hall, by decide, by decide, by decide, by decide, by decide, by decide, by decide, hall_membership⟩

/-- The hall with its CLOSED delegate of slot 3 VOICED and muted by group 2, and slot 1 in group 3. -/
def mutedHall : State :=
  { (hall.setSrc 1 { hall.srcs[1] with groups := 8 }).setSrc 3
      { hall.srcs[3] with voice := .voiced, effMute := true, groups := 4, gain := ⟨-192, -192, none⟩ } with
    mute := ⟨4, false⟩ }

theorem mutedHall_membership : MembershipLaw mutedHall where
  list := by decide
  chairs := by decide
  delegates := by decide
  once := by decide
  unmuted := by decide
  gated := by decide
  ungated := by decide
  retiring := by decide
  free := by decide

theorem owns_mutedHall : hostOwnsLine mutedHall := by intro as r h; cases h

theorem witness_GrpMuteAndRoomMuteKeepTheMutesDerived :
    hostOwnsLine mutedHall ∧ MembershipLaw mutedHall ∧ 16 ≤ (16 : Byte).toNat ∧
    mutedHall.mute.groups.getLsbD (15 : Fin 16).val = false ∧ mutedHall.mute.room = false ∧
    -- an unmuted VOICED delegate; a muted member, after which the floor is served
    mutedHall.srcs[3].effMute = true ∧ (after (.grpMute 2 false) mutedHall).srcs[3].effMute = false ∧
    mutedHall.srcs[3].state = .active ∧ mutedHall.srcs[3].floorClass = true ∧ mutedHall.srcs[3].voice = .voiced ∧
    (1 : SrcSlot) ∈ mutedHall.floor.list ∧ (after (.grpMute 3 true) mutedHall).srcs[1].effMute = true ∧
    (after (.grpMute 3 true) mutedHall).srcs[3].effMute = true :=
  ⟨owns_mutedHall, mutedHall_membership, by decide⟩

theorem hall_floor : FloorLaw hall := ⟨hall_membership, by decide, by decide⟩

theorem default_params : ParamsLaw .default := by constructor <;> decide

theorem default_bank (f : FeedSlot) (i : SrcSlot) : GainIndex Bank.default.xp[f][i] := by
  simp [Bank.default, Matrix.const, off, GainIndex]

theorem hall_banks : BankLaw hall := by
  intro n
  cases n <;> exact ⟨default_params, default_bank⟩

/-- The hall with its edit bank changed: a floor of one, and one crosspoint. -/
def edited : Bank :=
  ⟨Bank.default.xp.put 31 79 24, { Params.default with maxOpen := 1, admitBurst := 1, creepBlocks := 1 }⟩

/-- The hall with a swap to that bank pending. -/
def swapHall : State := { swapping with banks := { swapping.banks with b := edited } }

theorem hall_targets : TargetLaw hall := by unfold TargetLaw; decide

theorem hall_attention : AttentionLaw (hall.addNotice .clip) := ⟨fun _ => ⟨.clip, rfl, rfl⟩, fun _ => rfl⟩

theorem hall_levels : LevelLaw (hall.setSrc 0 { hall.srcs[0] with s := 1600, n := 1600 }) := by unfold LevelLaw; decide

/-- A gain unit's law, as a check. -/
def gainOk (g : GainUnit) : Bool :=
  decide (-192 ≤ g.current ∧ g.current ≤ 24 ∧ -192 ≤ g.target ∧ g.target ≤ 24) &&
    match g.ramp with
    | none => true
    | some r => decide (-192 ≤ r.start ∧ r.start ≤ 24 ∧ (r.duration = 1 ∨ r.duration = 4 ∨ r.duration = 16) ∧
        r.done ≤ r.duration)

theorem gain_of_check {g : GainUnit} (h : gainOk g = true) : GainUnitLaw g := by
  obtain ⟨c, t, ramp⟩ := g
  cases ramp <;> simp [gainOk] at h
  · exact ⟨⟨h.1, h.2.1⟩, h.2.2, nofun⟩
  · exact ⟨⟨h.1.1, h.1.2.1⟩, h.1.2.2, fun r hr => Option.some.inj hr ▸ ⟨⟨h.2.1, h.2.2.1⟩, h.2.2.2⟩⟩

theorem hall_gains : GainLaw hall := by
  have hs : ∀ i : SrcSlot, gainOk hall.srcs[i].gain = true ∧ -120 ≤ hall.srcs[i].trim ∧ hall.srcs[i].trim ≤ 24 := by
    decide
  have hf : ∀ f : FeedSlot, gainOk hall.feeds[f].gain = true ∧ -192 ≤ hall.feeds[f].master ∧ hall.feeds[f].master ≤ 24 := by
    decide
  exact ⟨fun i => ⟨gain_of_check (hs i).1, (hs i).2⟩, fun f => ⟨gain_of_check (hf f).1, (hf f).2⟩⟩

theorem hall_inUse : ∀ i : SrcSlot, hall.srcs[i].inUse = true → i ∈ [0, 1, 2, 3, 5, 79] := by decide

theorem hall_feedsInUse : ∀ f : FeedSlot, hall.feeds[f].inUse = true → f ∈ [0, 31] := by decide

theorem hall_bindings : BindingLaw hall := by
  have hs : ∀ i ∈ ([0, 1, 2, 3, 5, 79] : List SrcSlot), ∀ j ∈ ([0, 1, 2, 3, 5, 79] : List SrcSlot),
      hall.srcs[i].origin = hall.srcs[j].origin → i = j := by decide
  have hf : ∀ f ∈ ([0, 31] : List FeedSlot), ∀ g ∈ ([0, 31] : List FeedSlot),
      hall.feeds[f].dest = hall.feeds[g].dest → f = g := by decide
  exact ⟨fun i j hi hj _ he => hs i (hall_inUse i hi) j (hall_inUse j hj) he,
    fun f g hi hj _ he => hf f (hall_feedsInUse f hi) g (hall_feedsInUse g hj) he⟩

theorem hall_mutes : MuteLaw hall := by
  have h : ∀ i : SrcSlot, hall.srcs[i].privacy = false ∧ hall.srcs[i].effMute = false ∧
      deriveMute hall.mute hall.srcs[i] = false := by decide
  have hp : ∀ l : PodLink, hall.pods[l].privacy = false := by decide
  exact fun i => ⟨fun _ => (h i).2.1.trans (h i).2.2.symm, fun _ => (h i).2.1,
    fun _ l _ _ => (h i).1.trans (hp l).symm⟩

/-- The hall with pod link 0 in SYNC, three bad headers seen, and far-end port 7 RUNNING with both buffers full. -/
def linked : State :=
  (hall.setPod 0 { Pod.reset with
    framing := .sync, badRun := 3, depth := 3, elements := 4, holding := some [silence], headerErrors := 65535 }).setPort 7
    { Port.reset with
      state := .running, input := List.replicate 4 silence, output := List.replicate 4 silence, primed := true,
      fill := 95, idle := 7 }

theorem linked_records : RecordLaw linked := by
  have hl : ∀ l : PodLink, l ≠ 0 → linked.pods[l] = Pod.reset := by decide
  have hp : ∀ p : FarPort, p ≠ 7 → linked.ports[p] = Port.reset := by decide
  refine ⟨fun l => ?_, fun p => ?_, by decide⟩
  · by_cases h : l = 0
    · subst h; constructor <;> decide
    · rw [hl l h]; constructor <;> decide
  · by_cases h : p = 7
    · subst h; constructor <;> decide
    · rw [hp p h]; constructor <;> decide

/-- A state with a command waiting answers a next state. -/
theorem steps (s : State) (c : Instr) : ∃ t, step { s with pending := [c] } = .next t := by
  have h : ∃ t, exec c { s with pending := [] } = .next t := by cases c <;> exact ⟨_, rfl⟩
  exact h

theorem witness_AttentionLevelBindingAndRecordLawsAreKept :
    AttentionLaw { hall.addNotice .clip with pending := [.noteMask 0] } ∧
    LevelLaw { hall.setSrc 0 { hall.srcs[0] with s := 1600, n := 1600 } with pending := [.measurement 0] } ∧
    BindingLaw { hall with pending := [.srcAttach 78 false 60 0 0] } ∧
    RecordLaw { linked with pending := [.badFrameInSync 0 bad] } ∧
    (∃ t, step { hall.addNotice .clip with pending := [.noteMask 0] } = .next t) ∧
    (∃ t, step { hall with pending := [.srcAttach 78 false 60 0 0] } = .next t) ∧
    ∃ t, step { linked with pending := [.badFrameInSync 0 bad] } = .next t :=
  ⟨hall_attention, hall_levels, hall_bindings, linked_records, steps _ _, steps _ _, steps _ _⟩

/-- The hall in RAMPING from OFF to 0 at every crosspoint, each ramp before its last step. -/
def rampingHall : State :=
  { hall with
    banks := { hall.banks with a := { Bank.default with xp := Matrix.const 0 }, swap := .ramping }
    xpRamps := Matrix.const (some ⟨-192, 0, 16, 15⟩) }

theorem ramping_banks : BankLaw rampingHall := by
  intro n
  cases n
  · exact ⟨default_params, fun f i => by simp [BankStore.bank, rampingHall, Matrix.const, GainIndex]⟩
  · exact ⟨default_params, default_bank⟩

theorem ramping_ramps : XpRampLaw rampingHall := by
  intro f i r h
  obtain rfl : r = ⟨-192, 0, 16, 15⟩ := by simpa [rampingHall, Matrix.const, eq_comm] using h
  have hs : rampingHall.banks.editBank.xp[f][i] = -192 := by
    show Bank.default.xp[f][i] = -192
    simp [Bank.default, Matrix.const, off]
  have ht : rampingHall.banks.opBank.xp[f][i] = 0 := by
    show (Matrix.const (0 : Int))[f][i] = 0
    simp [Matrix.const]
  exact ⟨rfl, ⟨by unfold GainIndex; decide, hs.symm⟩, ⟨by unfold GainIndex; decide, ht.symm⟩, by decide, by decide,
    by decide⟩

theorem witness_BankAndGainLawsAreKept :
    BankLaw { hall with pending := [.bankSwap] } ∧ GainLaw { hall with pending := [.srcTrim 0 24] } ∧
    (BankLaw { rampingHall with pending := [.mixBlockStart (Vector.replicate 8 silence)] } ∧
      XpRampLaw { rampingHall with pending := [.mixBlockStart (Vector.replicate 8 silence)] } ∧
      rampingHall.xpRamps[(31 : FeedSlot)][(79 : SrcSlot)] = some ⟨-192, 0, 16, 15⟩) ∧
    (∃ t, step { hall with pending := [.bankSwap] } = .next t) ∧
    (∃ t, step { rampingHall with pending := [.mixBlockStart (Vector.replicate 8 silence)] } = .next t) ∧
    ∃ t, step { hall with pending := [.srcTrim 0 24] } = .next t :=
  ⟨hall_banks, hall_gains, ⟨ramping_banks, fun f i r h =>
    have k := ramping_ramps f i r h
    ⟨k.ramping, k.start, k.target, k.differ, k.duration, k.done⟩, rfl⟩, steps _ _, steps _ _, steps _ _⟩

theorem hall_monitor : MonitorLaw hall := by unfold MonitorLaw; decide

/-- A ramp's law, as a check. -/
def rampOk (g : GainUnit) : Bool :=
  match g.ramp with
  | none => decide (g.current = g.target)
  | some r => decide (g.current = rampUsed r.start g.target r.done r.duration)

theorem ramp_of_check {g : GainUnit} (h : rampOk g = true) : GainUnitRampLaw g := by
  obtain ⟨c, t, ramp⟩ := g
  cases ramp <;> simp [rampOk] at h
  · exact ⟨fun _ => h, nofun⟩
  · exact ⟨nofun, fun r hr => Option.some.inj hr ▸ h⟩

theorem hall_ramps : RampLaw hall := by
  have hs : ∀ i : SrcSlot, rampOk hall.srcs[i].gain = true := by decide
  have hf : ∀ f : FeedSlot, rampOk hall.feeds[f].gain = true := by decide
  exact ⟨fun i => ramp_of_check (hs i), fun f => ramp_of_check (hf f)⟩

/-- The hall with the hold of slot 1 at its last block. -/
def heldHall : State := hall.setSrc 1 { hall.srcs[1] with floorState := some (.hold 1), inBlock := some silence }

theorem heldHall_floor : FloorLaw heldHall where
  membership := {
    list := by decide, chairs := by decide, delegates := by decide, once := by decide, unmuted := by decide,
    gated := by decide, ungated := by decide, retiring := by decide, free := by decide }
  size := by decide
  stamps := by decide

theorem heldHall_holds : HoldLaw heldHall := by
  have h1 : ∀ i : SrcSlot, i ≠ 1 → isHold heldHall.srcs[i].floorState = false := by decide
  intro i c h
  by_cases e : i = 1
  · subst e
    have hc : some (FloorState.hold 1) = some (.hold c) := h
    cases hc
    decide
  · have := h1 i e
    rw [h] at this
    cases this

theorem witness_CountCursorAndRampLawsAreKept :
    WindowLaw { narrowed with pending := [.xpTakeNext 2] } ∧
    (BankLaw { hall with pending := [.measurement 0] } ∧ MonitorLaw { hall with pending := [.measurement 0] }) ∧
    (FloorLaw { heldHall with pending := [.measurement 1] } ∧ HoldLaw { heldHall with pending := [.measurement 1] }) ∧
    (GainLaw { hall with pending := [.srcTrim 0 24] } ∧ RampLaw { hall with pending := [.srcTrim 0 24] }) ∧
    (∃ t, step { narrowed with pending := [.xpTakeNext 2] } = .next t) ∧
    (∃ t, step { heldHall with pending := [.measurement 1] } = .next t) ∧
    ∃ t, step { hall with pending := [.srcTrim 0 24] } = .next t :=
  ⟨⟨by decide, by decide, by decide⟩, ⟨hall_banks, hall_monitor⟩,
    ⟨⟨membership_of heldHall_floor.membership rfl rfl rfl rfl, heldHall_floor.size, heldHall_floor.stamps⟩,
      heldHall_holds⟩,
    ⟨hall_gains, hall_ramps⟩, steps _ _, steps _ _, steps _ _⟩

theorem witness_MuteLawIsKept :
    MuteLaw { hall with pending := [.roomMute true] } ∧ ∃ t, step { hall with pending := [.roomMute true] } = .next t :=
  ⟨hall_mutes, steps _ _⟩

theorem witness_FloorLawIsKept :
    BankLaw { hall with pending := [.srcMute 1 true] } ∧ FloorLaw { hall with pending := [.srcMute 1 true] } ∧
    ∃ t, step { hall with pending := [.srcMute 1 true] } = .next t :=
  ⟨hall_banks, ⟨membership_of hall_membership rfl rfl rfl rfl, hall_floor.size, hall_floor.stamps⟩, steps _ _⟩

theorem witness_TargetLawIsKept :
    FloorLaw { hall with pending := [.floorReset] } ∧ TargetLaw { hall with pending := [.floorReset] } ∧
    ∃ t, step { hall with pending := [.floorReset] } = .next t :=
  ⟨⟨membership_of hall_membership rfl rfl rfl rfl, hall_floor.size, hall_floor.stamps⟩, hall_targets, steps _ _⟩

/-! ### Witnesses for the events -/

theorem edited_xp (f : FeedSlot) (i : SrcSlot) : GainIndex edited.xp[f][i] := by
  have h : edited.xp[f.val][i.val] = 24 ∨ edited.xp[f.val][i.val] = -192 := by
    simp only [edited, Matrix.put, Bank.default, Matrix.const, off, Vector.getElem_set]
    split
    · rw [Vector.getElem_set]
      split
      · exact .inl rfl
      · simp
    · simp
  obtain h | h := h <;> simp only [Fin.getElem_fin, h] <;> constructor <;> decide

theorem edited_params : ParamsLaw edited.params := by constructor <;> decide

theorem swapHall_banks : BankLaw swapHall
  | .a => ⟨default_params, default_bank⟩
  | .b => ⟨edited_params, edited_xp⟩

theorem witness_SwapEffectExchangesTheBanks :
    hall.banks.swap ≠ .swapPending ∧ swapHall.banks.swap = .swapPending ∧
    swapHall.banks.opBank.xp[(31 : FeedSlot)][(79 : SrcSlot)] ≠ swapHall.banks.editBank.xp[(31 : FeedSlot)][(79 : SrcSlot)] ∧
    swapHall.banks.opBank.xp[(0 : FeedSlot)][(0 : SrcSlot)] = swapHall.banks.editBank.xp[(0 : FeedSlot)][(0 : SrcSlot)] ∧
    swapHall.srcs[0].state = .active ∧ swapHall.srcs[0].floorClass = true ∧ FloorLaw swapHall ∧ BankLaw swapHall :=
  ⟨by decide, by decide, by decide, by decide, by decide, by decide,
    ⟨membership_of hall_membership rfl rfl rfl rfl, by decide, by decide⟩, swapHall_banks⟩

/-- The hall under parameters of its operating bank, with LAST for slot 1. -/
def ledHall (p : Params) : State :=
  { hall.setSrc 1 { hall.srcs[1] with floorState := some .last } with
    banks := { hall.banks with a := { Bank.default with params := p } } }

theorem ledHall_membership (p : Params) : MembershipLaw (ledHall p) := by
  have h : MembershipLaw (ledHall .default) := {
    list := by decide, chairs := by decide, delegates := by decide, once := by decide, unmuted := by decide,
    gated := by decide, ungated := by decide, retiring := by decide, free := by decide }
  exact membership_of h rfl rfl rfl rfl

/-- One member alone on the floor in its HOLD, under a HoldBlocks of 0. -/
def loneHall : State :=
  { State.reset with
    srcs := State.reset.srcs.set 1 (talker (.pod 0 1) .delegate (.hold 9) 0)
    banks := { State.reset.banks with a := { Bank.default with params := { Params.default with holdBlocks := 0 } } }
    floor := ⟨[1], [], [], [], 7⟩ }

theorem loneHall_membership : MembershipLaw loneHall where
  list := by decide
  chairs := by decide
  delegates := by decide
  once := by decide
  unmuted := by decide
  gated := by decide
  ungated := by decide
  retiring := by decide
  free := by decide

theorem witness_SwapAdjustsTheFloorInOrder :
    swapHall.banks.swap = .swapPending ∧ MembershipLaw hall ∧ hall.params.lastMic = true ∧
    -- a LAST member under LastMic off
    MembershipLaw (ledHall { Params.default with lastMic := false, maxOpen := 1 }) ∧
    (1 : SrcSlot) ∈ (ledHall { Params.default with lastMic := false, maxOpen := 1 }).floor.list ∧
    (ledHall { Params.default with lastMic := false, maxOpen := 1 }).srcs[1].floorState = some .last ∧
    (∀ j ∈ (ledHall { Params.default with lastMic := false, maxOpen := 1 }).floor.list,
      (ledHall { Params.default with lastMic := false, maxOpen := 1 }).srcs[j].floorState = some .last → j = 1) ∧
    -- holds under a HoldBlocks of 0: the lone member, and one beside an OPEN member
    MembershipLaw loneHall ∧ loneHall.params.holdBlocks = 0 ∧ loneHall.floor.list = [] ++ [1] ∧
    (∀ j ∈ loneHall.floor.list, isHold loneHall.srcs[j].floorState = true) ∧ loneHall.floor.chairs = [] ∧
    (∃ j ∈ hall.floor.list, isHold hall.srcs[j].floorState = false) ∧
    HoldLaw heldHall ∧ 0 < heldHall.params.holdBlocks ∧ MembershipLaw heldHall ∧
    -- more members than MaxOpen, more stamps than AdmitBurst
    (ledHall { Params.default with lastMic := false, maxOpen := 1 }).params.maxOpen
      < (ledHall { Params.default with lastMic := false, maxOpen := 1 }).floor.list.length ∧
    (ledHall { Params.default with admitBurst := 0 }).params.admitBurst < hall.floor.stamps.length :=
  ⟨by decide, hall_membership, by decide, ledHall_membership _, by decide, by decide, by decide, loneHall_membership,
    by decide, by decide, by decide, by decide, by decide, heldHall_holds, by decide, heldHall_floor.membership,
    by decide, by decide⟩

theorem witness_MixBlockStartDeliversAndSteps :
    linked.srcs[0].state = .active ∧ (∀ j : SrcSlot, j < 0 → linked.srcs[j].state ≠ .active) ∧
    (∀ i : SrcSlot, linked.srcs[i].state = .active → linked.srcs[i].origin ≠ some (.pod 14 0)) ∧
    linked.srcs[0].origin = some (.pod 0 0) ∧ linked.srcs[5].origin = some (.aux 7) ∧
    linked.srcs[4].state = .free ∧ linked.feeds[0].dest = some (.farSend 0) ∧
    (linked.setSrc 6 (talker (.far 7) .remote .ungated 0)).srcs[6].origin = some (.far 7) ∧
    (∃ t, exec .stampExpiry rampingHall = .next t ∧ t.xpRamps[(31 : FeedSlot)][(79 : SrcSlot)] = some ⟨-192, 0, 16, 15⟩) ∧
    ∃ t, exec .stampExpiry { rampingHall with xpRamps := Matrix.const (some ⟨-192, 0, 16, 16⟩) } = .next t ∧
      t.xpRamps[(0 : FeedSlot)][(0 : SrcSlot)] = some ⟨-192, 0, 16, 16⟩ :=
  ⟨by decide, by decide, by decide, by decide, by decide, by decide, by decide, by decide, ⟨_, rfl, by decide⟩,
    ⟨_, rfl, by decide⟩⟩

/-- A crosspoint ramp takes its last step after fifteen, and a spent one stays (R107, R110). -/
theorem test_crosspoint_ramps_step :
    (stepRamps rampingHall).xpRamps[(31 : FeedSlot)][(79 : SrcSlot)] = some ⟨-192, 0, 16, 16⟩ ∧
    XpRamp.step ⟨-192, 0, 16, 16⟩ = ⟨-192, 0, 16, 16⟩ ∧ XpRamp.step ⟨0, 3, 4, 1⟩ = ⟨0, 3, 4, 2⟩ := by decide

theorem witness_MixBlockStartWatchesAndDrainsThePorts :
    linked.ports[0].state = .down ∧ linked.ports[7].state ≠ .down ∧ linked.ports[7].seen = false ∧
    7 ≤ linked.ports[7].idle ∧
    (linked.setPort 7 { linked.ports[7] with idle := 6 }).ports[7].idle < 7 ∧
    (linked.setPort 7 { linked.ports[7] with seen := true, input := [] }).ports[7].seen = true ∧
    (linked.setPort 7 { linked.ports[7] with seen := true, input := [] }).ports[7].input = [] ∧
    (linked.setPort 7 { linked.ports[7] with seen := true, state := .priming }).ports[7].state = .priming := by decide

/-- The hall with a stamp that has reached the admission window of 250 blocks. -/
def staleHall : State := { hall with floor := { hall.floor with block := 250 } }

/-- One member alone on the floor, its hold run out. -/
def lastHall : State :=
  { State.reset with
    srcs := State.reset.srcs.set 1 (talker (.pod 0 1) .delegate (.hold 0) 0)
    floor := ⟨[1], [], [], [], 7⟩ }

theorem witness_StampExpiryAndHoldExpiry :
    (∀ t ∈ hall.floor.stamps, t.live = true → (hall.floor.block - t.block).toNat < hall.params.admitWindow) ∧
    (∃ t ∈ staleHall.floor.stamps, t.live = true ∧
      staleHall.params.admitWindow ≤ (staleHall.floor.block - t.block).toNat) ∧
    MembershipLaw staleHall ∧ hall.srcs[3].floorState ≠ some (.hold 0) ∧ hall.srcs[1].state = .active ∧
    hall.srcs[1].floorClass = true ∧ hall.srcs[1].floorState = some (.hold 0) ∧ hall.floor.list ≠ [1] ∧
    MembershipLaw hall ∧ lastHall.srcs[1].floorState = some (.hold 0) ∧ lastHall.params.lastMic = true ∧
    lastHall.floor.list = [1] ∧ lastHall.floor.chairs = [] ∧ lastHall.floor.delegates = [] :=
  ⟨by decide, by decide, membership_of hall_membership rfl rfl rfl rfl, by decide, by decide, by decide, by decide,
    by decide, hall_membership, by decide⟩

/-- The hall with a floor of two and a given list of stamps. -/
def tightHall (stamps : List Stamp) : State :=
  { hall with
    floor := { hall.floor with stamps := stamps }
    banks := { hall.banks with a := { Bank.default with params := { Params.default with maxOpen := 2 } } } }

/-- A full floor of one OPEN delegate, a chair and a delegate CLOSED. -/
def busyHall : State :=
  { State.reset with
    srcs := ((State.reset.srcs.set 0 (talker (.pod 0 0) .delegate .opened 0)).set 1
      (talker (.pod 0 1) .chair .closed (-30))).set 2 (talker (.pod 0 2) .delegate .closed (-30))
    banks := { State.reset.banks with a := { Bank.default with params := { Params.default with maxOpen := 1 } } }
    floor := ⟨[0], [], [], [], 7⟩ }

theorem busyHall_membership : MembershipLaw busyHall where
  list := by decide
  chairs := by decide
  delegates := by decide
  once := by decide
  unmuted := by decide
  gated := by decide
  ungated := by decide
  retiring := by decide
  free := by decide

theorem witness_AdmissionIsDecidedByTheFloor :
    MembershipLaw hall ∧ hall.srcs[2].state = .active ∧ hall.srcs[2].floorClass = true ∧
    hall.srcs[2].floorState = some .pending ∧ hall.srcs[3].floorState = some .closed ∧
    hall.floor.list.length < hall.params.maxOpen ∧ hall.floor.stamps.countP (·.live) < hall.params.admitBurst ∧
    -- exhausted window, at its boundary, for a CLOSED delegate
    MembershipLaw (tightHall (List.replicate 4 ⟨7, true⟩)) ∧
    (tightHall (List.replicate 4 ⟨7, true⟩)).params.admitBurst
      ≤ (tightHall (List.replicate 4 ⟨7, true⟩)).floor.stamps.countP (·.live) ∧
    (tryAdmit 3 (tightHall (List.replicate 4 ⟨7, true⟩))).isNone = true ∧
    -- a full floor with a HOLD member to evict
    (tightHall (List.replicate 3 ⟨7, true⟩)).params.maxOpen ≤ (tightHall (List.replicate 3 ⟨7, true⟩)).floor.list.length ∧
    (tightHall (List.replicate 3 ⟨7, true⟩)).floor.list = [0] ++ 1 :: [] ∧
    isHold (tightHall (List.replicate 3 ⟨7, true⟩)).srcs[1].floorState = true ∧
    -- a full floor of one OPEN delegate: a delegate fails, a chair evicts
    MembershipLaw busyHall ∧ busyHall.params.maxOpen ≤ busyHall.floor.list.length ∧
    (∀ j ∈ busyHall.floor.list, busyHall.srcs[j].floorState = some .opened) ∧
    busyHall.srcs[2].cls = some .delegate ∧ busyHall.srcs[1].cls = some .chair ∧
    busyHall.floor.list = [] ++ 0 :: [] ∧ busyHall.srcs[0].cls = some .delegate :=
  ⟨hall_membership, by decide, by decide, by decide, by decide, by decide, by decide,
    membership_of hall_membership rfl rfl rfl rfl, by decide, by decide, by decide, by decide, by decide,
    busyHall_membership, by decide⟩

theorem witness_PendingServiceServesUntilItFails :
    MembershipLaw hall ∧ hall.floor.list.length ≤ hall.params.maxOpen ∧
    (hall.floor.chairs ++ hall.floor.delegates).head? = some 2 ∧ (tryAdmit 2 hall).isSome = true ∧
    ((tightHall (List.replicate 4 ⟨7, true⟩)).floor.chairs ++ (tightHall (List.replicate 4 ⟨7, true⟩)).floor.delegates).head?
      = some 2 ∧
    (tryAdmit 2 (tightHall (List.replicate 4 ⟨7, true⟩))).isNone = true ∧
    busyHall.floor.chairs = [] ∧ busyHall.floor.delegates = [] := ⟨hall_membership, by decide⟩

/-- Pending service admits the waiting slot 2 into a free place, and a removal closes slot 0 alone (R65, R69). -/
theorem test_pending_service_admits :
    (pendingService hall).floor.list = [0, 1, 2] ∧ (pendingService hall).floor.delegates = [] ∧
    (pendingService (closeSource 0 hall)).floor.list = [1, 2] := by decide

/-- The hall with a block received by slot 0. -/
def heard (x : Source) : State := hall.setSrc 0 { x with inBlock := some silence }

set_option exponentiation.threshold 500 in
theorem witness_MeasurementMovesTheLevelFields :
    hall.srcs[0].inBlock = none ∧ (heard hall.srcs[0]).srcs[0].state ≠ .free ∧
    (heard hall.srcs[0]).srcs[0].inBlock = some silence ∧ blockLevel silence = 0 ∧
    (heard hall.srcs[0]).srcs[0].s = 8 * blockLevel silence ∧
    8 * blockLevel silence < (heard { hall.srcs[0] with s := 1, n := 1 }).srcs[0].s ∧
    (heard { hall.srcs[0] with s := 1, n := 1 }).srcs[0].inBlock = some silence ∧
    (heard { hall.srcs[0] with effMute := true, twm := 249 }).srcs[0].alert = false ∧
    (heard { hall.srcs[0] with effMute := true, twm := 249 }).params.twmBlocks
      ≤ (heard { hall.srcs[0] with effMute := true, twm := 249 }).srcs[0].twm + 1 := by
  have h : blockLevel silence = 0 := by decide
  rw [h]
  decide

theorem witness_MeasurementActsAtTheFloor :
    MembershipLaw (heard hall.srcs[0]) ∧ (heard hall.srcs[0]).srcs[0].state ≠ .free ∧
    (heard hall.srcs[0]).srcs[0].inBlock = some silence ∧ (heard hall.srcs[0]).srcs[0].floorClass = true ∧
    (heard hall.srcs[0]).srcs[0].floorState = some .opened ∧ 0 < (heard hall.srcs[0]).params.holdBlocks ∧
    (heard hall.srcs[0]).floor.delegates ≠ [] ∧ onFloor (heard hall.srcs[0]).srcs[0].floorState = true ∧
    -- the rows of the other floor states
    hall.srcs[1].floorState = some (.hold 0) ∧ hall.srcs[2].floorState = some .pending ∧
    hall.srcs[3].floorState = some .closed ∧ (ledHall .default).srcs[1].floorState = some .last ∧
    loneHall.srcs[1].floorState = some (.hold 9) ∧ hall.srcs[5].floorClass = false :=
  ⟨{  list := by decide, chairs := by decide, delegates := by decide, once := by decide, unmuted := by decide,
      gated := by decide, ungated := by decide, retiring := by decide, free := by decide },
    by decide⟩

theorem witness_NoiseFloorCreepAndAlert :
    let s := (hall.setSrc 3 { hall.srcs[3] with s := 9, creep := 50 }).setSrc 4
      { talker (.aux 0) .program .ungated 0 with voice := .voiced, effMute := true, twm := 250, twmRose := true }
    (s.srcs[3].state ≠ .free ∧ s.srcs[3].voice = .quiet ∧ s.srcs[3].n < s.srcs[3].s ∧
      s.params.creepBlocks ≤ s.srcs[3].creep) ∧
    (s.srcs[4].state = .active ∧ s.srcs[4].voice = .voiced ∧ s.srcs[4].effMute = true ∧ s.srcs[4].alert = false ∧
      s.srcs[4].twmRose = true ∧ s.params.twmBlocks ≤ s.srcs[4].twm) ∧ s.srcs[3].twmRose = false ∧
    s.srcs[6].state = .free := by decide

theorem witness_RampsStepToTheirTarget :
    let g : GainUnit := ⟨-192, -192, none⟩
    (24 : Int) ≠ g.target ∧ 24 ≠ g.current ∧ ((24 : Int) - g.current).natAbs = 216 ∧
    ((-190 : Int) - g.current).natAbs = 2 ∧ ((-189 : Int) - g.current).natAbs = 3 ∧
    ((-180 : Int) - g.current).natAbs = 12 ∧ ((-179 : Int) - g.current).natAbs = 13 ∧
    (-192 : Int) = g.target ∧ (⟨-192, 0, none⟩ : GainUnit).current ≠ (⟨-192, 0, none⟩ : GainUnit).target := by decide

theorem witness_BlockEndsRemoveWhatIsFinished :
    let s := ((hall.setSrc 79 { leaver (.pod 15 3) with gain := ⟨-192, -192, some ⟨-36, 16, 16⟩⟩ }).setFeed 31
      { listener (.auxOut 7) 0 with state := .retiring, gain := ⟨-192, -192, some ⟨0, 16, 16⟩⟩ })
    (s.srcs[79].state = .retiring ∧ s.srcs[79].gain.current = -192 ∧ s.srcs[79].gain.ramp = some ⟨-36, 16, 16⟩) ∧
    (s.feeds[31].state = .retiring ∧ s.feeds[31].gain.current = -192 ∧ s.feeds[31].gain.ramp = some ⟨0, 16, 16⟩) ∧
    hall.srcs[79].gain.ramp = some ⟨-36, 16, 0⟩ ∧ hall.feeds[31].gain.current ≠ -192 ∧
    hall.banks.swap ≠ .ramping ∧
    ({ hall with banks := { hall.banks with swap := .ramping } } : State).banks.swap = .ramping ∧
    ({ hall with xpRamps := hall.xpRamps.put 31 79 (some ⟨0, 24, 4, 4⟩) } : State).xpRamps[(31 : FeedSlot)][(79 : SrcSlot)]
      = some ⟨0, 24, 4, 4⟩ ∧
    ({ hall with xpRamps := hall.xpRamps.put 31 79 (some ⟨0, 24, 4, 3⟩) } : State).xpRamps[(31 : FeedSlot)][(79 : SrcSlot)]
      = some ⟨0, 24, 4, 3⟩ := by decide

/-- The Mixer's reading of one full-scale source and one feed to each kind of destination. -/
def reading : MixView where
  srcs := (Vector.replicate 80 none).set 5 (some ⟨some (.aux 7), 1, 0, Vector.replicate 96 8388607⟩)
  feeds := (((Vector.replicate 32 none).set 0 (some ⟨some (.farSend 7), 0, 0⟩)).set 1 (some ⟨some (.auxOut 7), 0, 0⟩)).set 31
    (some ⟨some (.podSpk 15), 1, 24⟩)
  xp := Matrix.const 0

/-- A block in progress with that reading. -/
def mixing : State := { linked with mix := some reading }

/-- A block other than silence for each destination. -/
def loud : BlockOutputs :=
  ⟨Vector.replicate 16 (Vector.replicate 96 3), Vector.replicate 8 (Vector.replicate 96 5),
    Vector.replicate 8 (Vector.replicate 96 7)⟩

theorem witness_FeedsFormedDeliversEveryBlock :
    hall.mix = none ∧ hall.outputsDue = none ∧ ({ linked with outputsDue := some loud } : State).mix = none ∧
    ({ linked with outputsDue := some loud } : State).outputsDue = some loud ∧
    mixing.mix = some reading ∧ mixing.ports[0].state = .down ∧ mixing.ports[7].state ≠ .down ∧
    4 ≤ mixing.ports[7].output.length ∧
    (mixing.setPort 7 { mixing.ports[7] with output := List.replicate 3 silence }).ports[7].output.length < 4 := by
  refine ⟨rfl, rfl, rfl, rfl, rfl, ?_⟩
  decide

theorem witness_EveryFeedSampleIsTheExactMix :
    (∀ (f : FeedSlot) (x : FeedView), reading.feeds[f] = some x → x.dest ≠ some (.podSpk 0)) ∧
    reading.srcs[4] = none ∧ reading.srcs[5] = some ⟨some (.aux 7), 1, 0, Vector.replicate 96 8388607⟩ ∧
    reading.feeds[0] = some ⟨some (.farSend 7), 0, 0⟩ ∧ reading.feeds[1] = some ⟨some (.auxOut 7), 0, 0⟩ ∧
    reading.feeds[31] = some ⟨some (.podSpk 15), 1, 24⟩ ∧ reading.xp[(0 : FeedSlot)][(5 : SrcSlot)] ≠ -192 ∧
    ∀ (g : FeedSlot) (z : FeedView), reading.feeds[g] = some z → z.dest = some (.farSend 7) → g = 0 := by
  have h : ∀ g : FeedSlot, (g ≠ 0 ∧ g ≠ 1 ∧ g ≠ 31 → reading.feeds[g] = none) := by decide
  have h0 : reading.feeds[0] = some ⟨some (.farSend 7), 0, 0⟩ := by decide
  have h1 : reading.feeds[1] = some ⟨some (.auxOut 7), 0, 0⟩ := by decide
  have h31 : reading.feeds[31] = some ⟨some (.podSpk 15), 1, 24⟩ := by decide
  have all (g : FeedSlot) (z : FeedView) (hz : reading.feeds[g] = some z) :
      g = 0 ∧ z.dest = some (.farSend 7) ∨ g = 1 ∧ z.dest = some (.auxOut 7) ∨ g = 31 ∧ z.dest = some (.podSpk 15) := by
    by_cases e0 : g = 0
    · subst e0; exact .inl ⟨rfl, by cases h0.symm.trans hz; rfl⟩
    · by_cases e1 : g = 1
      · subst e1; exact .inr (.inl ⟨rfl, by cases h1.symm.trans hz; rfl⟩)
      · by_cases e2 : g = 31
        · subst e2; exact .inr (.inr ⟨rfl, by cases h31.symm.trans hz; rfl⟩)
        · cases (h g ⟨e0, e1, e2⟩).symm.trans hz
  refine ⟨fun g z hz => ?_, by decide, rfl, h0, h1, h31, by decide, fun g z hz hd => ?_⟩
  · obtain ⟨-, e⟩ | ⟨-, e⟩ | ⟨-, e⟩ := all g z hz <;> rw [e] <;> decide
  · obtain ⟨e, -⟩ | ⟨-, e⟩ | ⟨-, e⟩ := all g z hz
    · exact e
    · rw [e] at hd; cases hd
    · rw [e] at hd; cases hd

theorem witness_MixMinusLeavesOutTheListenersOwnSources :
    mixing.mix = some reading ∧ reading.srcs[5] = some ⟨some (.aux 7), 1, 0, Vector.replicate 96 8388607⟩ ∧
    (∃ t, exec .feedsFormed mixing = .next t) ∧
    (∃ t, exec .feedsFormed { mixing with mix := some { reading with
      srcs := reading.srcs.set 5 (some ⟨some (.aux 7), 1, 24, silence⟩) } } = .next t) ∧
    (1 : Groups) &&& (1 : Groups) ≠ 0 := ⟨rfl, rfl, ⟨_, rfl⟩, ⟨_, rfl⟩, by decide⟩

theorem witness_CoefficientIsTheRoundedPower :
    ((-191 : Int) ≤ -191 ∧ (-191 : Int) ≤ 24) ∧ ((-191 : Int) ≤ 24 ∧ (24 : Int) ≤ 24) := by decide

set_option exponentiation.threshold 500 in
theorem witness_BlockLevelIsTheRoundedLogarithm :
    blockLevel silence = 0 ∧ blockLevel (Vector.replicate 96 1) = 0 := by decide

/-- The hall with pod links 0 and 1 in PRESYNC, one before and one at its last judgement. -/
def presynced : State :=
  (hall.setPod 0 { Pod.reset with framing := .presync, goodRun := 1, depth := 2 }).setPod 1
    { Pod.reset with framing := .presync, goodRun := 1, depth := 3 }

theorem owns_presynced : hostOwnsLine presynced := by
  intro as r h
  cases h

/-- Section 8.11.1: from byte position 92, where the search begins behind a false match at 91, the pod's header 208 bytes
on is found at 300; and a search runs past the end of the frame period (R151). -/
theorem test_search_finds_the_place :
    let s := hall.setPod 2 { Pod.reset with place := 92 }
    (after (.huntMatch 2 (List.replicate 208 0) (good 0)) s).pods[2].place = 300 ∧
    (after (.huntMatch 2 (List.replicate 208 0) (good 0)) s).pods[2].framing = .presync ∧
    (after (.huntMatch 2 [0, 0] (good 0)) (hall.setPod 2 { Pod.reset with place := 1199 })).pods[2].place = 1 := by decide

theorem witness_FramingFindsItsPod :
    hostOwnsLine presynced ∧
    -- a match at the start of a stream, one behind searched bytes, and a stream with none
    searchHeader (good 0).bytes = some (0, good 0) ∧ searchHeader ([0x3A, 0x3A] ++ (good 0).bytes) = some (2, good 0) ∧
    searchHeader ([0x3A, 0x3A] ++ bad.bytes) = none ∧ (good 0).good = true ∧ bad.good = false ∧ presynced.pods[2].framing = .hunt ∧ presynced.pods[0].framing = .presync ∧
    presynced.pods[0].depth ≤ presynced.pods[0].goodRun + 1 ∧ presynced.pods[1].goodRun + 1 < presynced.pods[1].depth ∧
    16 ≤ (16 : Byte).toNat ∧ (1 : Byte).toNat < 2 ∧ 3 < (4 : Byte).toNat :=
  ⟨owns_presynced, by decide⟩

theorem witness_GoodFrameIsTakenWhole :
    linked.pods[0].framing = .sync ∧ linked.pods[1].framing ≠ .sync ∧ (good 0).good = true ∧ (good 7).good = true ∧
    (good 0).buttons.getLsbD 0 = false ∧ (good 0).buttons.getLsbD 1 = false ∧
    (good 0).buttons.getLsbD 2 = linked.pods[0].privacy ∧ (good 7).buttons.getLsbD 2 ≠ linked.pods[0].privacy ∧
    linked.srcs[0].state = .active ∧ linked.srcs[0].origin = some (.pod 0 0) ∧ linked.srcs[0].cls = some .chair ∧
    MuteLaw linked := by
  have h : ∀ i : SrcSlot, linked.srcs[i].privacy = false ∧ linked.srcs[i].effMute = false ∧
      deriveMute linked.mute linked.srcs[i] = false := by decide
  have hp : ∀ l : PodLink, linked.pods[l].privacy = false := by decide
  exact ⟨by decide, by decide, by decide, by decide, by decide, by decide, by decide, by decide, by decide, by decide,
    by decide, fun i => ⟨fun _ => (h i).2.1.trans (h i).2.2.symm, fun _ => (h i).2.1,
      fun _ l _ _ => (h i).1.trans (hp l).symm⟩⟩

theorem witness_BadFramesLoseTheLink :
    linked.pods[0].framing = .sync ∧ bad.good = false ∧ 3 ≤ linked.pods[0].badRun ∧
    (linked.setPod 0 { linked.pods[0] with badRun := 2 }).pods[0].badRun < 3 ∧ MembershipLaw linked ∧
    linked.srcs[1].origin = some (.pod 0 1) ∧ linked.srcs[1].state = .active ∧ linked.srcs[1].floorClass = true ∧
    (1 : SrcSlot) ∈ linked.floor.list :=
  ⟨by decide, by decide, by decide, by decide, membership_of hall_membership rfl rfl rfl rfl, by decide⟩

theorem witness_CodecPulseAndClockLoss :
    linked.ports[0].state = .down ∧ linked.ports[7].state = .running ∧ linked.ports[7].fill.val = 95 ∧
    4 ≤ linked.ports[7].input.length ∧ linked.ports[7].primed = true ∧ linked.ports[7].output ≠ [] ∧
    linked.ports[7].idle < 8 ∧
    (linked.setPort 7 { linked.ports[7] with idle := 8, fill := 94, input := [silence], state := .priming }).ports[7].idle = 8 ∧
    (linked.setPort 7 { linked.ports[7] with idle := 8, fill := 94 }).ports[7].fill.val + 1 < 96 ∧
    (linked.setPort 7 { linked.ports[7] with output := [] }).ports[7].output = [] ∧
    (linked.setPort 7 { linked.ports[7] with primed := false }).ports[7].primed = false := by decide

theorem owns_mixing : hostOwnsLine mixing := by
  intro as r h
  cases h

theorem witness_EngineResetReturnsThePart :
    hostOwnsLine mixing ∧ mixing.mix = some reading ∧ (after .engineReset mixing).mix = none ∧
    (after .engineReset mixing).outputsDue = some (outputsOf reading) ∧ (after .engineReset hall).outputsDue = none ∧
    mixing.ports[7].state ≠ .down ∧ mixing.ports[0].state = .down := ⟨owns_mixing, rfl, rfl, rfl, rfl, by decide⟩

/-- ENGINE.RESET leaves the aux outputs; a FEEDS_FORMED after it in the same block gives FAR-SEND(7), in PRIMING with depth 1
then, and AUX-OUT(7) the blocks of the feeds that held them when the block began (R85, R176, R180, R181). -/
theorem test_feeds_formed_after_engine_reset :
    (after .engineReset mixing).outputsDue = some (outputsOf reading) ∧ (after .engineReset mixing).auxOut = mixing.auxOut ∧
    (after .feedsFormed (resetRecords { linked with outputsDue := some loud })).ports[7].output = [Vector.replicate 96 5] ∧
    (after .feedsFormed (resetRecords { linked with outputsDue := some loud })).auxOut[7] = Vector.replicate 96 7 ∧
    (after .feedsFormed (resetRecords { linked with outputsDue := some loud })).ports[7].state = .priming := by
  refine ⟨rfl, rfl, ?_⟩
  decide

end Sys2Proof.Tests
end

section
/-! Proofs for O19: a command that needs an ACTIVE slot refuses every other slot number, and a refused command has no
other effect. The slot check of the table of section 1.4 (sources, R13) and of section 5.4 (feeds, R92) is read once for
each kind of slot; each of the eight commands then passes the check's kind on. -/

namespace Sys2Proof.Machine.SlotChecks

variable {s : State} {slot : Byte} {k : ErrKind}

/-! ### What the slot check answers -/

theorem activeSrc_out (h : 80 ≤ slot.toNat) : activeSrc slot s = .error .badParam := by
  simp [activeSrc, numberBelow_out h]

theorem activeSrc_free {i : SrcSlot} (h : s.srcs[i].state = .free) : activeSrc (byteOf i) s = .error .notAttached := by
  simp [activeSrc, numberBelow_byteOf, -Fin.getElem_fin, h]

theorem activeSrc_retiring {i : SrcSlot} (h : s.srcs[i].state = .retiring) : activeSrc (byteOf i) s = .error .busy := by
  simp [activeSrc, numberBelow_byteOf, -Fin.getElem_fin, h]

theorem activeFeed_out (h : 32 ≤ slot.toNat) : activeFeed slot s = .error .badParam := by
  simp [activeFeed, numberBelow_out h]

theorem activeFeed_free {f : FeedSlot} (h : s.feeds[f].state = .free) :
    activeFeed (byteOf f) s = .error .notAttached := by
  simp [activeFeed, numberBelow_byteOf, -Fin.getElem_fin, h]

theorem activeFeed_retiring {f : FeedSlot} (h : s.feeds[f].state = .retiring) :
    activeFeed (byteOf f) s = .error .busy := by
  simp [activeFeed, numberBelow_byteOf, -Fin.getElem_fin, h]

/-- The slot check reads the sources alone, and a packet start leaves them. -/
@[simp] theorem activeSrc_openPacket : activeSrc slot (openPacket s) = activeSrc slot s := by
  simp only [activeSrc, openPacket_srcs]

/-- The slot check reads the feeds alone, and a packet start leaves them. -/
@[simp] theorem activeFeed_openPacket : activeFeed slot (openPacket s) = activeFeed slot s := by
  simp only [activeFeed, openPacket_feeds]

/-- The three ways in which a source's slot is refused (R13, the table of section 1.4). -/
theorem activeSrc_error
    (h : 80 ≤ slot.toNat ∧ k = .badParam ∨ ∃ i : SrcSlot, slot = byteOf i ∧
      (s.srcs[i].state = .free ∧ k = .notAttached ∨ s.srcs[i].state = .retiring ∧ k = .busy)) :
    activeSrc slot s = .error k := by
  obtain ⟨hout, rfl⟩ | ⟨i, rfl, ⟨hfree, rfl⟩ | ⟨hretiring, rfl⟩⟩ := h
  · exact activeSrc_out hout
  · exact activeSrc_free hfree
  · exact activeSrc_retiring hretiring

/-- The three ways in which a feed's slot is refused (R92, the table of section 5.4). -/
theorem activeFeed_error
    (h : 32 ≤ slot.toNat ∧ k = .badParam ∨ ∃ f : FeedSlot, slot = byteOf f ∧
      (s.feeds[f].state = .free ∧ k = .notAttached ∨ s.feeds[f].state = .retiring ∧ k = .busy)) :
    activeFeed slot s = .error k := by
  obtain ⟨hout, rfl⟩ | ⟨f, rfl, ⟨hfree, rfl⟩ | ⟨hretiring, rfl⟩⟩ := h
  · exact activeFeed_out hout
  · exact activeFeed_free hfree
  · exact activeFeed_retiring hretiring

/-! ### Each command passes the check's refusal on -/

theorem takeSrcRetire_refused (h : activeSrc slot s = .error k) : takeSrcRetire slot s = .refused k := by
  simp [takeSrcRetire, h]

theorem takeSrcTrim_refused (h : activeSrc slot s = .error k) (v : Byte) : takeSrcTrim slot v s = .refused k := by
  simp [takeSrcTrim, h]

theorem takeSrcGroups_refused (h : activeSrc slot s = .error k) (g : Groups) :
    takeSrcGroups slot g s = .refused k := by
  simp [takeSrcGroups, h]

theorem takeSrcMute_refused (h : activeSrc slot s = .error k) (on : Bool) : takeSrcMute slot on s = .refused k := by
  simp [takeSrcMute, h]

theorem takeFeedRetire_refused (h : activeFeed slot s = .error k) : takeFeedRetire slot s = .refused k := by
  simp [takeFeedRetire, h]

theorem takeFeedLevel_refused (h : activeFeed slot s = .error k) (v : Word) :
    takeFeedLevel slot v s = .refused k := by
  simp [takeFeedLevel, h]

theorem takeFeedMute_refused (h : activeFeed slot s = .error k) (on : Bool) :
    takeFeedMute slot on s = .refused k := by
  simp [takeFeedMute, h]

theorem takeFeedExclude_refused (h : activeFeed slot s = .error k) (g : Groups) :
    takeFeedExclude slot g s = .refused k := by
  simp [takeFeedExclude, h]

/-! ### The commands on the control link -/

/-- The source commands for an ACTIVE slot, when the slot check refuses. -/
theorem srcCommands_refused (ho : hostOwnsLine s) (h : activeSrc slot s = .error k) :
    exec (.srcRetire slot) s = .next (refusedWith k s) ∧
    (∀ v, exec (.srcTrim slot v) s = .next (refusedWith k s)) ∧
    (∀ g, exec (.srcGroups slot g) s = .next (refusedWith k s)) ∧
    ∀ on, exec (.srcMute slot on) s = .next (refusedWith k s) := by
  have hopen : activeSrc slot (openPacket s) = .error k := activeSrc_openPacket.trans h
  refine ⟨?retire, fun v => ?trim, fun g => ?groups, fun on => ?mute⟩
  case retire => exact congrArg _ (hostPacket_refused ho rfl (takeSrcRetire_refused hopen))
  case trim => exact congrArg _ (hostPacket_refused ho rfl (takeSrcTrim_refused hopen v))
  case groups => exact congrArg _ (hostPacket_refused ho rfl (takeSrcGroups_refused hopen g))
  case mute => exact congrArg _ (hostPacket_refused ho rfl (takeSrcMute_refused hopen on))

/-- The feed commands for an ACTIVE slot, when the slot check refuses. -/
theorem feedCommands_refused (ho : hostOwnsLine s) (h : activeFeed slot s = .error k) :
    exec (.feedRetire slot) s = .next (refusedWith k s) ∧
    (∀ v, exec (.feedLevel slot v) s = .next (refusedWith k s)) ∧
    (∀ on, exec (.feedMute slot on) s = .next (refusedWith k s)) ∧
    ∀ g, exec (.feedExclude slot g) s = .next (refusedWith k s) := by
  have hopen : activeFeed slot (openPacket s) = .error k := activeFeed_openPacket.trans h
  refine ⟨?retire, fun v => ?level, fun on => ?mute, fun g => ?exclude⟩
  case retire => exact congrArg _ (hostPacket_refused ho rfl (takeFeedRetire_refused hopen))
  case level => exact congrArg _ (hostPacket_refused ho rfl (takeFeedLevel_refused hopen v))
  case mute => exact congrArg _ (hostPacket_refused ho rfl (takeFeedMute_refused hopen on))
  case exclude => exact congrArg _ (hostPacket_refused ho rfl (takeFeedExclude_refused hopen g))

/-- Settles O19: the slot check gives the kind, every command passes it on before it does anything, and the packet of a
refused write adds that kind alone (R13, R92, R186). -/
theorem slotsOutsideActiveAreRefused : Obligations.SlotsOutsideActiveAreRefused := by
  unfold Obligations.SlotsOutsideActiveAreRefused
  intro s ho
  exact ⟨fun _ _ h => srcCommands_refused ho (activeSrc_error h),
    fun _ _ h => feedCommands_refused ho (activeFeed_error h)⟩

end Sys2Proof.Machine.SlotChecks
end

section
/-! Proofs for O49: the block level is the rounded logarithm of the block's mean square (R20). The sum of squares is
compared with full scale (96 samples of 2^23) in integers; its logarithm against full scale, v, is the spec's
20 log10(ms / 8388608^2). The model's test of level n says that n - 200 - 1/2 is at most v; 5 divides one side of that
test alone, so equality is never met and rounding a half away from zero needs no case. Counting the levels reached is
then the clamp. -/

namespace Sys2Proof.Machine.LevelLog

/-! ### The sum of squares -/

theorem sum_getElem_eq_toList_sum {α : Type} {n : Nat} (v : Vector α n) (f : α → Nat) :
    ∑ i : Fin n, f v[i] = (v.toList.map f).sum := by
  obtain ⟨⟨l⟩, rfl⟩ := v
  exact Fin.sum_univ_fun_getElem l f

/-- R20's sum of squares is the exact sum over the block's 96 samples. -/
theorem sumSquares_eq (b : Block) : sumSquares b = ∑ n : Fin 96, b[n].toInt.natAbs ^ 2 := by
  rw [sum_getElem_eq_toList_sum b (fun x => x.toInt.natAbs ^ 2), sumSquares, List.sum_eq_foldl, List.foldl_map]

theorem cast_sumSquares (b : Block) : (sumSquares b : ℝ) = ∑ n : Fin 96, (b[n].toInt : ℝ) ^ 2 := by
  have square (z : Int) : ((z.natAbs : ℝ)) ^ 2 = (z : ℝ) ^ 2 := by rw [Nat.cast_natAbs, Int.cast_abs, sq_abs]
  simp only [sumSquares_eq, Nat.cast_sum, Nat.cast_pow, square]

/-- The sum of squares of 96 samples at full scale. -/
def fullScale : Nat := 96 * 2 ^ 46

theorem cast_fullScale : (fullScale : ℝ) = 96 * 8388608 ^ 2 := by norm_num [fullScale]

theorem sumSquares_le_fullScale (b : Block) : sumSquares b ≤ fullScale := by
  have sample (x : Sample) : x.toInt.natAbs ^ 2 ≤ 2 ^ 46 := by
    have lo := BitVec.le_toInt x
    have hi := BitVec.toInt_lt (x := x)
    calc x.toInt.natAbs ^ 2 ≤ (2 ^ 23) ^ 2 := Nat.pow_le_pow_left (by omega) 2
      _ = 2 ^ 46 := by norm_num
  calc sumSquares b = ∑ n : Fin 96, b[n].toInt.natAbs ^ 2 := sumSquares_eq b
    _ ≤ ∑ _n : Fin 96, 2 ^ 46 := Finset.sum_le_sum fun n _ => sample b[n]
    _ = fullScale := by rw [Finset.sum_const, Finset.card_univ, Fintype.card_fin, smul_eq_mul, fullScale]

/-! ### The test of one level -/

theorem levelReaches_iff (sum n : Nat) :
    levelReaches sum n = true ↔ fullScale ^ 40 ≤ sum ^ 40 * 10 ^ (401 - 2 * n) := decide_eq_true_iff

/-- The exact half is never met: 5 divides the right side and not the left. -/
theorem fullScale_pow_ne {m : Nat} (hm : m ≠ 0) (sum : Nat) : fullScale ^ 40 ≠ sum ^ 40 * 10 ^ m := by
  intro heq
  have hdvd : 5 ∣ fullScale ^ 40 := heq ▸ ((show 5 ∣ 10 by decide).trans (dvd_pow_self 10 hm)).mul_left _
  exact absurd (Nat.prime_five.dvd_of_dvd_pow hdvd) (by decide)

/-- 20 log10 of a sum of squares against full scale: the spec's 20 log10(ms / 8388608^2). -/
noncomputable def logLevel (sum : Nat) : ℝ := 20 * Real.logb 10 (sum / fullScale)

theorem logLevel_nonpos {sum : Nat} (h : sum ≤ fullScale) : logLevel sum ≤ 0 := by
  have hlog : Real.logb 10 (sum / fullScale : ℝ) ≤ 0 :=
    Real.logb_nonpos (by norm_num) (by positivity) (div_le_one_of_le₀ (Nat.cast_le.mpr h) (Nat.cast_nonneg _))
  exact mul_nonpos_of_nonneg_of_nonpos (by norm_num) hlog

/-- The comparison of powers is a comparison of logarithms: R20's threshold m halves below 0. -/
theorem fullScale_pow_lt_iff {sum : Nat} (hs : sum ≠ 0) (m : Nat) :
    fullScale ^ 40 < sum ^ 40 * 10 ^ m ↔ -(m : ℝ) / 2 < logLevel sum := by
  have hsum : (0 : ℝ) < sum := Nat.cast_pos.mpr (Nat.pos_of_ne_zero hs)
  have hfull : (0 : ℝ) < fullScale := Nat.cast_pos.mpr (by decide)
  have hlog : Real.logb 10 ((sum : ℝ) ^ 40 * 10 ^ m) = 40 * Real.logb 10 sum + m := by
    rw [Real.logb_mul (by positivity) (by positivity), Real.logb_pow, Real.logb_pow,
      Real.logb_self_eq_one (by norm_num)]
    norm_num
  calc fullScale ^ 40 < sum ^ 40 * 10 ^ m
      ↔ (fullScale : ℝ) ^ 40 < (sum : ℝ) ^ 40 * 10 ^ m := by exact_mod_cast Iff.rfl
    _ ↔ Real.logb 10 ((fullScale : ℝ) ^ 40) < Real.logb 10 ((sum : ℝ) ^ 40 * 10 ^ m) :=
        (Real.logb_lt_logb_iff (by norm_num) (by positivity) (by positivity)).symm
    _ ↔ 40 * Real.logb 10 fullScale < 40 * Real.logb 10 sum + m := by rw [hlog, Real.logb_pow]; norm_num
    _ ↔ -(m : ℝ) / 2 < logLevel sum := by
        rw [logLevel, Real.logb_div hsum.ne' hfull.ne']
        constructor <;> intro h <;> linarith

/-- Level n, from 1 to 200, is reached exactly when it is at most the rounded logarithm. -/
theorem levelReaches_iff_le_round {sum n : Nat} (hs : sum ≠ 0) (hn : n ≤ 200) :
    levelReaches sum n = true ↔ (n : Int) ≤ 200 + ⌈logLevel sum - 1 / 2⌉ := by
  have hhalf : -((401 - 2 * n : Nat) : ℝ) / 2 = (n : ℝ) - 200 - 1 / 2 := by
    rw [Nat.cast_sub (by omega)]; push_cast; ring
  calc levelReaches sum n = true
      ↔ fullScale ^ 40 < sum ^ 40 * 10 ^ (401 - 2 * n) :=
        (levelReaches_iff sum n).trans (fullScale_pow_ne (by omega) sum).le_iff_lt
    _ ↔ (n : ℝ) - 200 - 1 / 2 < logLevel sum := by rw [fullScale_pow_lt_iff hs, hhalf]
    _ ↔ (n : Int) - 201 < ⌈logLevel sum - 1 / 2⌉ := by
        rw [Int.lt_ceil]; push_cast
        constructor <;> intro h <;> linarith
    _ ↔ (n : Int) ≤ 200 + ⌈logLevel sum - 1 / 2⌉ := by omega

/-! ### The level -/

/-- Counting the numbers 1 to N that are at most L clamps L to 0 to N. -/
theorem count_le_eq_clamp (N : Nat) (L : Int) :
    (((List.range N).filter fun k => decide (((k + 1 : Nat) : Int) ≤ L)).length : Int) = max 0 (min (N : Int) L) := by
  induction N with
  | zero => simp
  | succ N ih =>
    rw [List.range_succ, List.filter_append, List.length_append, Nat.cast_add, ih, List.filter_singleton]
    by_cases h : ((N + 1 : Nat) : Int) ≤ L
    · rw [decide_eq_true h, cond_true, List.length_singleton]
      omega
    · rw [decide_eq_false h, cond_false, List.length_nil]
      omega

theorem levelOfSum_zero : levelOfSum 0 = 0 := by
  have unreached (n : Nat) : levelReaches 0 n = false := by
    rw [← Bool.not_eq_true, levelReaches_iff, zero_pow (by norm_num), zero_mul, Nat.le_zero]
    exact pow_ne_zero 40 (by decide)
  simp [levelOfSum, unreached]

theorem levelOfSum_eq_clamp {sum : Nat} (hs : sum ≠ 0) :
    (levelOfSum sum : Int) = max 0 (min 200 (200 + ⌈logLevel sum - 1 / 2⌉)) := by
  have hfilter : ((List.range 200).filter fun k => levelReaches sum (k + 1)) =
      (List.range 200).filter fun k => decide (((k + 1 : Nat) : Int) ≤ 200 + ⌈logLevel sum - 1 / 2⌉) :=
    List.filter_congr fun k hk =>
      Bool.eq_iff_iff.mpr ((levelReaches_iff_le_round hs (List.mem_range.mp hk)).trans decide_eq_true_iff.symm)
  rw [levelOfSum, hfilter]
  exact count_le_eq_clamp 200 _

/-- Rounding with halves away from zero, of a value that is not positive. -/
theorem round_of_nonpos {v : ℝ} (hv : v ≤ 0) :
    (if 0 ≤ v then ⌊v + 1 / 2⌋ else ⌈v - 1 / 2⌉) = ⌈v - 1 / 2⌉ := by
  split
  next h =>
    obtain rfl := le_antisymm hv h
    norm_num
  next => rfl

/-- Settles O49: the levels a sum of squares reaches are those up to its rounded logarithm, which a block's full scale
keeps from being positive (R20). -/
theorem blockLevelIsTheRoundedLogarithm : Obligations.BlockLevelIsTheRoundedLogarithm := by
  unfold Obligations.BlockLevelIsTheRoundedLogarithm
  intro b ms hms
  rw [← cast_sumSquares] at hms
  refine ⟨fun hzero => ?zero, fun hne v hv => ?logarithm⟩
  case zero =>
    have hsum : sumSquares b = 0 := by
      rw [hms] at hzero
      exact_mod_cast (div_eq_zero_iff.mp hzero).resolve_right (by norm_num)
    rw [blockLevel, hsum, levelOfSum_zero]
  case logarithm =>
    have hsum : sumSquares b ≠ 0 := by
      intro h
      exact hne (by rw [hms, h, Nat.cast_zero, zero_div])
    have hlog : v = logLevel (sumSquares b) := by rw [hv, hms, div_div, logLevel, cast_fullScale]
    rw [blockLevel, levelOfSum_eq_clamp hsum, hlog, round_of_nonpos (logLevel_nonpos (sumSquares_le_fullScale b))]

end Sys2Proof.Machine.LevelLog
end

section
/-! Proofs for O25: FLOOR.RESET is a clearing of the collections, a notice for it, and a new target for every ACTIVE
floor-class source, composed for an empty floor (R82). Each of the three is read once, field by field; the command's
packet then adds the packet start alone. -/

namespace Sys2Proof.Machine.FloorReset

variable (s : State)

/-! ### The clearing (R82 steps 1 and 2) -/

@[simp] theorem clearFloor_floor : (clearFloor s).floor = ⟨[], [], [], [], s.floor.block⟩ := by
  simp only [clearFloor]

theorem clearFloor_src_member {i : SrcSlot} (h : i ∈ s.floor.list ∨ i ∈ s.floor.chairs ∨ i ∈ s.floor.delegates) :
    (clearFloor s).srcs[i] = { s.srcs[i] with floorState := some .closed } := by
  simp only [clearFloor, State.mapSrcs_at, List.contains_eq_mem, Bool.or_eq_true, decide_eq_true_eq, or_assoc, if_pos h]

theorem clearFloor_src_outside {i : SrcSlot} (h : ¬ (i ∈ s.floor.list ∨ i ∈ s.floor.chairs ∨ i ∈ s.floor.delegates)) :
    (clearFloor s).srcs[i] = s.srcs[i] := by
  simp only [clearFloor, State.mapSrcs_at, List.contains_eq_mem, Bool.or_eq_true, decide_eq_true_eq, or_assoc, if_neg h]

/-- The clearing moves no field of a source but its floor state. -/
theorem clearFloor_src (i : SrcSlot) :
    (clearFloor s).srcs[i] = { s.srcs[i] with floorState := (clearFloor s).srcs[i].floorState } := by
  by_cases h : i ∈ s.floor.list ∨ i ∈ s.floor.chairs ∨ i ∈ s.floor.delegates
  · rw [clearFloor_src_member s h]
  · rw [clearFloor_src_outside s h]

@[simp] theorem clearFloor_notice : (clearFloor s).notice = s.notice := by simp only [clearFloor, State.mapSrcs_notice]

@[simp] theorem clearFloor_params : (clearFloor s).params = s.params := by
  simp only [State.params, clearFloor, State.mapSrcs_banks]

/-! ### The targets and the notice (R80, R103) -/

theorem retargetFloor_src (i : SrcSlot) : (retargetFloor s).srcs[i] =
    if s.srcs[i].isActive && s.srcs[i].floorClass then retarget s s.srcs[i] else s.srcs[i] := by
  simp only [retargetFloor, State.mapSrcs_at]

@[simp] theorem noteFloor_params (t : State) : (noteFloor s t).params = t.params := by
  simp only [State.params, noteFloor, State.addNoticeIf_banks]

/-! ### The whole of FLOOR.RESET -/

/-- The state that FLOOR.RESET writes. -/
def floorCleared : State := retargetFloor (noteFloor s (clearFloor s))

theorem takeFloorReset_eq : takeFloorReset s = .write (floorCleared s) := by
  simp only [takeFloorReset, floorCleared]

theorem floorCleared_floor : (floorCleared s).floor = ⟨[], [], [], [], s.floor.block⟩ := by
  simp only [floorCleared, retargetFloor, State.mapSrcs_floor, noteFloor_floor, clearFloor_floor]

theorem floorCleared_src (i : SrcSlot) : (floorCleared s).srcs[i] =
    if (clearFloor s).srcs[i].isActive && (clearFloor s).srcs[i].floorClass then
      { (clearFloor s).srcs[i] with
        gain := (clearFloor s).srcs[i].gain.hand (composeTarget s.params 0 (clearFloor s).srcs[i]) }
    else (clearFloor s).srcs[i] := by
  simp only [floorCleared, retargetFloor_src, noteFloor_srcs, retarget, noteFloor_params, noteFloor_floor,
    clearFloor_params, clearFloor_floor, List.length_nil]

theorem floorCleared_floorState (i : SrcSlot) :
    (floorCleared s).srcs[i].floorState = (clearFloor s).srcs[i].floorState := by
  rw [floorCleared_src, apply_ite Source.floorState, ite_self]

/-- FLOOR.RESET reaches the floor state and the gain of a source alone. -/
theorem floorCleared_withFloorOf (i : SrcSlot) :
    (floorCleared s).srcs[i] = s.srcs[i].withFloorOf (floorCleared s).srcs[i] := by
  rw [floorCleared_src, clearFloor_src]
  split <;> simp only [Source.withFloorOf]

/-- The record a target is composed from has its own gain ignored (R102). -/
theorem composeTarget_gain (p : Params) (n : Nat) (x : Source) (g : GainUnit) :
    composeTarget p n { x with gain := g } = composeTarget p n x := rfl

/-- Every ACTIVE floor-class source is handed its target for n = 0 (R82, R103, R105). -/
theorem floorCleared_gain (i : SrcSlot) : (floorCleared s).srcs[i].gain =
    if s.srcs[i].state = .active ∧ s.srcs[i].floorClass then
      s.srcs[i].gain.hand (composeTarget s.params 0 (floorCleared s).srcs[i]) else s.srcs[i].gain := by
  have active : ((clearFloor s).srcs[i].isActive && (clearFloor s).srcs[i].floorClass) = true ↔
      s.srcs[i].state = .active ∧ s.srcs[i].floorClass = true := by
    rw [clearFloor_src, Bool.and_eq_true, Source.isActive, beq_iff_eq, Source.floorClass, Source.floorClass]
  have gain : (clearFloor s).srcs[i].gain = s.srcs[i].gain := by rw [clearFloor_src]
  by_cases h : s.srcs[i].state = .active ∧ s.srcs[i].floorClass = true
  · rw [if_pos h, floorCleared_src, if_pos (active.mpr h)]
    simp only [composeTarget_gain, gain]
  · rw [if_neg h, floorCleared_src, if_neg (active.not.mpr h), gain]

/-- FLOOR is added exactly when a collection was not empty (R80, R82). -/
theorem floorCleared_notice : (floorCleared s).notice =
    if s.floor.list = [] ∧ s.floor.chairs = [] ∧ s.floor.delegates = [] then s.notice
    else s.notice.withSet { s.notice.set with floor := true } := by
  have note : (floorCleared s).notice = ((clearFloor s).addNoticeIf
      ([] != s.floor.list || [] != s.floor.chairs || [] != s.floor.delegates) .floor).notice := by
    simp only [floorCleared, retargetFloor, State.mapSrcs_notice, noteFloor, clearFloor_floor]
  rw [note]
  split
  case isTrue h =>
    obtain ⟨hl, hc, hd⟩ := h
    simp [hl, hc, hd]
  case isFalse h =>
    have changed : ([] != s.floor.list || [] != s.floor.chairs || [] != s.floor.delegates) = true := by
      simp only [Bool.or_eq_true, bne_iff_ne, ne_comm (a := [])]
      tauto
    rw [changed, State.addNoticeIf_true, State.addNotice_notice, clearFloor_notice, NoticeSet.add]

/-- FLOOR.RESET leaves everything but sources, floor and notices. -/
theorem floorCleared_rest :
    { floorCleared s with srcs := s.srcs, floor := s.floor, notice := s.notice } = s := by
  simp [floorCleared, retargetFloor, noteFloor, clearFloor]

/-! ### The command -/

theorem openPacket_mask : (openPacket s).notice.mask = s.notice.mask := by
  unfold openPacket
  split <;> rfl

/-- The packet of a FLOOR.RESET leaves the cleared floor, its own start and the interface in IDLE (R186, R188). -/
theorem exec_floorReset (ho : hostOwnsLine s) : exec .floorReset s = .next { floorCleared (openPacket s) with
    ctl := { rx := .idle, errors := (floorCleared (openPacket s)).ctl.errors } } :=
  congrArg Host.Outcome.next (hostPacket_write ho rfl (takeFloorReset_eq _))

/-- Settles O25: the clearing, the notice and the targets are what the packet's write leaves (R82). -/
theorem floorResetClearsTheFloor : Obligations.FloorResetClearsTheFloor := by
  unfold Obligations.FloorResetClearsTheFloor
  intro s ho
  refine ⟨_, exec_floorReset s ho, ?floor, fun i => ⟨?frame, fun h => ?member, fun hl hc hd => ?outside, ?gain⟩,
    fun hl hc hd => ?silent, fun h => ?noticed, ?rest⟩
  case floor => simpa only [openPacket_floor] using floorCleared_floor (openPacket s)
  case frame => simpa only [openPacket_srcs] using floorCleared_withFloorOf (openPacket s) i
  case member =>
    dsimp only
    rw [floorCleared_floorState, clearFloor_src_member _ (by simpa only [openPacket_floor] using h)]
  case outside =>
    dsimp only
    rw [floorCleared_floorState, clearFloor_src_outside _ (by simp [hl, hc, hd]), openPacket_srcs]
  case gain => simpa only [openPacket_srcs, State.params, openPacket_banks] using floorCleared_gain (openPacket s) i
  case silent =>
    dsimp only
    rw [floorCleared_notice, if_pos (by simp [hl, hc, hd])]
    rfl
  case noticed =>
    have notice := floorCleared_notice (openPacket s)
    rw [if_neg (by rw [openPacket_floor]; tauto)] at notice
    dsimp only
    rw [AttentionLaw, notice]
    exact ⟨rfl, openPacket_mask s, withSet_attention _ _⟩
  case rest =>
    have rest := congrArg (fun t : State => { t with ctl := { rx := .idle, errors := t.ctl.errors } })
      (floorCleared_rest (openPacket s))
    simpa only [written, openPacket_srcs, openPacket_floor] using rest

end Sys2Proof.Machine.FloorReset
end

section
/-! Proofs for O38: an admission attempt is decided by window, room and evictable member (R59, R62 to R64). First which
member a full floor gives up, then what the attempt answers, then what an eviction and an admission leave. -/

namespace Sys2Proof.Machine.Admission

variable {s : State} {i j : SrcSlot} {chair : Bool}

/-! ### The class of a source -/

theorem isDelegate_of_delegate {x : Source} (h : x.cls = some .delegate) : x.isDelegate = true := by
  rw [Source.isDelegate, h]; rfl

theorem not_isDelegate_of_chair {x : Source} (h : x.cls = some .chair) : x.isDelegate = false := by
  rw [Source.isDelegate, h]; rfl

theorem isChair_iff {x : Source} : x.isChair = true ↔ x.cls = some .chair := beq_iff_eq

theorem not_isChair_of_delegate {x : Source} (h : x.cls = some .delegate) : x.isChair = false := by
  rw [Source.isChair, h]; rfl

theorem not_isChair_of_isDelegate {x : Source} (h : x.isDelegate = true) : x.isChair = false :=
  not_isChair_of_delegate (beq_iff_eq.mp h)

/-! ### The member a full floor gives up (R62 steps 3 and 4, R63 steps 2 to 4) -/

/-- The first member of a list that passes a test, from the members before it. -/
theorem find_eq_some_of_split {p : SrcSlot → Bool} {older newer : List SrcSlot} (hj : p j = true)
    (older_fail : ∀ k ∈ older, p k = false) : (older ++ j :: newer).find? p = some j :=
  List.find?_eq_some_iff_append.mpr ⟨hj, older, newer, rfl, fun k hk => by simp [older_fail k hk]⟩

theorem find_last_none (h : ∀ k ∈ s.floor.list, s.srcs[k].floorState ≠ some .last) :
    s.floor.list.find? (fun k => s.floorState k == some .last) = none := by
  simpa [State.floorState] using h

theorem find_hold_none (h : ∀ k ∈ s.floor.list, isHold s.srcs[k].floorState = false) :
    s.floor.list.find? (fun k => isHold (s.floorState k)) = none := by
  simpa [State.floorState] using h

/-- On a floor of OPEN members only a CHAIR finds a member, the oldest DELEGATE. -/
theorem evictee_of_opened (open_all : ∀ k ∈ s.floor.list, s.srcs[k].floorState = some .opened) :
    evictee chair s = if chair then s.floor.list.find? (fun k => s.srcs[k].isDelegate) else none := by
  have noLast := find_last_none (s := s) fun k hk => by rw [open_all k hk]; decide
  have noHold := find_hold_none (s := s) fun k hk => by rw [open_all k hk]; rfl
  have delegates : s.floor.list.find? (fun k => s.floorState k == some .opened && s.srcs[k].isDelegate) =
      s.floor.list.find? (fun k => s.srcs[k].isDelegate) :=
    List.find?_congr fun k hk => by rw [State.floorState, open_all k hk]; rfl
  rw [evictee, noLast, noHold, delegates]
  rfl

/-- A floor of OPEN members gives up none to a DELEGATE, and none to a CHAIR when they are CHAIRs. -/
theorem evictee_none (open_all : ∀ k ∈ s.floor.list, s.srcs[k].floorState = some .opened)
    (h : chair = false ∨ ∀ k ∈ s.floor.list, s.srcs[k].cls = some .chair) : evictee chair s = none := by
  rw [evictee_of_opened open_all]
  obtain rfl | chairs := h
  · rfl
  · have none_found : s.floor.list.find? (fun k => s.srcs[k].isDelegate) = none :=
      List.find?_eq_none.mpr fun k hk => by rw [not_isDelegate_of_chair (chairs k hk)]; decide
    rw [none_found, ite_self]

/-- A member given up stands on the floor, and when it is OPEN it is a DELEGATE. -/
theorem evictee_spec (h : evictee chair s = some j) :
    j ∈ s.floor.list ∧ (s.srcs[j].floorState = some .opened → s.srcs[j].isDelegate = true) := by
  simp only [evictee, Option.orElse_eq_orElse, Option.orElse_eq_or, Option.or_eq_some_iff] at h
  obtain hlast | ⟨-, hhold | ⟨-, hopen⟩⟩ := h
  · have last := List.find?_some hlast
    refine ⟨List.mem_of_find?_eq_some hlast, fun hopened => ?_⟩
    rw [State.floorState, hopened] at last
    cases last
  · have hold := List.find?_some hhold
    refine ⟨List.mem_of_find?_eq_some hhold, fun hopened => ?_⟩
    rw [State.floorState, hopened] at hold
    cases hold
  · split at hopen
    · have delegate := List.find?_some hopen
      exact ⟨List.mem_of_find?_eq_some hopen, fun _ => (Bool.and_eq_true_iff.mp delegate).2⟩
    · cases hopen

section Split

variable {older newer : List SrcSlot} (parts : s.floor.list = older ++ j :: newer)
include parts

theorem evictee_last (hj : s.srcs[j].floorState = some .last)
    (older_other : ∀ k ∈ older, s.srcs[k].floorState ≠ some .last) : evictee chair s = some j := by
  have found : s.floor.list.find? (fun k => s.floorState k == some .last) = some j := by
    rw [parts]
    exact find_eq_some_of_split (by simpa [State.floorState] using hj) (by simpa [State.floorState] using older_other)
  rw [evictee, found]
  rfl

theorem evictee_hold (hj : isHold s.srcs[j].floorState = true)
    (noLast : ∀ k ∈ s.floor.list, s.srcs[k].floorState ≠ some .last)
    (older_other : ∀ k ∈ older, isHold s.srcs[k].floorState = false) : evictee chair s = some j := by
  have found : s.floor.list.find? (fun k => isHold (s.floorState k)) = some j := by
    rw [parts]
    exact find_eq_some_of_split hj older_other
  rw [evictee, find_last_none noLast, found]
  rfl

theorem evictee_openDelegate (hj : s.srcs[j].cls = some .delegate)
    (open_all : ∀ k ∈ s.floor.list, s.srcs[k].floorState = some .opened)
    (older_chairs : ∀ k ∈ older, s.srcs[k].cls = some .chair) : evictee true s = some j := by
  rw [evictee_of_opened open_all, parts]
  exact find_eq_some_of_split (isDelegate_of_delegate hj) fun k hk => not_isDelegate_of_chair (older_chairs k hk)

end Split

/-! ### What the attempt answers -/

theorem windowExhausted_iff : windowExhausted s = true ↔ s.params.admitBurst ≤ s.floor.stamps.countP (·.live) := by
  rw [windowExhausted, FloorCtl.liveStamps, ← List.countP_eq_length_filter, decide_eq_true_iff]

/-- A DELEGATE fails while the admission window is exhausted (R62 step 1). -/
theorem tryAdmit_exhausted (hd : s.srcs[i].cls = some .delegate)
    (hw : s.params.admitBurst ≤ s.floor.stamps.countP (·.live)) : tryAdmit i s = none := by
  rw [tryAdmit, not_isChair_of_delegate hd, windowExhausted_iff.mpr hw]
  rfl

/-- A full floor that gives up no member lets the attempt fail (R62 step 5, R63 step 5). -/
theorem tryAdmit_full (full : s.params.maxOpen ≤ s.floor.list.length)
    (none_found : evictee s.srcs[i].isChair s = none) : tryAdmit i s = none := by
  rw [tryAdmit, if_neg full.not_gt, none_found, ite_self]

/-- A CHAIR passes the window, and so does a DELEGATE while it is not exhausted. -/
theorem window_passed (h : s.srcs[i].cls = some .chair ∨ s.floor.stamps.countP (·.live) < s.params.admitBurst) :
    ¬ (!s.srcs[i].isChair && windowExhausted s) = true := by
  rw [Bool.and_eq_true, Bool.not_eq_true', windowExhausted_iff]
  rintro ⟨notChair, exhausted⟩
  obtain isChair | live := h
  · rw [isChair_iff.mpr isChair] at notChair
    cases notChair
  · omega

/-- Past the window, an attempt admits into a free place, or by evicting the member a full floor gives up. -/
theorem tryAdmit_admits {e : Option SrcSlot}
    (window : s.srcs[i].cls = some .chair ∨ s.floor.stamps.countP (·.live) < s.params.admitBurst)
    (room : e = none ∧ s.floor.list.length < s.params.maxOpen ∨
      s.params.maxOpen ≤ s.floor.list.length ∧ e.isSome = true ∧ evictee s.srcs[i].isChair s = e) :
    tryAdmit i s = some (admitSource i e s) := by
  rw [tryAdmit, if_neg (window_passed window)]
  obtain ⟨rfl, short⟩ | ⟨full, found, hevict⟩ := room
  · rw [if_pos short]
  · obtain ⟨j, rfl⟩ := Option.isSome_iff_exists.mp found
    rw [if_neg full.not_gt, hevict]

/-! ### What an eviction leaves (R64 step 1) -/

/-- A member that can be given up: on the floor list alone, and a DELEGATE when it is OPEN. -/
structure Evictable (s : State) (j : SrcSlot) : Prop where
  member : j ∈ s.floor.list
  notInChairs : j ∉ s.floor.chairs
  notInDelegates : j ∉ s.floor.delegates
  delegate : s.srcs[j].floorState = some .opened → s.srcs[j].isDelegate = true

/-- Where the collections keep their law, the member an attempt finds can be given up. -/
theorem evictable_of_evictee (law : MembershipLaw s) (h : evictee chair s = some j) : Evictable s j := by
  obtain ⟨member, delegate⟩ := evictee_spec h
  have notPending : s.srcs[j].floorState ≠ some .pending := fun pending => by
    have onTheFloor := ((law.list j).mp member).2
    rw [pending] at onTheFloor
    cases onTheFloor
  exact ⟨member, fun hc => notPending ((law.chairs j).mp hc).2.2, fun hd => notPending ((law.delegates j).mp hd).2.2,
    delegate⟩

theorem evict_opened (h : s.srcs[j].floorState = some .opened) : evict j s = moveToHead j s :=
  if_pos (beq_iff_eq.mpr h)

theorem evict_closes (h : s.srcs[j].floorState ≠ some .opened) : evict j s = closeSource j s :=
  if_neg fun opened => h (beq_iff_eq.mp opened)

theorem moveToHead_floor (h : s.srcs[j].isChair = false) :
    (moveToHead j s).floor = { s.floor.without j with delegates := j :: s.floor.delegates.erase j } := by
  rw [moveToHead, h]
  rfl

/-- The member given up, if it is OPEN and so has to wait again (R64 step 1). -/
def requeued (s : State) (e : Option SrcSlot) : List SrcSlot :=
  e.elim [] fun j => if s.srcs[j].floorState = some .opened then [j] else []

theorem requeued_opened (h : s.srcs[j].floorState = some .opened) : requeued s (some j) = [j] := if_pos h

theorem requeued_other (h : s.srcs[j].floorState ≠ some .opened) : requeued s (some j) = [] := if_neg h

theorem mem_requeued {e : Option SrcSlot} (h : j ∈ requeued s e) : e = some j := by
  cases e with
  | none => exact absurd h List.not_mem_nil
  | some k =>
    by_cases opened : s.srcs[k].floorState = some .opened
    · rw [requeued_opened opened, List.mem_singleton] at h
      rw [h]
    · rw [requeued_other opened] at h
      exact absurd h List.not_mem_nil

/-- An eviction takes the member out of the floor list; an OPEN one joins the head of the delegate part. -/
theorem evict_floor (h : Evictable s j) : (evict j s).floor = { s.floor with
    list := s.floor.list.erase j
    delegates := requeued s (some j) ++ s.floor.delegates } := by
  have without : s.floor.without j = { s.floor with list := s.floor.list.erase j } := by
    rw [FloorCtl.without, List.erase_of_not_mem h.notInChairs, List.erase_of_not_mem h.notInDelegates]
  by_cases opened : s.srcs[j].floorState = some .opened
  · rw [evict_opened opened, moveToHead_floor (not_isChair_of_isDelegate (h.delegate opened)), without,
      requeued_opened opened, List.erase_of_not_mem h.notInDelegates]
    rfl
  · rw [evict_closes opened, closeSource, State.setFloorState_floor, without, requeued_other opened]
    rfl

/-- An evicted member is PENDING when it was OPEN, and otherwise CLOSED. -/
theorem evict_srcs (j : SrcSlot) (s : State) : (evict j s).srcs = (s.setSrc j { s.srcs[j] with
    floorState := some (if s.srcs[j].floorState = some .opened then .pending else .closed) }).srcs := by
  by_cases opened : s.srcs[j].floorState = some .opened
  · rw [evict_opened opened, moveToHead, State.setFloorState_srcs, State.setSrc_srcs, if_pos opened]
  · rw [evict_closes opened, closeSource, State.setFloorState_srcs, State.setSrc_srcs, if_neg opened]

/-! ### What an admission leaves (R59, R64) -/

/-- The state once the member to be evicted, if any, is gone. -/
def evicted (e : Option SrcSlot) (s : State) : State := e.elim s fun j => evict j s

theorem admitSource_eq (e : Option SrcSlot) : admitSource i e s = admitSource i none (evicted e s) := by
  cases e <;> rfl

theorem admitSource_none_floor (i : SrcSlot) (s : State) : (admitSource i none s).floor = {
    list := s.floor.list.erase i ++ [i]
    chairs := s.floor.chairs.erase i
    delegates := s.floor.delegates.erase i
    stamps := s.floor.stamps.drop (s.floor.stamps.length + 1 - s.params.admitBurst) ++ [⟨s.floor.block, true⟩]
    block := s.floor.block } := rfl

theorem admitSource_none_srcs (i : SrcSlot) (s : State) :
    (admitSource i none s).srcs = (s.setSrc i { s.srcs[i] with floorState := some .opened }).srcs := rfl

theorem evicted_params (e : Option SrcSlot) (s : State) : (evicted e s).params = s.params := by
  cases e with
  | none => rfl
  | some j => exact (evict_frame j s).params

theorem evicted_src_other {e : Option SrcSlot} (h : e ≠ some j) : (evicted e s).srcs[j] = s.srcs[j] := by
  cases e with
  | none => rfl
  | some k =>
    rw [evicted, Option.elim_some, evict_srcs, State.setSrc_other]
    exact fun same => h (congrArg some same.symm)

section Admitted

variable {e : Option SrcSlot} (outside : i ∉ s.floor.list) (evictable : ∀ k, e = some k → Evictable s k)
include evictable

theorem evicted_floor : (evicted e s).floor = { s.floor with
    list := e.elim s.floor.list s.floor.list.erase
    delegates := requeued s e ++ s.floor.delegates } := by
  cases e with
  | none => rfl
  | some j => exact evict_floor (evictable j rfl)

include outside

theorem evictee_ne (h : e = some j) : j ≠ i := by
  rintro rfl
  exact outside (evictable j h).member

/-- The admitted source stands at the tail of the floor list with its stamp, and no longer in the queue. -/
theorem admitSource_floor : (admitSource i e s).floor = {
    list := e.elim s.floor.list s.floor.list.erase ++ [i]
    chairs := s.floor.chairs.erase i
    delegates := requeued s e ++ s.floor.delegates.erase i
    stamps := s.floor.stamps.drop (s.floor.stamps.length + 1 - s.params.admitBurst) ++ [⟨s.floor.block, true⟩]
    block := s.floor.block } := by
  have notListed : i ∉ e.elim s.floor.list s.floor.list.erase := by
    cases e with
    | none => exact outside
    | some j => exact fun h => outside (List.mem_of_mem_erase h)
  have notRequeued : i ∉ requeued s e := fun h => evictee_ne outside evictable (mem_requeued h) rfl
  rw [admitSource_eq, admitSource_none_floor, evicted_floor evictable, evicted_params,
    List.erase_of_not_mem notListed, List.erase_append_right _ notRequeued]

theorem admitSource_src_admitted :
    (admitSource i e s).srcs[i] = { s.srcs[i] with floorState := some .opened } := by
  have kept : (evicted e s).srcs[i] = s.srcs[i] := evicted_src_other fun h => evictee_ne outside evictable h rfl
  rw [admitSource_eq, admitSource_none_srcs, State.setSrc_same, kept]

theorem admitSource_src_evicted (h : e = some j) : (admitSource i e s).srcs[j] = { s.srcs[j] with
    floorState := some (if s.srcs[j].floorState = some .opened then .pending else .closed) } := by
  have other : j ≠ i := evictee_ne outside evictable h
  rw [admitSource_eq, admitSource_none_srcs, State.setSrc_other _ _ other, h, evicted, Option.elim_some, evict_srcs,
    State.setSrc_same]

end Admitted

theorem admitSource_src_other {e : Option SrcSlot} (hi : j ≠ i) (he : e ≠ some j) :
    (admitSource i e s).srcs[j] = s.srcs[j] := by
  rw [admitSource_eq, admitSource_none_srcs, State.setSrc_other _ _ hi, evicted_src_other he]

/-! ### A failed attempt from CLOSED (R58) -/

theorem attempt_of_failed (h : tryAdmit i s = none) : attempt i s = joinTail i s := by
  rw [attempt, h, Option.getD_none]

theorem joinTail_eq (i : SrcSlot) (s : State) : joinTail i s = { s with
    srcs := s.srcs.set i { s.srcs[i] with floorState := some .pending }
    floor := { s.floor with
      chairs := if s.srcs[i].cls = some .chair then s.floor.chairs ++ [i] else s.floor.chairs
      delegates := if s.srcs[i].cls = some .chair then s.floor.delegates else s.floor.delegates ++ [i] } } := by
  simp only [joinTail, isChair_iff]
  split <;> rfl

/-! ### The obligation -/

/-- A CLOSED or PENDING source is not on the floor list (R56). -/
theorem not_member_of_waiting (law : MembershipLaw s)
    (waiting : s.srcs[i].floorState = some .closed ∨ s.srcs[i].floorState = some .pending) : i ∉ s.floor.list := by
  intro member
  have onTheFloor := ((law.list i).mp member).2
  obtain state | state := waiting <;> (rw [state] at onTheFloor; cases onTheFloor)

/-- Settles O38: the window and the floor decide what the attempt answers; where it admits, the eviction and the
admission leave the collections as given, and where it fails from CLOSED the source joins its class part. -/
theorem admissionIsDecidedByTheFloor : Obligations.AdmissionIsDecidedByTheFloor := by
  unfold Obligations.AdmissionIsDecidedByTheFloor
  intro s i law _ _ waiting
  refine ⟨tryAdmit_exhausted, fun full open_all h => ?full, fun e window room => ?admits, fun _ failed => ?queued⟩
  case full => exact tryAdmit_full full (evictee_none open_all (h.imp_left not_isChair_of_delegate))
  case admits =>
    have decided : e = none ∧ s.floor.list.length < s.params.maxOpen ∨
        s.params.maxOpen ≤ s.floor.list.length ∧ e.isSome = true ∧ evictee s.srcs[i].isChair s = e := by
      refine room.imp_right fun ⟨full, j, older, newer, he, parts, which⟩ => ⟨full, by rw [he]; rfl, ?_⟩
      rw [he]
      obtain ⟨last, others⟩ | ⟨hold, noLast, others⟩ | ⟨isChair, delegate, open_all, others⟩ := which
      · exact evictee_last parts last others
      · exact evictee_hold parts hold noLast others
      · rw [isChair_iff.mpr isChair]
        exact evictee_openDelegate parts delegate open_all others
    have answer := tryAdmit_admits window decided
    have outside : i ∉ s.floor.list := not_member_of_waiting law waiting
    have evictable : ∀ j, e = some j → Evictable s j := by
      rintro j rfl
      obtain ⟨impossible, -⟩ | ⟨-, -, found⟩ := decided
      · cases impossible
      · exact evictable_of_evictee law found
    have floor := admitSource_floor outside evictable
    refine ⟨_, answer, ?list, congrArg FloorCtl.chairs floor, ?delegates, congrArg FloorCtl.stamps floor,
      (tryAdmit_frame answer).block, admitSource_src_admitted outside evictable,
      fun _ => admitSource_src_evicted outside evictable, fun _ => admitSource_src_other, (tryAdmit_frame answer).rest⟩
    case list => rw [floor]; cases e <;> rfl
    case delegates => rw [floor]; cases e <;> rfl
  case queued => rw [attempt_of_failed failed, joinTail_eq]

end Sys2Proof.Machine.Admission
end

section
/-! Proofs for O26: FEED.ATTACH reads its destination, makes the checks of R87 in their order, and fills a FREE record
(R88). First what the destination code and the binding check answer, then the gain a new record begins with, then the
command's three refusals and its write. -/

namespace Sys2Proof.Machine.FeedAttach

variable {s : State} {slot dest : Byte} {master : Word} {excluded : Groups} {f : FeedSlot} {d : Destination}

/-! ### The operands and the binding check (R87, R204) -/

/-- A byte that holds a destination's code names that destination. -/
theorem destOfCode_code (h : dest.toNat = destCode d) : destOfCode dest = some d := by
  cases d with
  | podSpk l => simp [destOfCode, h, destCode, Nat.mod_eq_of_lt]
  | farSend p =>
    have below : 16 + p.val < 24 := by omega
    have index : (16 + p.val) % 8 = p.val := by omega
    simp [destOfCode, h, destCode, below, index]
  | auxOut a =>
    have past : 16 ≤ 24 + a.val := by omega
    have below : 24 + a.val < 32 := by omega
    have index : (24 + a.val) % 8 = a.val := by omega
    simp [destOfCode, h, destCode, past, below, index]

theorem destOfCode_out (h : 32 ≤ dest.toNat) : destOfCode dest = none := by
  rw [destOfCode, if_neg (by omega), if_neg (by omega), if_neg (by omega)]

theorem inUse_iff {x : Feed} : x.inUse = true ↔ x.state ≠ .free := bne_iff_ne

/-- The binding check looks for a record in use, in any slot, that holds the destination. -/
theorem destHeld_iff : destHeld s d = true ↔ ∃ g : FeedSlot, s.feeds[g].state ≠ .free ∧ s.feeds[g].dest = some d := by
  simp only [destHeld, feedSlots, List.any_eq_true, List.mem_finRange, true_and, Bool.and_eq_true, inUse_iff, beq_iff_eq]

/-! ### The record (R88) -/

/-- The gain of a new feed: from OFF toward its master, without a ramp where the master is OFF itself. -/
def fadeIn (m : Int) : GainUnit :=
  ⟨-192, m, if m = -192 then none else some ⟨-192, rampDuration (m + 192).natAbs, 0⟩⟩

/-- A free unit handed a target begins its fade-in (R105). -/
theorem hand_free (m : Int) : GainUnit.free.hand m = fadeIn m := by
  have ramp : (GainUnit.free.hand m).ramp = (fadeIn m).ramp := by
    rw [GainUnit.hand_ramp]
    by_cases h : m = -192 <;> simp [fadeIn, GainUnit.free, off, h]
  calc GainUnit.free.hand m
      = ⟨(GainUnit.free.hand m).current, (GainUnit.free.hand m).target, (GainUnit.free.hand m).ramp⟩ := rfl
    _ = fadeIn m := by
      rw [GainUnit.hand_current, GainUnit.hand_target, ramp]
      rfl

/-- The record of an accepted FEED.ATTACH. -/
def attached (d : Destination) (m : Int) (excluded : Groups) : Feed where
  state := .active
  dest := some d
  master := m
  muted := false
  excluded := excluded
  gain := fadeIn m
  clips := 0

/-- A new record, unmuted and ACTIVE, has its master for its target (R104). -/
theorem retargetFeed_new (d : Destination) (m : Int) (excluded : Groups) :
    retargetFeed { Feed.free 0 with state := .active, dest := some d, master := m, excluded := excluded }
      = attached d m excluded :=
  congrArg (fun g => { attached d m excluded with gain := g }) (hand_free m)

/-! ### What FEED.ATTACH answers (R87, R88) -/

theorem takeFeedAttach_out (h : 32 ≤ slot.toNat ∨ 32 ≤ dest.toNat) :
    takeFeedAttach slot dest master excluded s = .refused .badParam := by
  obtain slotOut | destOut := h
  · rw [takeFeedAttach, numberBelow_out slotOut]
  · rw [takeFeedAttach, destOfCode_out destOut]
    cases numberBelow 32 slot <;> rfl

/-- With a slot and a destination that exist, the slot check stands before the binding check. -/
theorem takeFeedAttach_named (hd : dest.toNat = destCode d) :
    takeFeedAttach (byteOf f) dest master excluded s =
      if s.feeds[f].inUse then .refused .busy
      else if destHeld s d then .refused .bound
      else .write (s.setFeed f (attached d (clampMaster master.toInt) excluded)) := by
  simp only [takeFeedAttach, numberBelow_byteOf f (by decide), destOfCode_code hd, retargetFeed_new]

theorem takeFeedAttach_busy (hd : dest.toNat = destCode d) (used : s.feeds[f].state ≠ .free) :
    takeFeedAttach (byteOf f) dest master excluded s = .refused .busy := by
  rw [takeFeedAttach_named hd, if_pos (inUse_iff.mpr used)]

theorem takeFeedAttach_free (hd : dest.toNat = destCode d) (free : s.feeds[f].state = .free) :
    takeFeedAttach (byteOf f) dest master excluded s =
      if destHeld s d then .refused .bound
      else .write (s.setFeed f (attached d (clampMaster master.toInt) excluded)) := by
  rw [takeFeedAttach_named hd, if_neg fun used => inUse_iff.mp used free]

theorem takeFeedAttach_bound (hd : dest.toNat = destCode d) (free : s.feeds[f].state = .free)
    (held : ∃ g : FeedSlot, s.feeds[g].state ≠ .free ∧ s.feeds[g].dest = some d) :
    takeFeedAttach (byteOf f) dest master excluded s = .refused .bound := by
  rw [takeFeedAttach_free hd free, if_pos (destHeld_iff.mpr held)]

theorem takeFeedAttach_accepted (hd : dest.toNat = destCode d) (free : s.feeds[f].state = .free)
    (unheld : ∀ g : FeedSlot, s.feeds[g].state ≠ .free → s.feeds[g].dest ≠ some d) :
    takeFeedAttach (byteOf f) dest master excluded s
      = .write (s.setFeed f (attached d (clampMaster master.toInt) excluded)) := by
  have notHeld : ¬ destHeld s d = true := fun held =>
    let ⟨g, used, holds⟩ := destHeld_iff.mp held
    unheld g used holds
  rw [takeFeedAttach_free hd free, if_neg notHeld]

/-! ### The command on the control link -/

theorem exec_feedAttach_refused {k : ErrKind} (ho : hostOwnsLine s)
    (h : takeFeedAttach slot dest master excluded (openPacket s) = .refused k) :
    exec (.feedAttach slot dest master excluded) s = .next (refusedWith k s) :=
  congrArg Host.Outcome.next (hostPacket_refused ho rfl h)

/-- An accepted packet leaves the new record, its own start and the interface in IDLE (R186, R188). -/
theorem exec_feedAttach_accepted {x : Feed} (ho : hostOwnsLine s)
    (h : takeFeedAttach slot dest master excluded (openPacket s) = .write ((openPacket s).setFeed f x)) :
    exec (.feedAttach slot dest master excluded) s = .next { written s with feeds := s.feeds.set f x } := by
  rw [← openPacket_feeds s]
  exact congrArg Host.Outcome.next (hostPacket_write ho rfl h)

/-- Settles O26: the checks read the feeds alone, which a packet start leaves; they answer in the order of R87, and
past them the command writes the record of R88. -/
theorem feedAttachIsCheckedAndFillsTheRecord : Obligations.FeedAttachIsCheckedAndFillsTheRecord := by
  unfold Obligations.FeedAttachIsCheckedAndFillsTheRecord
  intro s slot dest master excluded ho
  refine ⟨fun out => exec_feedAttach_refused ho (takeFeedAttach_out out), ?named⟩
  rintro f d rfl hd
  rw [← openPacket_feeds s]
  refine ⟨fun used => ?busy, fun free => ⟨fun held => ?bound, fun unheld => ⟨_, rfl, ?accepted⟩⟩⟩
  case busy => exact exec_feedAttach_refused ho (takeFeedAttach_busy hd used)
  case bound => exact exec_feedAttach_refused ho (takeFeedAttach_bound hd free held)
  case accepted =>
    rw [openPacket_feeds]
    exact exec_feedAttach_accepted ho (takeFeedAttach_accepted hd free unheld)

end Sys2Proof.Machine.FeedAttach
end

section
/-! Proofs for O43: a target handed to the ramp unit makes the record R106 gives, and stepping it brings the current gain
along the truncated parts of the difference to the target (R105 to R107). -/

namespace Sys2Proof.Machine.RampSteps

variable {g : GainUnit} {a b : Int} {d j : Nat}

/-! ### The duration (R106) -/

theorem rampDuration_eq {diff : Nat}
    (h : diff ≤ 2 ∧ d = 1 ∨ 3 ≤ diff ∧ diff ≤ 12 ∧ d = 4 ∨ 13 ≤ diff ∧ d = 16) : rampDuration diff = d := by
  unfold rampDuration
  split_ifs <;> omega

theorem rampDuration_pos (diff : Nat) : 0 < rampDuration diff := by
  unfold rampDuration
  split_ifs <;> decide

/-! ### The used value (R107) -/

theorem rampUsed_zero (a b : Int) (d : Nat) : rampUsed a b 0 d = a := by simp [rampUsed]

theorem rampUsed_last (a b : Int) (hd : 0 < d) : rampUsed a b d d = b := by
  rw [rampUsed, Int.mul_tdiv_cancel _ (by omega)]
  omega

/-- Toward a target above, the truncated part is the quotient of natural numbers. -/
theorem rampUsed_up (h : a ≤ b) (j d : Nat) : rampUsed a b j d = a + (((b - a).toNat * j / d : Nat) : Int) := by
  rw [rampUsed, Int.ofNat_tdiv, Nat.cast_mul, Int.toNat_of_nonneg (by omega)]

/-- Toward a target below, the part is truncated toward zero as well. -/
theorem rampUsed_down (h : b ≤ a) (j d : Nat) : rampUsed a b j d = a - (((a - b).toNat * j / d : Nat) : Int) := by
  have turned : (b - a) * (j : Int) = -((a - b) * j) := by ring
  rw [rampUsed, turned, Int.neg_tdiv, Int.ofNat_tdiv, Nat.cast_mul, Int.toNat_of_nonneg (by omega)]
  exact Int.sub_eq_add_neg.symm

/-! ### A target handed over (R105) -/

theorem hand_of_eq_target (h : b = g.target) : g.hand b = g := if_pos h

theorem hand_of_eq_current (ht : b ≠ g.target) (hc : b = g.current) : g.hand b = ⟨g.current, b, none⟩ :=
  (if_neg ht).trans (if_pos hc)

theorem hand_of_ne (ht : b ≠ g.target) (hc : b ≠ g.current) :
    g.hand b = ⟨g.current, b, some ⟨g.current, rampDuration (b - g.current).natAbs, 0⟩⟩ :=
  (if_neg ht).trans (if_neg hc)

/-! ### The steps and the end of a ramp (R107) -/

/-- A unit on its way from a to b, with j of the ramp's d steps done. -/
def onRamp (a b : Int) (d j : Nat) : GainUnit := ⟨rampUsed a b j d, b, some ⟨a, d, j⟩⟩

theorem step_onRamp (h : j < d) : (onRamp a b d j).step = onRamp a b d (j + 1) := if_pos h

theorem finish_onRamp_lt (h : j < d) : (onRamp a b d j).finish = onRamp a b d j := if_neg (Nat.not_le.mpr h)

theorem finish_onRamp_last (hd : 0 < d) : (onRamp a b d d).finish = ⟨b, b, none⟩ := by
  calc (onRamp a b d d).finish = ⟨rampUsed a b d d, b, none⟩ := if_pos le_rfl
    _ = ⟨b, b, none⟩ := by rw [rampUsed_last a b hd]

theorem iterate_step_onRamp (h : j ≤ d) : GainUnit.step^[j] (onRamp a b d 0) = onRamp a b d j := by
  induction j with
  | zero => rfl
  | succ j ih => rw [Function.iterate_succ_apply', ih (by omega), step_onRamp h]

theorem hand_eq_onRamp (ht : b ≠ g.target) (hc : b ≠ g.current) :
    g.hand b = onRamp g.current b (rampDuration (b - g.current).natAbs) 0 := by
  rw [hand_of_ne ht hc, onRamp, rampUsed_zero]

/-- Settles O43: a new target puts the unit on a ramp of its duration, and the steps walk along it. -/
theorem rampsStepToTheirTarget : Obligations.RampsStepToTheirTarget := by
  unfold Obligations.RampsStepToTheirTarget
  intro g b
  refine ⟨hand_of_eq_target, hand_of_eq_current, fun d ht hc _ hd => ?new⟩
  obtain rfl := rampDuration_eq hd
  refine ⟨hand_of_ne ht hc, fun j hj => ?underway, ?last⟩
  case underway =>
    rw [hand_eq_onRamp ht hc, iterate_step_onRamp hj]
    exact ⟨rfl, rfl, fun up => rampUsed_up up _ _, fun down => rampUsed_down down _ _, finish_onRamp_lt⟩
  case last =>
    rw [hand_eq_onRamp ht hc, iterate_step_onRamp le_rfl, finish_onRamp_last (rampDuration_pos _)]

end Sys2Proof.Machine.RampSteps
end

section
/-! Proofs for O46: the mix of a feed is exact (R96, R97, R112, R115 to R118). The contribution index is read once for a
term that R96 or OFF silences and once for one that counts; the sum over the slots is then scaled and clamped sample by
sample, and a destination's block is that of the one feed that held it. -/

namespace Sys2Proof.Machine.ExactMix

variable {v : MixView} {x : FeedView} {y : SrcView} {o : Origin} {d : Destination} {xp : Int}

/-! ### The exclusions (R96) -/

/-- The three ways in which an origin stands at a destination's site. -/
theorem sameSite_iff : sameSite o d = true ↔
    (∃ l e, o = .pod l e ∧ d = .podSpk l) ∨ (∃ p, o = .far p ∧ d = .farSend p) ∨ ∃ a, o = .aux a ∧ d = .auxOut a := by
  constructor
  · unfold sameSite
    split
    · exact fun same => .inl ⟨_, _, rfl, congrArg _ (beq_iff_eq.mp same).symm⟩
    · exact fun same => .inr (.inl ⟨_, rfl, congrArg _ (beq_iff_eq.mp same).symm⟩)
    · exact fun same => .inr (.inr ⟨_, rfl, congrArg _ (beq_iff_eq.mp same).symm⟩)
    · exact fun same => (Bool.false_ne_true same).elim
  · rintro (⟨l, e, rfl, rfl⟩ | ⟨p, rfl, rfl⟩ | ⟨a, rfl, rfl⟩) <;> exact beq_self_eq_true _

theorem siteExcluded_iff : siteExcluded y x = true ↔
    ∃ o d, y.origin = some o ∧ x.dest = some d ∧ sameSite o d = true := by
  unfold siteExcluded
  split
  next o d ho hd => simp [ho, hd]
  next unnamed =>
    refine ⟨fun h => (Bool.false_ne_true h).elim, ?_⟩
    rintro ⟨o, d, ho, hd, -⟩
    exact (unnamed o d ho hd).elim

theorem not_siteExcluded (pod : ∀ l e, y.origin = some (.pod l e) → x.dest ≠ some (.podSpk l))
    (far : ∀ p, y.origin = some (.far p) → x.dest ≠ some (.farSend p))
    (aux : ∀ a, y.origin = some (.aux a) → x.dest ≠ some (.auxOut a)) : siteExcluded y x = false := by
  rw [← Bool.not_eq_true, siteExcluded_iff]
  rintro ⟨o, d, ho, hd, same⟩
  obtain ⟨l, e, rfl, rfl⟩ | ⟨p, rfl, rfl⟩ | ⟨a, rfl, rfl⟩ := sameSite_iff.mp same
  · exact pod l e ho hd
  · exact far p ho hd
  · exact aux a ho hd

theorem groupExcluded_iff : groupExcluded y x = true ↔ y.groups &&& x.excluded ≠ 0 := bne_iff_ne

/-- A common group excludes the source. -/
theorem groupExcluded_of_common {g : Nat} (hy : y.groups.getLsbD g = true) (hx : x.excluded.getLsbD g = true) :
    groupExcluded y x = true := by
  rw [groupExcluded_iff]
  intro disjoint
  have common : (y.groups &&& x.excluded).getLsbD g = true := by rw [BitVec.getLsbD_and, hy, hx, Bool.and_self]
  rw [disjoint] at common
  exact Bool.false_ne_true (BitVec.getLsbD_zero.symm.trans common)

/-! ### The contribution index (R96, R112) -/

/-- What keeps a bound source out of a feed: an exclusion, or a term that is OFF. -/
def Silenced (xp : Int) (y : SrcView) (x : FeedView) : Prop :=
  siteExcluded y x = true ∨ groupExcluded y x = true ∨ xp = off ∨ y.gain = off ∨ x.gain = off

/-- R96's causes, as the rule words them: the same site, a common group, or a term that is OFF. -/
theorem silenced_of_cause (h : (∃ o d, y.origin = some o ∧ x.dest = some d ∧
      ((∃ l e, o = .pod l e ∧ d = .podSpk l) ∨ (∃ p, o = .far p ∧ d = .farSend p) ∨ ∃ a, o = .aux a ∧ d = .auxOut a)) ∨
    (∃ g, y.groups.getLsbD g = true ∧ x.excluded.getLsbD g = true) ∨ xp = off ∨ y.gain = off ∨ x.gain = off) :
    Silenced xp y x := by
  obtain ⟨o, d, ho, hd, site⟩ | ⟨g, hy, hx⟩ | term := h
  · exact .inl (siteExcluded_iff.mpr ⟨o, d, ho, hd, sameSite_iff.mpr site⟩)
  · exact .inr (.inl (groupExcluded_of_common hy hx))
  · exact .inr (.inr term)

theorem not_silenced (site : siteExcluded y x = false) (groups : y.groups &&& x.excluded = 0) (hxp : xp ≠ off)
    (hy : y.gain ≠ off) (hx : x.gain ≠ off) : ¬ Silenced xp y x := by
  rintro (same | common | xpOff | srcOff | feedOff)
  · exact Bool.false_ne_true (site.symm.trans same)
  · exact groupExcluded_iff.mp common groups
  · exact hxp xpOff
  · exact hy srcOff
  · exact hx feedOff

theorem contribution_none (xp : Int) (x : FeedView) : contribution xp none x = off := rfl

theorem contribution_silenced (h : Silenced xp y x) : contribution xp (some y) x = off :=
  if_pos (by simpa [Silenced, or_assoc] using h)

theorem contribution_heard (h : ¬ Silenced xp y x) : contribution xp (some y) x = clampGain (xp + y.gain + x.gain) :=
  if_neg (by simpa [Silenced, or_assoc] using h)

/-! ### The sum, the scaling and the clamp (R115 to R118) -/

/-- R115's sum is the sum over the eighty slots. -/
theorem mixSum_mixTerms (v : MixView) (f : FeedSlot) (x : FeedView) (n : Fin 96) :
    mixSum (mixTerms v f x) n = ∑ i : SrcSlot, (viewBlock v.srcs[i])[n].toInt *
      (coefficient (contribution v.xp[f][i] v.srcs[i] x) : Int) := by
  rw [mixSum, mixTerms, srcSlots, List.foldl_map, Fin.sum_univ_def, List.sum_eq_foldl, List.foldl_map]

/-- Scaling takes the greatest integer not above the quotient (R116). -/
theorem scaleSum_spec (acc : Int) :
    8192 * scaleSum acc ≤ acc + 4096 ∧ acc + 4096 < 8192 * (scaleSum acc + 1) := by
  rw [scaleSum, Int.fdiv_eq_ediv_of_nonneg _ (by decide)]
  omega

/-- The clamp changes exactly the samples outside the 24-bit range. -/
theorem clampSample_ne_iff (z : Int) : (clampSample z != z) = true ↔ z < -8388608 ∨ 8388607 < z := by
  rw [bne_iff_ne, clampSample, clampInt]
  omega

/-- A clamped sample is held exactly in 24 bits (R117). -/
theorem toInt_ofInt_clampSample (z : Int) : (BitVec.ofInt 24 (clampSample z)).toInt = max (-8388608) (min 8388607 z) := by
  obtain ⟨lo, hi⟩ := clampInt_mem (lo := -8388608) (hi := 8388607) (by decide) z
  exact BitVec.toInt_ofInt_eq_self (by decide) lo (Int.lt_add_one_of_le hi)

theorem feedBlock_toInt (terms : List (Int × Block)) (n : Fin 96) :
    (feedBlock terms)[n].toInt = max (-8388608) (min 8388607 (scaleSum (mixSum terms n))) := by
  rw [feedBlock, Fin.getElem_fin, Vector.getElem_ofFn]
  exact toInt_ofInt_clampSample _

/-- The clips are the samples that the clamp changes (R118). -/
theorem clipCount_eq_card (terms : List (Int × Block)) : clipCount terms = (Finset.univ.filter fun n : Fin 96 =>
    scaleSum (mixSum terms n) < -8388608 ∨ 8388607 < scaleSum (mixSum terms n)).card := by
  rw [clipCount, ← List.toFinset_card_of_nodup ((List.nodup_finRange 96).filter _)]
  congr 1
  ext n
  rw [List.mem_toFinset, List.mem_filter, clampSample_ne_iff]
  simp

/-! ### The destination (R86, R97) -/

/-- The feed found for a destination held it. -/
theorem feedAt_holds {f : FeedSlot} (h : feedAt v d = some f) : ∃ x, v.feeds[f] = some x ∧ x.dest = some d := by
  have found := List.find?_some h
  split at found
  next x hx => exact ⟨x, hx, beq_iff_eq.mp found⟩
  next => cases found

theorem feedAt_eq_none (h : ∀ (f : FeedSlot) (x : FeedView), v.feeds[f] = some x → x.dest ≠ some d) :
    feedAt v d = none := by
  rw [Option.eq_none_iff_forall_ne_some]
  intro f hf
  obtain ⟨x, hx, hd⟩ := feedAt_holds hf
  exact h f x hx hd

/-- A destination that one feed held is given that feed's block. -/
theorem feedAt_eq_some {f : FeedSlot} (hx : v.feeds[f] = some x) (hd : x.dest = some d)
    (only : ∀ (g : FeedSlot) (z : FeedView), v.feeds[g] = some z → z.dest = some d → g = f) : feedAt v d = some f := by
  cases h : feedAt v d with
  | some g =>
    obtain ⟨z, hz, held⟩ := feedAt_holds h
    rw [only g z hz held]
  | none =>
    have unheld := List.find?_eq_none.mp h f (List.mem_finRange f)
    simp [hx, hd, -Fin.getElem_fin] at unheld

theorem blockFor_unheld (h : feedAt v d = none) : blockFor v d = silence := by rw [blockFor, h]

theorem blockFor_held {f : FeedSlot} (h : feedAt v d = some f) (hx : v.feeds[f] = some x) :
    blockFor v d = feedBlock (mixTerms v f x) := by
  simp only [blockFor, h, hx]

theorem clipsOf_formed {f : FeedSlot} (hx : v.feeds[f] = some x) : clipsOf v f = clipCount (mixTerms v f x) := by
  simp only [clipsOf, hx]

theorem silence_getElem (n : Fin 96) : silence[n] = 0 := Vector.getElem_replicate n.isLt

/-- Settles O46: a feed's samples are its scaled sums, and a destination receives the clamped block of the feed that held
it, or silence. -/
theorem everyFeedSampleIsTheExactMix : Obligations.EveryFeedSampleIsTheExactMix := by
  unfold Obligations.EveryFeedSampleIsTheExactMix
  intro v
  refine ⟨fun d unheld n => ?silence, fun f i x => ⟨fun unbound => ?unbound, fun y bound => ?bound⟩, fun f x hx => ?mix⟩
  case silence => rw [blockFor_unheld (feedAt_eq_none unheld), silence_getElem]
  case unbound => rw [unbound]; exact contribution_none _ x
  case bound =>
    rw [bound]
    exact ⟨fun cause => contribution_silenced (silenced_of_cause cause), fun pod far aux groups hxp hy hx =>
      contribution_heard (not_silenced (not_siteExcluded pod far aux) groups hxp hy hx)⟩
  case mix =>
    refine ⟨fun n => scaleSum (mixSum (mixTerms v f x) n), fun n => ?_, ?_, fun d hd only n => ?_⟩
    · rw [← mixSum_mixTerms]
      exact scaleSum_spec _
    · rw [clipsOf_formed hx, clipCount_eq_card]
    · rw [blockFor_held (feedAt_eq_some hx hd only) hx, feedBlock_toInt]

end Sys2Proof.Machine.ExactMix
end

section
/-! Proofs for O48: the coefficient is 8192 x 10^(E/40) rounded, a half up (R114). The model's integer test of a number m
says that m is at most that power and a half, the binary search over a test of this form finds the greatest number
that passes it below 2^15, and the power at 24 stays under 32 614. -/

namespace Sys2Proof.Machine.CoefficientPower

variable {e : Int} {m N : Nat}

/-! ### The test of one number -/

/-- The exact value that R114 rounds. -/
noncomputable def power (e : Int) : ℝ := 8192 * (10 : ℝ) ^ ((e : ℝ) / 40)

theorem power_nonneg : 0 ≤ power e := by unfold power; positivity

/-- The fortieth power clears the exponent's fraction: the integers that the model compares. -/
theorem two_mul_power_pow (e : Int) :
    (2 * power e) ^ 40 * 10 ^ (-e).toNat = (16384 : ℝ) ^ 40 * 10 ^ e.toNat := by
  have root : ((10 : ℝ) ^ ((e : ℝ) / 40)) ^ 40 = (10 : ℝ) ^ e := by
    rw [← Real.rpow_mul_natCast (by norm_num), ← Real.rpow_intCast]
    norm_num
  have sign : (10 : ℝ) ^ e * 10 ^ (-e).toNat = 10 ^ e.toNat := by
    rw [← zpow_natCast, ← zpow_natCast, ← zpow_add₀ (by norm_num)]
    congr 1
    omega
  calc (2 * power e) ^ 40 * 10 ^ (-e).toNat
      = 16384 ^ 40 * (((10 : ℝ) ^ ((e : ℝ) / 40)) ^ 40 * 10 ^ (-e).toNat) := by rw [power]; ring
    _ = 16384 ^ 40 * 10 ^ e.toNat := by rw [root, sign]

/-- The model's test says what R114 asks of the numbers up to the rounded one. -/
theorem coefReaches_iff (hm : 1 ≤ m) : coefReaches e m = true ↔ (m : ℝ) ≤ power e + 1 / 2 := by
  have odd : ((2 * m - 1 : Nat) : ℝ) = 2 * m - 1 := by
    rw [Nat.cast_sub (by omega)]
    push_cast
    ring
  calc coefReaches e m = true
      ↔ (2 * m - 1) ^ 40 * 10 ^ (-e).toNat ≤ 16384 ^ 40 * 10 ^ e.toNat := decide_eq_true_iff
    _ ↔ ((2 * m - 1 : Nat) : ℝ) ^ 40 * 10 ^ (-e).toNat ≤ (16384 : ℝ) ^ 40 * 10 ^ e.toNat := by
        exact_mod_cast Iff.rfl
    _ ↔ ((2 * m - 1 : Nat) : ℝ) ^ 40 ≤ (2 * power e) ^ 40 := by
        rw [← two_mul_power_pow, mul_le_mul_iff_left₀ (by positivity)]
    _ ↔ ((2 * m - 1 : Nat) : ℝ) ≤ 2 * power e :=
        pow_le_pow_iff_left₀ (Nat.cast_nonneg _) (mul_nonneg zero_le_two power_nonneg) (by norm_num)
    _ ↔ (m : ℝ) ≤ power e + 1 / 2 := by
        rw [odd]
        constructor <;> intro h <;> linarith

/-- The rounded power: the nearest integer, a half up. -/
noncomputable def rounded (e : Int) : Nat := ⌊power e + 1 / 2⌋₊

theorem coefReaches_iff_le_rounded (hm : 1 ≤ m) : coefReaches e m = true ↔ m ≤ rounded e :=
  (coefReaches_iff hm).trans (Nat.le_floor_iff (add_nonneg power_nonneg (by norm_num))).symm

/-! ### The search -/

/-- Where exactly the numbers up to N are reached, the search over some binary digits ends at N, or at the last number
it can form. -/
theorem coefSearch_eq_min (hN : ∀ m, 1 ≤ m → (coefReaches e m = true ↔ m ≤ N)) (bits acc : Nat) (hacc : acc ≤ N) :
    coefSearch e bits acc = min N (acc + 2 ^ bits - 1) := by
  induction bits generalizing acc with
  | zero => simp [coefSearch, hacc]
  | succ bits ih =>
    have pos : 1 ≤ 2 ^ bits := Nat.one_le_two_pow
    have test := hN (acc + 2 ^ bits) (by omega)
    rw [coefSearch, Nat.pow_succ]
    split
    next reached =>
      rw [ih _ (test.mp reached)]
      omega
    next missed =>
      rw [test] at missed
      rw [ih acc hacc]
      omega

/-! ### The bound -/

/-- 32 614 is not reached at the greatest contribution index. -/
theorem rounded_max_lt : rounded 24 < 32614 := by
  have missed : ¬ coefReaches 24 32614 = true := by decide
  exact not_le.mp fun h => missed ((coefReaches_iff_le_rounded (by decide)).mpr h)

theorem rounded_mono {e' : Int} (h : e ≤ e') : rounded e ≤ rounded e' := by
  have hreal : (e : ℝ) ≤ e' := by exact_mod_cast h
  have hpow : power e ≤ power e' := by
    unfold power
    gcongr
    norm_num
  exact Nat.floor_le_floor (by linarith)

theorem rounded_le (h : e ≤ 24) : rounded e ≤ 32613 := by
  have := rounded_mono h
  have := rounded_max_lt
  omega

/-- Fifteen binary digits hold every rounded power, so the search ends at it. -/
theorem coefficient_eq_rounded (lo : -191 ≤ e) (hi : e ≤ 24) : coefficient e = rounded e := by
  have notOff : e ≠ off := by unfold off; omega
  have bound := rounded_le hi
  rw [coefficient, if_neg notOff,
    coefSearch_eq_min (fun _ hm => coefReaches_iff_le_rounded hm) 15 0 (Nat.zero_le _)]
  omega

/-- Settles O48: the search finds the floor of the power and a half, and that of the greatest index is 32 613. -/
theorem coefficientIsTheRoundedPower : Obligations.CoefficientIsTheRoundedPower := by
  unfold Obligations.CoefficientIsTheRoundedPower
  refine ⟨rfl, fun e lo hi => ?_⟩
  rw [coefficient_eq_rounded lo hi]
  exact ⟨Int.natCast_floor_eq_floor (add_nonneg power_nonneg (by norm_num)), rounded_le hi⟩

end Sys2Proof.Machine.CoefficientPower
end

section
/-! The rules of the Bank Store's edit bank (R123), and of a host command that reaches the Bank Store alone: they serve
the proofs of the Bank Store's commands below. -/

namespace Sys2Proof.Machine

variable {s : State} {b : BankStore} {code : Byte} {take : State → Taken}

/-! ### A write of the edit bank -/

@[simp] theorem setEdit_operating (b : BankStore) (x : Bank) : (b.setEdit x).operating = b.operating := by
  unfold BankStore.setEdit
  split <;> rfl

@[simp] theorem setEdit_swap (b : BankStore) (x : Bank) : (b.setEdit x).swap = b.swap := by
  unfold BankStore.setEdit
  split <;> rfl

@[simp] theorem setEdit_window (b : BankStore) (x : Bank) : (b.setEdit x).window = b.window := by
  unfold BankStore.setEdit
  split <;> rfl

@[simp] theorem setEdit_cursor (b : BankStore) (x : Bank) : (b.setEdit x).cursor = b.cursor := by
  unfold BankStore.setEdit
  split <;> rfl

/-- The edit bank is the one written. -/
@[simp] theorem setEdit_editBank (b : BankStore) (x : Bank) : (b.setEdit x).editBank = x := by
  unfold BankStore.setEdit
  split <;> rename_i h <;> simp [BankStore.editBank, BankStore.bank, otherBank, h]

/-- The operating bank is not reached by a write of the edit bank. -/
@[simp] theorem setEdit_opBank (b : BankStore) (x : Bank) : (b.setEdit x).opBank = b.opBank := by
  unfold BankStore.setEdit
  split <;> rename_i h <;> simp [BankStore.opBank, BankStore.bank, h]

theorem setEdit_bank_edit (b : BankStore) (x : Bank) : (b.setEdit x).bank (otherBank b.operating) = x := by
  have edit := setEdit_editBank b x
  rwa [BankStore.editBank, setEdit_operating] at edit

theorem setEdit_bank_operating (b : BankStore) (x : Bank) : (b.setEdit x).bank b.operating = b.opBank := by
  have op := setEdit_opBank b x
  rwa [BankStore.opBank, setEdit_operating] at op

/-- A write of the edit bank reaches nothing beside the two banks. -/
theorem setEdit_rest (b : BankStore) (x : Bank) : { b.setEdit x with a := b.a, b := b.b } = b := by
  simp

/-- Of two writes of the edit bank the later stays. -/
@[simp] theorem setEdit_setEdit (b : BankStore) (x y : Bank) : (b.setEdit x).setEdit y = b.setEdit y := by
  unfold BankStore.setEdit
  cases b.operating <;> simp

/-! ### Packets that reach the Bank Store alone -/

/-- What a write of the Bank Store alone leaves (R188). -/
theorem hostPacket_banks (h : hostOwnsLine s) (hc : readCode code = false)
    (ht : take (openPacket s) = .write { openPacket s with banks := b }) :
    hostPacket code take s = { written s with banks := b } := hostPacket_write h hc ht

/-- After a write's packet the host owns the line (R188). -/
theorem hostOwnsLine_written (s : State) (b : BankStore) : hostOwnsLine { written s with banks := b } := nofun

/-- A packet that follows a write's packet leaves what the write left of the control link. -/
theorem written_written (s : State) (b c : BankStore) :
    { written { written s with banks := b } with banks := c } = { written s with banks := c } := rfl

end Sys2Proof.Machine
end

section
/-! Proofs for O28: outside SETTLED every command that would reach the edit bank or start a swap is refused with BUSY
before it does anything; in SETTLED, BANK.SWAP and BANK.COPY write the Bank Store alone (R129, R133, R134). -/

namespace Sys2Proof.Machine.SwapState

variable {s : State}

/-! ### SETTLED -/

theorem exec_bankSwap (ho : hostOwnsLine s) (settled : s.banks.swap = .settled) :
    exec .bankSwap s = .next { written s with banks := { s.banks with swap := .swapPending } } :=
  congrArg Host.Outcome.next (hostPacket_banks ho rfl (by simp only [takeBankSwap, openPacket_banks, if_pos settled]))

theorem exec_bankCopy (ho : hostOwnsLine s) (settled : s.banks.swap = .settled) :
    exec .bankCopy s = .next { written s with banks := s.banks.setEdit s.banks.opBank } :=
  congrArg Host.Outcome.next (hostPacket_banks ho rfl (by simp only [takeBankCopy, openPacket_banks, if_pos settled]))

/-! ### Outside SETTLED (R133) -/

theorem takeBankSwap_busy (h : s.banks.swap ≠ .settled) : takeBankSwap s = .refused .busy := by
  rw [takeBankSwap, if_neg h]

theorem takeBankCopy_busy (h : s.banks.swap ≠ .settled) : takeBankCopy s = .refused .busy := by
  rw [takeBankCopy, if_neg h]

/-- The swap state is checked before any identifier (R126). -/
theorem takeParamSet_busy {pairs : List (Word × Word)} (h : s.banks.swap ≠ .settled) (lo : 1 ≤ pairs.length)
    (hi : pairs.length ≤ 128) : takeParamSet pairs s = .refused .busy := by
  rw [takeParamSet, if_neg (by omega), if_pos h]

theorem takeXpWrite_busy {words : List Word} (h : s.banks.swap ≠ .settled) (lo : 1 ≤ words.length)
    (hi : words.length ≤ 256) (start : Nat) : takeXpWrite start words s = .refused .busy := by
  rw [takeXpWrite, if_neg (by omega), if_pos h]

/-- Settles O28: one write of the Bank Store for each of the two commands in SETTLED, one refusal for each of the five
outside it. -/
theorem bankSwapAndCopyNeedSettled : Obligations.BankSwapAndCopyNeedSettled := by
  unfold Obligations.BankSwapAndCopyNeedSettled
  intro s ho
  refine ⟨fun settled => ⟨exec_bankSwap ho settled, s.banks.setEdit s.banks.opBank, exec_bankCopy ho settled,
    setEdit_bank_operating .., setEdit_bank_edit .., setEdit_operating .., (setEdit_swap ..).trans settled,
    setEdit_window .., setEdit_cursor ..⟩, fun unsettled => ?_⟩
  have busy : (openPacket s).banks.swap ≠ .settled := by rwa [openPacket_banks]
  refine ⟨?swap, ?copy, fun pairs lo hi => ?paramSet, fun words lo hi => ⟨?put, ?putNext⟩⟩
  case swap => exact congrArg _ (hostPacket_refused ho rfl (takeBankSwap_busy busy))
  case copy => exact congrArg _ (hostPacket_refused ho rfl (takeBankCopy_busy busy))
  case paramSet => exact congrArg _ (hostPacket_refused ho rfl (takeParamSet_busy busy lo hi))
  case put => exact congrArg _ (hostPacket_refused ho rfl (takeXpWrite_busy busy lo hi _))
  case putNext => exact congrArg _ (hostPacket_refused ho rfl (takeXpWrite_busy busy lo hi _))

end Sys2Proof.Machine.SwapState
end

section
/-! Proofs for O29: a parameter's value is clamped to a range and stored at the place of its identifier, a Margin lowering
the Hysteresis (R124, R125); the pairs of a packet are a fold, so a packet cut in two is the same as its two parts
(R126). -/

namespace Sys2Proof.Machine.ParamWrites

variable {s : State} {w : Word} {id : ParamId}

/-! ### The pairs of a payload (R126) -/

theorem wordPairs_odd (ws : List Word) (h : ws.length % 2 = 1) : wordPairs ws = none := by
  induction ws using wordPairs.induct with
  | case1 => simp at h
  | case2 => rfl
  | case3 i v rest ih =>
    have restOdd : rest.length % 2 = 1 := by
      simp only [List.length_cons] at h
      omega
    rw [wordPairs, ih restOdd, Option.map_none]

theorem decodeLong_paramSet_odd {ws : List Word} (h : ws.length % 2 = 1) : decodeLong 0x33 ws = none := by
  simp [decodeLong, wordPairs_odd ws h]

/-! ### Identifiers (R204) -/

/-- The identifier of a parameter, 1 to 14. -/
def number : ParamId → Nat
  | .maxOpen => 1
  | .holdBlocks => 2
  | .lastMic => 3
  | .nomOn => 4
  | .margin => 5
  | .hysteresis => 6
  | .voiceFloor => 7
  | .closedAtten => 8
  | .admitBurst => 9
  | .admitWindow => 10
  | .twmBlocks => 11
  | .attackShift => 12
  | .releaseShift => 13
  | .creepBlocks => 14

theorem paramOfId_out (h : w.toNat = 0 ∨ 14 < w.toNat) : paramOfId w = none := by
  unfold paramOfId
  split
  case h_15 => rfl
  all_goals omega

theorem paramOfId_known (lo : 1 ≤ w.toNat) (hi : w.toNat ≤ 14) :
    ∃ id, paramOfId w = some id ∧ w.toNat = number id := by
  unfold paramOfId
  generalize w.toNat = n at *
  interval_cases n <;> exact ⟨_, rfl, rfl⟩

theorem readPairs_cons {v : Word} {rest : List (Word × Word)} {ps : List (ParamId × Int)} (hw : paramOfId w = some id)
    (hrest : readPairs rest = some ps) : readPairs ((w, v) :: rest) = some ((id, v.toInt) :: ps) := by
  rw [readPairs, hw, hrest]

/-- One identifier that names no parameter makes the whole list unreadable. -/
theorem readPairs_unknown {pairs : List (Word × Word)} (h : ∃ p ∈ pairs, p.1.toNat = 0 ∨ 14 < p.1.toNat) :
    readPairs pairs = none := by
  obtain ⟨p, hp, out⟩ := h
  induction pairs with
  | nil => cases hp
  | cons a rest ih =>
    obtain ⟨w, v⟩ := a
    obtain rfl | hp := List.mem_cons.mp hp
    · rw [readPairs, paramOfId_out out]
    · rw [readPairs, ih hp]
      cases paramOfId w <;> rfl

theorem readPairs_known {pairs : List (Word × Word)} (h : ∀ p ∈ pairs, 1 ≤ p.1.toNat ∧ p.1.toNat ≤ 14) :
    ∃ ps, readPairs pairs = some ps := by
  induction pairs with
  | nil => exact ⟨[], rfl⟩
  | cons a rest ih =>
    obtain ⟨⟨lo, hi⟩, known⟩ := List.forall_mem_cons.mp h
    obtain ⟨id, hid, -⟩ := paramOfId_known lo hi
    obtain ⟨ps, hps⟩ := ih known
    exact ⟨_, readPairs_cons hid hps⟩

theorem readPairs_append {xs ys : List (Word × Word)} {qs : List (ParamId × Int)} (hy : readPairs ys = some qs) :
    ∀ {ps}, readPairs xs = some ps → readPairs (xs ++ ys) = some (ps ++ qs) := by
  induction xs with
  | nil =>
    rintro ps hx
    obtain rfl : [] = ps := by simpa [readPairs] using hx
    exact hy
  | cons a rest ih =>
    intro ps hx
    obtain ⟨w, v⟩ := a
    rw [readPairs] at hx
    split at hx
    · obtain rfl := Option.some.inj hx
      exact readPairs_cons ‹_› (ih ‹_›)
    · cases hx

/-! ### One value written (R124, R125) -/

/-- The low end of a parameter's range (section 7.2). -/
def lowEnd : ParamId → Nat
  | .maxOpen | .admitBurst | .admitWindow | .twmBlocks | .creepBlocks => 1
  | .releaseShift => 2
  | .holdBlocks | .lastMic | .nomOn | .margin | .hysteresis | .voiceFloor | .closedAtten | .attackShift => 0

/-- The high end of a parameter's range (section 7.2); that of Hysteresis is the Margin (R125). -/
def highEnd (p : Params) : ParamId → Nat
  | .maxOpen | .admitBurst | .releaseShift => 8
  | .holdBlocks | .admitWindow | .twmBlocks => 5000
  | .lastMic | .nomOn => 1
  | .margin => 60
  | .hysteresis => p.margin
  | .voiceFloor => 200
  | .closedAtten => 192
  | .attackShift => 4
  | .creepBlocks => 255

/-- The fourteen values in the order of their identifiers, a flag as 0 or 1. -/
def values (p : Params) : List Nat :=
  [p.maxOpen, p.holdBlocks, p.lastMic.toNat, p.nomOn.toNat, p.margin, p.hysteresis, p.voiceFloor, p.closedAtten,
    p.admitBurst, p.admitWindow, p.twmBlocks, p.attackShift, p.releaseShift, p.creepBlocks]

/-- The value of a parameter as a word writes it. -/
def stored (p : Params) (id : ParamId) (v : Int) : Nat := clampNat (lowEnd id) (highEnd p id) v

theorem clampNat_cast (lo hi : Nat) (v : Int) : (clampNat lo hi v : Int) = max (lo : Int) (min (hi : Int) v) := by
  unfold clampNat clampInt
  omega

/-- A flag is stored as a value clamped to 0 to 1 (R124). -/
theorem clampFlag_toNat (v : Int) : (clampFlag v).toNat = clampNat 0 1 v := by
  unfold clampFlag clampNat clampInt
  by_cases h : 1 ≤ v
  · rw [decide_eq_true h, Bool.toNat_true]
    omega
  · rw [decide_eq_false h, Bool.toNat_false]
    omega

/-- A written value stands at the place of its identifier; a Margin takes the Hysteresis down with it. -/
theorem values_writeParam (p : Params) (id : ParamId) (v : Int) :
    values (writeParam p id v) =
      (values { p with hysteresis := if number id = 5 then min p.hysteresis (stored p id v) else p.hysteresis }).set
        (number id - 1) (stored p id v) := by
  cases id with
  | lastMic => simp [values, writeParam, number, stored, clampFlag_toNat, lowEnd, highEnd]
  | nomOn => simp [values, writeParam, number, stored, clampFlag_toNat, lowEnd, highEnd]
  | _ => rfl

/-- The range of a parameter, read from the two rows of section 7.2's table. -/
theorem stored_eq (p : Params) (id : ParamId) (v : Int) :
    (stored p id v : Int) = max (([1, 0, 0, 0, 0, 0, 0, 0, 1, 1, 1, 0, 2, 1] : List Int).getD (number id - 1) 0)
      (min (([8, 5000, 1, 1, 60, p.margin, 200, 192, 8, 5000, 5000, 4, 8, 255] : List Int).getD (number id - 1) 0) v) := by
  rw [stored, clampNat_cast]
  cases id <;> rfl

/-! ### The command (R126) -/

/-- The Bank Store with pairs written into the edit bank's parameters. -/
def edited (b : BankStore) (ps : List (ParamId × Int)) : BankStore :=
  b.setEdit { b.editBank with params := writeParams b.editBank.params ps }

theorem exec_paramSet_unknown {pairs : List (Word × Word)} (ho : hostOwnsLine s) (settled : s.banks.swap = .settled)
    (lo : 1 ≤ pairs.length) (hi : pairs.length ≤ 128) (h : readPairs pairs = none) :
    exec (.paramSet pairs) s = .next (refusedWith .badParam s) := by
  refine congrArg Host.Outcome.next (hostPacket_refused ho rfl ?_)
  rw [takeParamSet, if_neg (by omega), openPacket_banks, if_neg (not_not_intro settled), h]

theorem exec_paramSet {pairs : List (Word × Word)} {ps : List (ParamId × Int)} (ho : hostOwnsLine s)
    (settled : s.banks.swap = .settled) (lo : 1 ≤ pairs.length) (hi : pairs.length ≤ 128)
    (h : readPairs pairs = some ps) :
    exec (.paramSet pairs) s = .next { written s with banks := edited s.banks ps } := by
  refine congrArg Host.Outcome.next (hostPacket_banks ho rfl ?_)
  rw [takeParamSet, if_neg (by omega), openPacket_banks, if_neg (not_not_intro settled), h, edited]

/-- Pairs are applied in their order, each against what the pairs before it have left. -/
theorem edited_append (b : BankStore) (ps qs : List (ParamId × Int)) :
    edited b (ps ++ qs) = edited (edited b ps) qs := by
  simp only [edited, setEdit_editBank, setEdit_setEdit, writeParams, List.foldl_append]

/-- A packet of pairs leaves what two packets of its parts leave, one after the other. -/
theorem exec_paramSet_append {xs ys : List (Word × Word)} {ps qs : List (ParamId × Int)} (ho : hostOwnsLine s)
    (settled : s.banks.swap = .settled) (hxs : 1 ≤ xs.length) (hys : 1 ≤ ys.length)
    (hi : xs.length + ys.length ≤ 128) (hx : readPairs xs = some ps) (hy : readPairs ys = some qs) :
    exec (.paramSet (xs ++ ys)) s = runAll [.paramSet xs, .paramSet ys] s := by
  have whole := exec_paramSet ho settled (by rw [List.length_append]; omega) (by rwa [List.length_append])
    (readPairs_append hy hx)
  have first := exec_paramSet ho settled hxs (by omega) hx
  have second := exec_paramSet (hostOwnsLine_written s (edited s.banks ps)) ((setEdit_swap ..).trans settled) hys
    (by omega) hy
  simp only [runAll, first, second]
  rw [whole, edited_append, written_written]

/-- Settles O29: an odd payload, an unknown identifier, one pair, and a packet cut in two. -/
theorem paramSetWritesClampedParameters : Obligations.ParamSetWritesClampedParameters := by
  unfold Obligations.ParamSetWritesClampedParameters
  refine ⟨fun ws odd => decodeLong_paramSet_odd odd, fun s ho settled =>
    ⟨fun pairs lo hi unknown => exec_paramSet_unknown ho settled lo hi (readPairs_unknown unknown),
      fun w v lo hi => ?one, fun xs ys hxs hys hi known => ?several⟩⟩
  case one =>
    obtain ⟨id, hid, hw⟩ := paramOfId_known lo hi
    rw [hw]
    exact ⟨writeParam s.banks.editBank.params id v.toInt, edited s.banks [(id, v.toInt)],
      stored s.banks.editBank.params id v.toInt,
      exec_paramSet ho settled (by simp) (by simp) (readPairs_cons hid rfl),
      setEdit_bank_edit .., setEdit_bank_operating .., setEdit_rest .., stored_eq .., values_writeParam ..⟩
  case several =>
    obtain ⟨ps, hps⟩ := readPairs_known fun p hp => known p (List.mem_append_left _ hp)
    obtain ⟨qs, hqs⟩ := readPairs_known fun p hp => known p (List.mem_append_right _ hp)
    exact exec_paramSet_append ho settled hxs hys hi hps hqs

end Sys2Proof.Machine.ParamWrites
end

section
/-! Proofs for O30 and O32: the walk of a window read by quotient and remainder (R138), XP.WINDOW (R140), and the matrix
reads along the walk (R144, R145). A slot list is an interval of numbers, ascending or descending; a walk is the
pairs of an outer and an inner list, and its position q * n + r, for n the inner length, holds the outer slot q with the
inner slot r. -/

namespace Sys2Proof.Machine.Walk

/-! ### The slot lists of a window -/

/-- The slots from `a` to `b`, ascending, or descending when the reverse flag is on. -/
def slotList {n : Nat} (a b : Fin n) (rev : Bool) : List (Fin n) :=
  let l := (List.finRange n).filter fun x => decide (a ≤ x ∧ x ≤ b)
  if rev then l.reverse else l

theorem feedList_eq (w : Window) : w.feedList = slotList w.feedStart w.feedEnd w.feedRev := rfl

theorem srcList_eq (w : Window) : w.srcList = slotList w.srcStart w.srcEnd w.srcRev := rfl

/-- The numbers of the ascending slots are an interval: both lists ascend and hold the same numbers. -/
theorem slotList_false_val {n : Nat} {a b : Fin n} (h : a ≤ b) :
    (slotList a b false).map Fin.val = List.range' a (b - a + 1) := by
  have ascending : ((slotList a b false).map Fin.val).Pairwise (· < ·) :=
    List.pairwise_map.mpr ((List.sortedLT_finRange n).pairwise.filter _)
  refine ascending.eq_of_mem_iff List.pairwise_lt_range' fun v => ?_
  simp only [slotList, Bool.false_eq_true, if_false, List.mem_map, List.mem_filter, List.mem_finRange, true_and,
    decide_eq_true_eq, Fin.le_def, List.mem_range'_1]
  constructor
  · rintro ⟨x, ⟨lo, hi⟩, rfl⟩
    omega
  · rintro ⟨lo, hi⟩
    exact ⟨⟨v, by omega⟩, ⟨lo, by dsimp only; omega⟩, rfl⟩

theorem slotList_true {n : Nat} (a b : Fin n) : slotList a b true = (slotList a b false).reverse := rfl

theorem slotList_length {n : Nat} {a b : Fin n} (h : a ≤ b) (rev : Bool) :
    (slotList a b rev).length = b.val - a.val + 1 := by
  have ascending : (slotList a b false).length = b.val - a.val + 1 := by
    simpa using congrArg List.length (slotList_false_val h)
  cases rev with
  | false => exact ascending
  | true => rw [slotList_true, List.length_reverse, ascending]

/-- Place `q` of a slot list counts up from its first slot, or down from its last. -/
theorem slotList_at {n q : Nat} {a b : Fin n} (h : a ≤ b) (rev : Bool) (hq : q < b.val - a.val + 1) :
    ∃ x, (slotList a b rev)[q]? = some x ∧ x.val = if rev then b.val - q else a.val + q := by
  have place : ∀ p, p < b.val - a.val + 1 → ∃ x, (slotList a b false)[p]? = some x ∧ x.val = a.val + p := by
    intro p hp
    have val := congrArg (·[p]?) (slotList_false_val h)
    simpa [List.getElem?_range', hp] using val
  cases rev with
  | false => exact place q hq
  | true =>
    obtain ⟨x, hx, val⟩ := place (b.val - a.val - q) (by omega)
    refine ⟨x, ?_, ?_⟩
    · rw [slotList_true, List.getElem?_reverse (by rw [slotList_length h]; exact hq), slotList_length h,
        Nat.add_sub_cancel, hx]
    · rw [val, if_pos rfl]
      have : a.val ≤ b.val := h
      omega

/-! ### Pairs of an outer and an inner list -/

/-- Position `q * ys.length + r` of the pairs holds outer element `q` with inner element `r`. -/
theorem getElem?_pairs {α β γ : Type} {g : α → β → γ} {xs : List α} {ys : List β} {q r : Nat} {x : α} {y : β}
    (hx : xs[q]? = some x) (hy : ys[r]? = some y) :
    (xs.flatMap fun x => ys.map (g x))[q * ys.length + r]? = some (g x y) := by
  have hr : r < ys.length := (List.getElem?_eq_some_iff.mp hy).1
  induction xs generalizing q with
  | nil => simp at hx
  | cons x' xs ih =>
    cases q with
    | zero =>
      obtain rfl : x' = x := by simpa using hx
      rw [List.flatMap_cons, List.getElem?_append_left (by simpa using hr)]
      simp [hy]
    | succ q =>
      have rest : (q + 1) * ys.length + r = ys.length + (q * ys.length + r) := by ring
      rw [List.flatMap_cons, rest, List.getElem?_append_right (by simp)]
      simpa using ih hx

/-! ### The walk (R138) -/

variable {w : Window}

theorem walk_feedMajor (h : w.order = .feedMajor) :
    w.walk = w.feedList.flatMap fun f => w.srcList.map fun i => (f, i) := by rw [Window.walk, h]

theorem walk_sourceMajor (h : w.order = .sourceMajor) :
    w.walk = w.srcList.flatMap fun i => w.feedList.map fun f => (f, i) := by rw [Window.walk, h]

/-- One position for each feed and source of the window. -/
theorem walk_length (hf : w.feedStart ≤ w.feedEnd) (hs : w.srcStart ≤ w.srcEnd) :
    w.walk.length = (w.feedEnd.val - w.feedStart.val + 1) * (w.srcEnd.val - w.srcStart.val + 1) := by
  rw [← slotList_length hf w.feedRev, ← slotList_length hs w.srcRev, ← feedList_eq, ← srcList_eq]
  cases h : w.order with
  | feedMajor => simp [walk_feedMajor h]
  | sourceMajor => simp [walk_sourceMajor h, Nat.mul_comm]

theorem walk_length_pos (hf : w.feedStart ≤ w.feedEnd) (hs : w.srcStart ≤ w.srcEnd) : 0 < w.walk.length := by
  rw [walk_length hf hs]
  exact Nat.mul_pos (Nat.succ_pos _) (Nat.succ_pos _)

/-- In FEED-MAJOR order the quotient names the feed's place and the remainder the source's. -/
theorem walk_at_feedMajor {q r : Nat} {f : FeedSlot} {i : SrcSlot} (h : w.order = .feedMajor)
    (hs : w.srcStart ≤ w.srcEnd) (hf : w.feedList[q]? = some f) (hi : w.srcList[r]? = some i) :
    w.walk[q * (w.srcEnd.val - w.srcStart.val + 1) + r]? = some (f, i) := by
  rw [walk_feedMajor h, ← slotList_length hs w.srcRev, ← srcList_eq]
  exact getElem?_pairs hf hi

/-- In SOURCE-MAJOR order the quotient names the source's place and the remainder the feed's. -/
theorem walk_at_sourceMajor {q r : Nat} {f : FeedSlot} {i : SrcSlot} (h : w.order = .sourceMajor)
    (hf : w.feedStart ≤ w.feedEnd) (hq : w.feedList[q]? = some f) (hi : w.srcList[r]? = some i) :
    w.walk[r * (w.feedEnd.val - w.feedStart.val + 1) + q]? = some (f, i) := by
  rw [walk_sourceMajor h, ← slotList_length hf w.feedRev, ← feedList_eq]
  exact getElem?_pairs (g := fun i f => (f, i)) hi hq

/-- Position k of the walk pairs the feed and the source at the places its quotient and remainder give. -/
theorem walk_at {k q r : Nat} (hf : w.feedStart ≤ w.feedEnd) (hs : w.srcStart ≤ w.srcEnd) (hk : k < w.walk.length)
    (h : w.order = .feedMajor ∧ q = k / (w.srcEnd.val - w.srcStart.val + 1) ∧
        r = k % (w.srcEnd.val - w.srcStart.val + 1) ∨
      w.order = .sourceMajor ∧ r = k / (w.feedEnd.val - w.feedStart.val + 1) ∧
        q = k % (w.feedEnd.val - w.feedStart.val + 1)) :
    ∃ (f : FeedSlot) (i : SrcSlot), w.walk[k]? = some (f, i) ∧
      f.val = (if w.feedRev then w.feedEnd.val - q else w.feedStart.val + q) ∧
      i.val = (if w.srcRev then w.srcEnd.val - r else w.srcStart.val + r) := by
  rw [walk_length hf hs] at hk
  obtain ⟨order, rfl, rfl⟩ | ⟨order, rfl, rfl⟩ := h
  · obtain ⟨f, hq, feed⟩ := slotList_at hf w.feedRev (Nat.div_lt_of_lt_mul (Nat.mul_comm .. ▸ hk))
    obtain ⟨i, hr, src⟩ := slotList_at hs w.srcRev (Nat.mod_lt k (Nat.succ_pos _))
    refine ⟨f, i, ?_, feed, src⟩
    have pair := walk_at_feedMajor order hs hq hr
    rwa [Nat.div_add_mod'] at pair
  · obtain ⟨i, hr, src⟩ := slotList_at hs w.srcRev (Nat.div_lt_of_lt_mul hk)
    obtain ⟨f, hq, feed⟩ := slotList_at hf w.feedRev (Nat.mod_lt k (Nat.succ_pos _))
    refine ⟨f, i, ?_, feed, src⟩
    have pair := walk_at_sourceMajor order hf hq hr
    rwa [Nat.div_add_mod'] at pair

/-! ### XP.WINDOW (R140) -/

section Window
variable {s : State} {fs fe ss se : Byte} {order : Word} {a b : FeedSlot} {c d : SrcSlot} {o : WalkOrder}

theorem orderOfCode_out (h : 2 ≤ order.toNat) : orderOfCode order = none := by
  unfold orderOfCode
  split
  · omega
  · omega
  · rfl

theorem orderOfCode_code (h : order = 0 ∧ o = .feedMajor ∨ order = 1 ∧ o = .sourceMajor) :
    orderOfCode order = some o := by
  obtain ⟨rfl, rfl⟩ | ⟨rfl, rfl⟩ := h <;> rfl

theorem numberBelow_val {n : Nat} {x : Byte} {i : Fin n} (h : numberBelow n x = some i) : i.val = x.toNat := by
  unfold numberBelow at h
  split at h
  · obtain rfl := Option.some.inj h
    rfl
  · cases h

/-- A window is taken only when every bound and the order name something and no start stands above its end. -/
theorem takeXpWindow_refused (fr sr : Bool)
    (h : 32 ≤ fs.toNat ∨ 32 ≤ fe.toNat ∨ 80 ≤ ss.toNat ∨ 80 ≤ se.toNat ∨ fe.toNat < fs.toNat ∨ se.toNat < ss.toNat ∨
      2 ≤ order.toNat) : takeXpWindow fs fe ss se order fr sr s = .refused .badParam := by
  unfold takeXpWindow
  split
  case h_1 a b c d o ha hb hc hd ho =>
    have known : ¬ 2 ≤ order.toNat := fun unknown => by simp [orderOfCode_out unknown] at ho
    rw [← numberBelow_val ha, ← numberBelow_val hb, ← numberBelow_val hc, ← numberBelow_val hd] at h
    rw [if_neg (by rw [Fin.le_def, Fin.le_def]; omega)]
  case h_2 => rfl

theorem takeXpWindow_accepted (fr sr : Bool) (hf : a ≤ b) (hs : c ≤ d) (ho : orderOfCode order = some o) :
    takeXpWindow (byteOf a) (byteOf b) (byteOf c) (byteOf d) order fr sr s
      = .write { s with banks := { s.banks with window := ⟨a, b, c, d, o, fr, sr⟩, cursor := 0 } } := by
  have feed (x : FeedSlot) : numberBelow 32 (byteOf x) = some x := numberBelow_byteOf x (by decide)
  have src (x : SrcSlot) : numberBelow 80 (byteOf x) = some x := numberBelow_byteOf x (by decide)
  simp only [takeXpWindow, feed, src, ho, if_pos (And.intro hf hs)]

/-- Settles O30: the command's two outcomes, then the walk's length and positions. -/
theorem xpWindowReplacesTheWindowAndItsWalk : Obligations.XpWindowReplacesTheWindowAndItsWalk := by
  unfold Obligations.XpWindowReplacesTheWindowAndItsWalk
  refine ⟨fun s fs fe ss se order fr sr ho => ⟨fun bad => ?refused, ?accepted⟩,
    fun w hf hs => ⟨walk_length hf hs, fun k q r hk h => walk_at hf hs hk h⟩⟩
  case refused => exact congrArg _ (hostPacket_refused ho rfl (takeXpWindow_refused fr sr bad))
  case accepted =>
    rintro a b c d o rfl rfl rfl rfl hf hs code
    refine congrArg Host.Outcome.next (hostPacket_banks ho rfl ?_)
    rw [takeXpWindow_accepted fr sr hf hs (orderOfCode_code code), openPacket_banks]

end Window

/-! ### XP.TAKE and XP.TAKENEXT (R144, R145) -/

section Take
variable {s : State} {start n k : Nat} {count : Word} {code : Byte} {f : FeedSlot} {i : SrcSlot}

/-- Every position, wrapped, is on the walk. -/
theorem walk_wrapped (hf : w.feedStart ≤ w.feedEnd) (hs : w.srcStart ≤ w.srcEnd) (p : Nat) :
    ∃ (f : FeedSlot) (i : SrcSlot), w.walk[p % w.walk.length]? = some (f, i) :=
  ⟨_, _, List.getElem?_eq_getElem (Nat.mod_lt p (walk_length_pos hf hs))⟩

theorem readWalk_length (start n : Nat) (s : State) : (readWalk start n s).length = n := by simp [readWalk]

/-- The k-th value read is that of the pair k places on. -/
theorem readWalk_at (hk : k < n) (h : s.banks.window.walk[(start + k) % s.banks.window.walk.length]? = some (f, i)) :
    (readWalk start n s)[k]? = some (gainWord s.banks.editBank.xp[f][i]) := by
  simp only [readWalk, List.getElem?_map, List.getElem?_range hk, Option.map_some, h]

/-- The values are read from the Bank Store, which a packet start leaves. -/
theorem readWalk_openPacket : readWalk start n (openPacket s) = readWalk start n s := by
  simp only [readWalk, openPacket_banks]

theorem takeXpRead_refused (h : count.toNat = 0 ∨ 256 < count.toNat) (start : Nat) :
    takeXpRead start count s = .refused .badParam := by rw [takeXpRead, if_pos h]

/-- The packet of a matrix read: the values owed, and the cursor past the last of them. -/
theorem hostPacket_xpRead {take : State → Taken} (ho : hostOwnsLine s) (hc : readCode code = true)
    (lo : 1 ≤ count.toNat) (hi : count.toNat ≤ 256) (ht : take (openPacket s) = takeXpRead start count (openPacket s)) :
    hostPacket code take s = { answered code (dataReply (readWalk start count.toNat s)) s with
      banks := { s.banks with cursor := (start + count.toNat) % s.banks.window.walk.length } } := by
  rw [takeXpRead, if_neg (by omega), readWalk_openPacket, openPacket_banks] at ht
  exact hostPacket_read ho hc ht

/-- Settles O32: a refused count, or the values along the walk with the cursor past them. -/
theorem xpTakeReadsAlongTheWalk : Obligations.XpTakeReadsAlongTheWalk := by
  unfold Obligations.XpTakeReadsAlongTheWalk
  refine fun s n ho => ⟨fun bad => ⟨?take, ?takeNext⟩, fun c start code lo hi hf hs command => ?read⟩
  case take => exact congrArg _ (hostPacket_refusedRead ho rfl (takeXpRead_refused bad _))
  case takeNext => exact congrArg _ (hostPacket_refusedRead ho rfl (takeXpRead_refused bad _))
  case read =>
    refine ⟨readWalk start n.toNat s, ?packet, readWalk_length .., fun k hk => ?value⟩
    case packet =>
      obtain ⟨rfl, rfl, rfl⟩ | ⟨rfl, rfl, rfl⟩ := command
      · exact congrArg _ (hostPacket_xpRead ho rfl lo hi rfl)
      · exact congrArg _ (hostPacket_xpRead ho rfl lo hi (by rw [takeXpTakeNext, openPacket_banks]))
    case value =>
      obtain ⟨f, i, pair⟩ := walk_wrapped hf hs (start + k)
      exact ⟨f, i, pair, readWalk_at hk pair⟩

end Take

end Sys2Proof.Machine.Walk
end

section
/-! The rules of an owed answer (R189 to R191): the packet start that abandons it, and the turnaround and the sending that
carry it out. An answer that clears no counter reaches nothing but the Control Link Interface. -/

namespace Sys2Proof.Machine

variable {s : State} {code : Byte} {r : Reply}

/-- A packet start in OWED abandons the answer (R182, R191). -/
theorem openPacket_owed (h : s.ctl.rx = .owed code r) : openPacket s = { abandon r s with
    ctl := { rx := .header, errors := (abandon r s).ctl.errors } } := by
  unfold openPacket
  rw [h]

/-- The turnaround in OWED begins the answers of R189. -/
theorem turnAround_owed (h : s.ctl.rx = .owed code r) : turnAround s = { s with
    ctl := { s.ctl with rx := .answering (answersFor code r s.ctl.errors) r } } := by
  unfold turnAround
  rw [h]

theorem exec_answerSent {as : List Answer} (h : s.ctl.rx = .answering as r) :
    exec .answerSent s = .next (answerSent as r s) := by
  change execAnswerSent s = _
  rw [execAnswerSent, h]

theorem carryOut_frame (keeps : r.clears = none) (a : Answer) (s : State) :
    { carryOut a r s with ctl := s.ctl } = s := by
  cases a with
  | data code words => simp only [carryOut, keeps]
  | ack code => rfl
  | errorReport code kinds => rfl

theorem answerSent_frame (keeps : r.clears = none) (as : List Answer) (s : State) :
    { answerSent as r s with ctl := s.ctl } = s := by
  cases as with
  | nil => rfl
  | cons a rest =>
    obtain ⟨-, sent⟩ | ⟨-, sent⟩ := answerSent_cons a rest r s <;> rw [sent] <;> exact carryOut_frame keeps a s

/-- The first answer sent after the turnaround (R190). -/
theorem runAll_firstAnswer (h : s.ctl.rx = .owed code r) : runAll [.turnaround, .answerSent] s
    = .next (answerSent (answersFor code r s.ctl.errors) r (turnAround s)) := by
  have answering : (turnAround s).ctl.rx = .answering (answersFor code r s.ctl.errors) r := by rw [turnAround_owed h]
  change runAll [.answerSent] (turnAround s) = _
  rw [runAll, exec_answerSent answering]
  rfl

/-- The first answer sent changes nothing beside the interface when it clears no counter (R190, R196). -/
theorem firstAnswer_frame (h : s.ctl.rx = .owed code r) (keeps : r.clears = none) :
    ∃ t, runAll [.turnaround, .answerSent] s = .next t ∧ { t with ctl := s.ctl } = s := by
  refine ⟨_, runAll_firstAnswer h, ?_⟩
  have sent := answerSent_frame keeps (answersFor code r s.ctl.errors) (turnAround s)
  rw [turnAround_owed h] at sent ⊢
  exact congrArg (fun t : State => { t with ctl := s.ctl }) sent

end Sys2Proof.Machine
end

section
/-! Proofs for O12 and O13: NOTE.GET moves the notice set into its reply, from which an abandoned answer returns it
(R191, R194), and NOTE.MASK replaces the mask (R195). First the word of a notice set bit by bit (R206). -/

namespace Sys2Proof.Machine.Notices

variable {s : State} {code : Byte} {r : Reply}

/-! ### The notice set (R192, R193, R206) -/

/-- A number written by its bits, the lowest first, has those bits. -/
theorem testBit_foldr_bit (bs : List Bool) (j : Nat) : (bs.foldr Nat.bit 0).testBit j = bs.getD j false := by
  induction bs generalizing j with
  | nil => simp
  | cons b rest ih =>
    cases j with
    | zero => exact Nat.testBit_bit_zero ..
    | succ j => exact (Nat.testBit_bit_succ ..).trans (ih j)

/-- The kinds of a set in the order of their bits (R206). -/
def kindBits (n : NoticeSet) : List Bool :=
  [n.podLink, n.privacy, n.button, n.talkMuted, n.floor, n.slip, n.clip, n.swapDone]

theorem toWord_eq (n : NoticeSet) : n.toWord = BitVec.ofNat 16 ((kindBits n).foldr Nat.bit 0) := by
  simp only [NoticeSet.toWord, kindBits, List.foldr_cons, List.foldr_nil, Nat.bit_val]
  congr 1
  omega

theorem toWord_getLsbD (n : NoticeSet) {j : Nat} (h : j < 16) : n.toWord.getLsbD j = (kindBits n).getD j false := by
  rw [toWord_eq, BitVec.getLsbD_ofNat, testBit_foldr_bit, decide_eq_true h, Bool.true_and]

/-- Above the eight kinds the word is 0. -/
theorem toWord_getLsbD_high (n : NoticeSet) {j : Nat} (h : 8 ≤ j) : n.toWord.getLsbD j = false := by
  rw [toWord_eq, BitVec.getLsbD_ofNat, testBit_foldr_bit, List.getD_eq_default (kindBits n) false h, Bool.and_false]

theorem union_has (n m : NoticeSet) (k : NoticeKind) : (n.union m).has k = (n.has k || m.has k) := by
  cases k <;> rfl

/-- A replaced mask leaves the attention line following it. -/
theorem withMask_attention (u : NoticeUnit) (m : NoticeSet) :
    (u.withMask m).attention = true ↔ ∃ k, u.set.has k = true ∧ m.has k = true := NoticeSet.meets_iff u.set m

/-! ### The commands -/

/-- The packet of a NOTE.GET: the set owed as DATA and kept in the reply, none left in the Notice Unit (R194). -/
theorem exec_noteGet (ho : hostOwnsLine s) : exec .noteGet s = .next { answered 0x50
    { dataReply [(written s).notice.set.toWord] with removed := (written s).notice.set } s with
    notice := (written s).notice.withSet .none } :=
  congrArg Host.Outcome.next (hostPacket_read (take := takeNoteGet) ho rfl rfl)

theorem exec_noteMask (ho : hostOwnsLine s) (m : Byte) : exec (.noteMask m) s = .next { written s with
    notice := (written s).notice.withMask (.ofByte m) } :=
  congrArg Host.Outcome.next (hostPacket_write (take := takeNoteMask m) ho rfl rfl)

/-- An abandoned answer returns the kinds it removed, the line following (R191, R194). -/
theorem openPacket_returns (h : s.ctl.rx = .owed code r) :
    (openPacket s).notice = s.notice.withSet (s.notice.set.union r.removed) := by
  rw [openPacket_owed h]
  rfl

/-- Settles O12: the word bit by bit, the reply that holds the set, then the answer sent or abandoned. -/
theorem noteGetRemovesAndReturnsTheKinds : Obligations.NoteGetRemovesAndReturnsTheKinds := by
  unfold Obligations.NoteGetRemovesAndReturnsTheKinds
  intro s ho
  refine ⟨(written s).notice.set.toWord, _, exec_noteGet ho, ?bits, rfl, fun u same => ?answer⟩
  case bits =>
    have bit := fun j (h : j < 16) => toWord_getLsbD (written s).notice.set h
    exact ⟨bit 0 (by decide), bit 1 (by decide), bit 2 (by decide), bit 3 (by decide), bit 4 (by decide),
      bit 5 (by decide), bit 6 (by decide), bit 7 (by decide), fun j => toWord_getLsbD_high _⟩
  case answer =>
    have owed := congrArg ControlLink.rx same
    have returned := openPacket_returns owed
    refine ⟨firstAnswer_frame owed rfl, openPacket u, rfl, fun k => ?back, FloorReset.openPacket_mask u, ?line⟩
    case back =>
      rw [returned]
      exact union_has _ _ k
    case line =>
      rw [AttentionLaw, returned]
      exact withSet_attention _ _

/-- Settles O13: the packet's write is the replaced mask, which the line follows (R193, R195). -/
theorem noteMaskReplacesTheMask : Obligations.NoteMaskReplacesTheMask := by
  unfold Obligations.NoteMaskReplacesTheMask
  exact fun s m ho => ⟨_, exec_noteMask ho m, rfl, rfl, withMask_attention _ _, rfl⟩

end Sys2Proof.Machine.Notices
end

section
/-! The rules of the floor's collections (R56 to R58). A source that is ACTIVE and of a floor class stands in exactly the
collection its floor state names; every operation of the Floor Controller moves one such source, and keeps this. -/

namespace Sys2Proof.Machine

variable {s t u : State} {i j : SrcSlot}

/-! ### Standing in a collection -/

/-- A source stands in the floor list or in the pending queue. -/
def Inside (s : State) (i : SrcSlot) : Prop := i ∈ s.floor.list ∨ i ∈ s.floor.chairs ∨ i ∈ s.floor.delegates

/-- An ACTIVE source of a floor class: the Floor Controller acts on no other (R60). -/
def OfFloor (s : State) (i : SrcSlot) : Prop := s.srcs[i].isActive = true ∧ s.srcs[i].floorClass = true

/-- OPEN or PENDING: called to the floor, on it or waiting for it. -/
def Called (s : State) (i : SrcSlot) : Prop :=
  s.srcs[i].floorState = some .opened ∨ s.srcs[i].floorState = some .pending

/-- The part of MembershipLaw that says where a source stands; what is left of it says that no member is muted. -/
structure PlacesLaw (s : State) : Prop where
  list : ∀ i : SrcSlot, i ∈ s.floor.list ↔ s.srcs[i].isActive = true ∧ onFloor s.srcs[i].floorState = true
  chairs : ∀ i : SrcSlot, i ∈ s.floor.chairs ↔
    s.srcs[i].isActive = true ∧ s.srcs[i].isChair = true ∧ s.srcs[i].floorState = some .pending
  delegates : ∀ i : SrcSlot, i ∈ s.floor.delegates ↔
    s.srcs[i].isActive = true ∧ s.srcs[i].isDelegate = true ∧ s.srcs[i].floorState = some .pending
  once : s.floor.list.Nodup ∧ s.floor.chairs.Nodup ∧ s.floor.delegates.Nodup
  gated : ∀ i : SrcSlot, s.srcs[i].isActive = true → s.srcs[i].floorClass = true →
    s.srcs[i].floorState.isSome = true ∧ s.srcs[i].floorState ≠ some .ungated
  ungated : ∀ i : SrcSlot, s.srcs[i].inUse = true → s.srcs[i].floorClass = false →
    s.srcs[i].floorState = some .ungated
  retiring : ∀ i : SrcSlot, s.srcs[i].state = .retiring → s.srcs[i].floorClass = true →
    s.srcs[i].floorState = some .closed
  free : ∀ i : SrcSlot, s.srcs[i].inUse = false → s.srcs[i].floorState = none

theorem membershipLaw_iff : MembershipLaw s ↔ PlacesLaw s ∧ ∀ i : SrcSlot, Inside s i → s.srcs[i].effMute = false :=
  ⟨fun h => ⟨⟨h.list, h.chairs, h.delegates, h.once, h.gated, h.ungated, h.retiring, h.free⟩, h.unmuted⟩,
    fun ⟨p, unmuted⟩ => ⟨p.list, p.chairs, p.delegates, p.once, unmuted, p.gated, p.ungated, p.retiring, p.free⟩⟩

theorem MembershipLaw.places (h : MembershipLaw s) : PlacesLaw s := (membershipLaw_iff.mp h).1

theorem floorClass_iff {x : Source} : x.floorClass = true ↔ x.isChair = true ∨ x.isDelegate = true := by
  simp [Source.floorClass, Source.isChair, Source.isDelegate]

theorem isActive_iff {x : Source} : x.isActive = true ↔ x.state = .active := beq_iff_eq

theorem inUse_of_isActive {x : Source} (h : x.isActive = true) : x.inUse = true := by
  rw [Source.inUse, isActive_iff.mp h]; rfl

theorem floorClass_of_isChair {x : Source} (h : x.isChair = true) : x.floorClass = true := floorClass_iff.mpr (.inl h)

theorem floorClass_of_isDelegate {x : Source} (h : x.isDelegate = true) : x.floorClass = true :=
  floorClass_iff.mpr (.inr h)

/-- A source of a floor class is a DELEGATE exactly when it is no CHAIR. -/
theorem isDelegate_iff_not_isChair {x : Source} (h : x.floorClass = true) : x.isDelegate = true ↔ x.isChair = false := by
  have := Admission.not_isChair_of_isDelegate (x := x)
  rw [floorClass_iff] at h
  cases hc : x.isChair <;> simp_all

/-- The three floor states of the floor list. -/
theorem onFloor_iff {f : Option FloorState} :
    onFloor f = true ↔ f = some .opened ∨ isHold f = true ∨ f = some .last := by
  simp only [onFloor, Bool.or_eq_true, beq_iff_eq, or_assoc]

theorem isHold_iff {f : Option FloorState} : isHold f = true ↔ ∃ c, f = some (.hold c) := by
  unfold isHold
  split <;> simp_all

namespace PlacesLaw

variable (law : PlacesLaw s)
include law

theorem ofFloor_of_inside (h : Inside s i) : OfFloor s i := by
  obtain member | chair | delegate := h
  · obtain ⟨active, on⟩ := (law.list i).mp member
    refine ⟨active, ?_⟩
    by_contra other
    rw [law.ungated i (inUse_of_isActive active) (Bool.not_eq_true _ ▸ other)] at on
    cases on
  · obtain ⟨active, isChair, -⟩ := (law.chairs i).mp chair
    exact ⟨active, floorClass_of_isChair isChair⟩
  · obtain ⟨active, isDelegate, -⟩ := (law.delegates i).mp delegate
    exact ⟨active, floorClass_of_isDelegate isDelegate⟩

theorem mem_list_iff (h : OfFloor s i) : i ∈ s.floor.list ↔ onFloor s.srcs[i].floorState = true :=
  (law.list i).trans (and_iff_right h.1)

theorem mem_queue_iff (h : OfFloor s i) :
    (i ∈ s.floor.chairs ∨ i ∈ s.floor.delegates) ↔ s.srcs[i].floorState = some .pending := by
  rw [law.chairs, law.delegates]
  have := floorClass_iff.mp h.2
  have := h.1
  tauto

omit law in
theorem queue_of_head (h : s.floor.queueHead = some i) : i ∈ s.floor.chairs ∨ i ∈ s.floor.delegates := by
  unfold FloorCtl.queueHead at h
  split at h
  · rename_i hc
    rw [hc, ← Option.some.inj h]
    exact .inl List.mem_cons_self
  · exact .inr (List.mem_of_mem_head? h)

/-- Outside the collections a source of the floor is CLOSED. -/
theorem closed_of_outside (h : OfFloor s i) (out : ¬ Inside s i) : s.srcs[i].floorState = some .closed := by
  obtain ⟨isSome, gated⟩ := law.gated i h.1 h.2
  have list : ¬ onFloor s.srcs[i].floorState = true := fun on => out (.inl ((law.mem_list_iff h).mpr on))
  have queue : s.srcs[i].floorState ≠ some .pending := fun p => out (.inr ((law.mem_queue_iff h).mpr p))
  obtain ⟨f, hf⟩ := Option.isSome_iff_exists.mp isSome
  rw [hf] at list queue gated ⊢
  cases f <;> simp_all [onFloor, isHold]

theorem outside_of_closed (h : s.srcs[i].floorState = some .closed) : ¬ Inside s i := by
  rintro (member | chair | delegate)
  · have on := ((law.list i).mp member).2
    rw [h] at on
    cases on
  · have pending := ((law.chairs i).mp chair).2.2
    rw [h] at pending
    cases pending
  · have pending := ((law.delegates i).mp delegate).2.2
    rw [h] at pending
    cases pending

theorem not_queued_of_member (h : i ∈ s.floor.list) : i ∉ s.floor.chairs ∧ i ∉ s.floor.delegates := by
  have on := ((law.list i).mp h).2
  refine ⟨fun q => ?_, fun q => ?_⟩
  · rw [((law.chairs i).mp q).2.2] at on
    cases on
  · rw [((law.delegates i).mp q).2.2] at on
    cases on

/-- A source called to the floor, which stands in a collection then, is of the floor. -/
theorem inside_of_called (h : OfFloor s i) (called : Called s i) : Inside s i := by
  obtain opened | pending := called
  · exact .inl ((law.mem_list_iff h).mpr (by rw [opened]; rfl))
  · exact .inr ((law.mem_queue_iff h).mpr pending)

/-- A source with a floor state other than CLOSED and UNGATED is of the floor. -/
theorem ofFloor_of_state {f : FloorState} (h : s.srcs[i].floorState = some f) (closed : f ≠ .closed)
    (ungated : f ≠ .ungated) : OfFloor s i := by
  have use : s.srcs[i].inUse = true := by
    by_contra other
    rw [law.free i (Bool.not_eq_true _ ▸ other)] at h
    cases h
  have cls : s.srcs[i].floorClass = true := by
    by_contra other
    rw [law.ungated i use (Bool.not_eq_true _ ▸ other)] at h
    exact ungated (Option.some.inj h).symm
  refine ⟨?_, cls⟩
  rw [isActive_iff]
  cases state : s.srcs[i].state with
  | active => rfl
  | free => rw [Source.inUse, state] at use; cases use
  | retiring =>
    rw [law.retiring i state cls] at h
    exact (closed (Option.some.inj h).symm).elim

end PlacesLaw

/-! ### One source moved -/

theorem set_src_same (srcs : Vector Source 80) (i : SrcSlot) (x : Source) : (srcs.set i x)[i] = x := by simp

theorem set_src_other (srcs : Vector Source 80) {i j : SrcSlot} (x : Source) (h : j ≠ i) :
    (srcs.set i x)[j] = srcs[j] := by
  have : i.val ≠ j.val := fun e => h (Fin.ext e.symm)
  simp [this]

/-- One source of the floor moved to the collection that its new floor state names keeps the places. -/
theorem PlacesLaw.move (law : PlacesLaw s) (h : OfFloor s i) {f : FloorState} (gated : f ≠ .ungated)
    (srcs : t.srcs = s.srcs.set i { s.srcs[i] with floorState := some f })
    (list : ∀ j, j ∈ t.floor.list ↔ (j = i ∧ onFloor (some f) = true ∨ j ≠ i ∧ j ∈ s.floor.list))
    (chairs : ∀ j, j ∈ t.floor.chairs ↔
      (j = i ∧ s.srcs[i].isChair = true ∧ f = .pending ∨ j ≠ i ∧ j ∈ s.floor.chairs))
    (delegates : ∀ j, j ∈ t.floor.delegates ↔
      (j = i ∧ s.srcs[i].isDelegate = true ∧ f = .pending ∨ j ≠ i ∧ j ∈ s.floor.delegates))
    (once : t.floor.list.Nodup ∧ t.floor.chairs.Nodup ∧ t.floor.delegates.Nodup) : PlacesLaw t := by
  have same : t.srcs[i] = { s.srcs[i] with floorState := some f } := by rw [srcs, set_src_same]
  have other : ∀ j, j ≠ i → t.srcs[j] = s.srcs[j] := fun j hj => by rw [srcs, set_src_other _ _ hj]
  have active : (t.srcs[i]).isActive = true := by rw [same]; exact h.1
  have cls : (t.srcs[i]).floorClass = true := by rw [same]; exact h.2
  have state : (t.srcs[i]).floorState = some f := by rw [same]
  have use := inUse_of_isActive active
  have chair : (t.srcs[i]).isChair = (s.srcs[i]).isChair := by rw [same]; rfl
  have delegate : (t.srcs[i]).isDelegate = (s.srcs[i]).isDelegate := by rw [same]; rfl
  refine ⟨fun j => ?list, fun j => ?chairs, fun j => ?delegates, once, fun j => ?gated, fun j => ?ungated,
    fun j => ?retiring, fun j => ?free⟩ <;> obtain rfl | hj := eq_or_ne j i
  · rw [list, state]; simp [active, -Fin.getElem_fin]
  · rw [list, other j hj, law.list]; simp [hj]
  · rw [chairs, state]; simp [active, chair, -Fin.getElem_fin]
  · rw [chairs, other j hj, law.chairs]; simp [hj]
  · rw [delegates, state]; simp [active, delegate, -Fin.getElem_fin]
  · rw [delegates, other j hj, law.delegates]; simp [hj]
  · rw [state]; simpa using fun _ _ => gated
  · rw [other j hj]; exact law.gated j
  · rw [cls]; exact fun _ => nofun
  · rw [other j hj]; exact law.ungated j
  · rw [isActive_iff.mp active]; exact nofun
  · rw [other j hj]; exact law.retiring j
  · rw [use]; exact nofun
  · rw [other j hj]; exact law.free j

/-! ### What the floor's operations keep -/

/-- Moves of the Floor Controller from `s` to `t`: nothing but the floor and the floor states changes, the places stay
lawful; no source enters a collection but those of `enter`, none that was called to the floor is closed but those of
`leave`; no hold begins or changes its count; and the stamps stay within AdmitBurst. -/
structure FloorMoves (enter leave : SrcSlot → Prop) (s t : State) : Prop where
  frame : FloorFrame s t
  places : PlacesLaw t
  inside : ∀ j, Inside t j → Inside s j ∨ enter j
  called : ∀ j, Called s j → Called t j ∨ leave j
  holds : ∀ (j : SrcSlot) (c : Nat), t.srcs[j].floorState = some (.hold c) → s.srcs[j].floorState = some (.hold c)
  stamps : 1 ≤ s.params.admitBurst → s.floor.stamps.length ≤ s.params.admitBurst →
    t.floor.stamps.length ≤ s.params.admitBurst

/-- Whole work of the Floor Controller: moves after which the floor list is within MaxOpen if it was before. -/
structure FloorWork (enter leave : SrcSlot → Prop) (s t : State) : Prop extends FloorMoves enter leave s t where
  size : s.floor.list.length ≤ s.params.maxOpen → t.floor.list.length ≤ s.params.maxOpen

/-- No source at all. -/
def nobody (_ : SrcSlot) : Prop := False

namespace FloorMoves

variable {enter leave enter' leave' : SrcSlot → Prop}

theorem trans (h : FloorMoves enter leave s t) (k : FloorMoves enter leave t u) : FloorMoves enter leave s u where
  frame := h.frame.trans k.frame
  places := k.places
  inside j hj := (k.inside j hj).elim (h.inside j) .inr
  called j hj := (h.called j hj).elim (k.called j) .inr
  holds j c hj := h.holds j c (k.holds j c hj)
  stamps pos hs := by
    have middle := h.stamps pos hs
    rw [← h.frame.params] at pos middle ⊢
    exact k.stamps pos middle

theorem mono (h : FloorMoves enter leave s t) (he : ∀ j, enter j → enter' j ∨ Inside s j)
    (hl : ∀ j, leave j → leave' j) : FloorMoves enter' leave' s t :=
  { h with
    inside := fun j hj => (h.inside j hj).elim .inl fun e => (he j e).symm
    called := fun j hj => (h.called j hj).imp_right (hl j) }

/-- A CLOSED source that does not enter stays CLOSED. -/
theorem closed (law : PlacesLaw s) (h : FloorMoves enter leave s t) (hj : s.srcs[j].floorState = some .closed)
    (stays : ¬ enter j) : t.srcs[j].floorState = some .closed := by
  have frame := h.frame.srcs j
  have outside : ¬ Inside t j := fun inside => (h.inside j inside).elim (law.outside_of_closed hj) stays
  have used : s.srcs[j].inUse = true := by
    by_contra other
    rw [law.free j (Bool.not_eq_true _ ▸ other)] at hj
    cases hj
  have cls : s.srcs[j].floorClass = true := by
    by_contra other
    rw [law.ungated j used (Bool.not_eq_true _ ▸ other)] at hj
    cases hj
  have cls' : t.srcs[j].floorClass = true := by rw [frame]; exact cls
  cases state : s.srcs[j].state with
  | free => rw [Source.inUse, state] at used; cases used
  | active => exact h.places.closed_of_outside ⟨by rw [frame]; exact isActive_iff.mpr state, cls'⟩ outside
  | retiring => exact h.places.retiring j (by rw [frame]; exact state) cls'

/-- Where the places were lawful and no member muted, they are so after, when those who enter are unmuted. -/
theorem membership (law : MembershipLaw s) (h : FloorMoves enter leave s t)
    (unmuted : ∀ j, enter j → s.srcs[j].effMute = false) : MembershipLaw t := by
  refine membershipLaw_iff.mpr ⟨h.places, fun j hj => ?_⟩
  have mute : t.srcs[j].effMute = s.srcs[j].effMute := by rw [h.frame.srcs j]
  rw [mute]
  exact (h.inside j hj).elim (law.unmuted j) (unmuted j)

end FloorMoves

namespace FloorWork

variable {enter leave enter' leave' : SrcSlot → Prop}

theorem refl (law : PlacesLaw s) : FloorWork nobody nobody s s :=
  ⟨⟨.refl s, law, fun _ => .inl, fun _ => .inl, fun _ _ => id, fun _ => id⟩, id⟩

theorem trans (h : FloorWork enter leave s t) (k : FloorWork enter leave t u) : FloorWork enter leave s u :=
  ⟨h.toFloorMoves.trans k.toFloorMoves,
    fun hs => by simpa only [h.frame.params] using k.size (by simpa only [h.frame.params] using h.size hs)⟩

theorem mono (h : FloorWork enter leave s t) (he : ∀ j, enter j → enter' j ∨ Inside s j) (hl : ∀ j, leave j → leave' j) :
    FloorWork enter' leave' s t := ⟨h.toFloorMoves.mono he hl, h.size⟩

/-- Work in which nobody enters or leaves is work whoever may. -/
theorem widen (h : FloorWork nobody nobody s t) : FloorWork enter leave s t :=
  h.mono (fun _ => False.elim) (fun _ => False.elim)

end FloorWork

/-! ### The single moves -/

theorem setFloorState_srcs_eq (i : SrcSlot) (f : FloorState) (s : State) :
    (s.setFloorState i f).srcs = s.srcs.set i { s.srcs[i] with floorState := some f } := rfl

theorem floorState_set (f : FloorState) (srcs : t.srcs = s.srcs.set i { s.srcs[i] with floorState := some f }) (j : SrcSlot) :
    t.srcs[j].floorState = if j = i then some f else s.srcs[j].floorState := by
  rw [srcs]
  split
  · rename_i h; subst h; rw [set_src_same]
  · rename_i h; rw [set_src_other _ _ h]

theorem closeSource_srcs (i : SrcSlot) (s : State) :
    (closeSource i s).srcs = s.srcs.set i { s.srcs[i] with floorState := some .closed } := rfl

theorem closeSource_floor (i : SrcSlot) (s : State) : (closeSource i s).floor = s.floor.without i := rfl

theorem mem_erase_once {l : List SrcSlot} (h : l.Nodup) (i j : SrcSlot) : j ∈ l.erase i ↔ j ≠ i ∧ j ∈ l :=
  h.mem_erase_iff

theorem closeSource_places (law : PlacesLaw s) (h : OfFloor s i) : PlacesLaw (closeSource i s) := by
  obtain ⟨list, chairs, delegates⟩ := law.once
  refine law.move h (by decide) (closeSource_srcs i s) (fun j => ?_) (fun j => ?_) (fun j => ?_)
    ⟨list.erase _, chairs.erase _, delegates.erase _⟩
  · rw [closeSource_floor, FloorCtl.without, mem_erase_once list]; simp [onFloor, isHold]
  · rw [closeSource_floor, FloorCtl.without, mem_erase_once chairs]; simp
  · rw [closeSource_floor, FloorCtl.without, mem_erase_once delegates]; simp

/-- A source of the floor made CLOSED leaves, and nothing else moves (R69 step 1). -/
theorem closeSource_work (law : PlacesLaw s) (h : OfFloor s i) : FloorWork nobody (· = i) s (closeSource i s) where
  frame := closeSource_frame i s
  places := closeSource_places law h
  inside j hj := by
    rw [Inside, closeSource_floor, FloorCtl.without] at hj
    exact .inl (hj.imp List.mem_of_mem_erase (.imp List.mem_of_mem_erase List.mem_of_mem_erase))
  called j hj := by
    rw [Called, floorState_set .closed (closeSource_srcs i s)]
    by_cases e : j = i
    · exact .inr e
    · rw [if_neg e]; exact .inl hj
  holds j c hj := by
    rw [floorState_set .closed (closeSource_srcs i s)] at hj
    split at hj
    · cases hj
    · exact hj
  size hs := (List.length_erase_le).trans hs
  stamps _ hs := hs

/-- A member that takes another floor state of the floor list stays where it is (R66, R67). -/
theorem setFloorState_places (law : PlacesLaw s) (h : i ∈ s.floor.list) {f : FloorState} (on : onFloor (some f) = true) :
    PlacesLaw (s.setFloorState i f) := by
  have ofFloor := law.ofFloor_of_inside (.inl h)
  obtain ⟨noChair, noDelegate⟩ := law.not_queued_of_member h
  have pending : f ≠ .pending := by rintro rfl; cases on
  refine law.move ofFloor (by rintro rfl; cases on) (setFloorState_srcs_eq i f s) (fun j => ?_) (fun j => ?_)
    (fun j => ?_) law.once
  all_goals simp only [State.setFloorState_floor]; by_cases e : j = i <;> simp_all

/-- A member that becomes OPEN or LAST. -/
theorem setFloorState_work (law : PlacesLaw s) (h : i ∈ s.floor.list) {f : FloorState} (hf : f = .opened ∨ f = .last) :
    FloorWork nobody (· = i) s (s.setFloorState i f) where
  frame := setFloorState_frame i f s
  places := setFloorState_places law h (by obtain rfl | rfl := hf <;> rfl)
  inside j hj := .inl hj
  called j hj := by
    rw [Called, floorState_set f (setFloorState_srcs_eq i f s)]
    by_cases e : j = i
    · exact .inr e
    · rw [if_neg e]; exact .inl hj
  holds j c hj := by
    rw [floorState_set f (setFloorState_srcs_eq i f s)] at hj
    split at hj
    · obtain rfl | rfl := hf <;> cases hj
    · exact hj
  size hs := hs
  stamps _ hs := hs

/-- The queue with a source put at the tail of its class part, or at the head of it. -/
theorem joinTail_srcs (i : SrcSlot) (s : State) :
    (joinTail i s).srcs = s.srcs.set i { s.srcs[i] with floorState := some .pending } := rfl

theorem joinTail_floor (i : SrcSlot) (s : State) : (joinTail i s).floor = { s.floor with
    chairs := if s.srcs[i].isChair then s.floor.chairs ++ [i] else s.floor.chairs
    delegates := if s.srcs[i].isChair then s.floor.delegates else s.floor.delegates ++ [i] } := by
  simp only [joinTail, State.setFloorState_floor]
  split <;> rfl

theorem moveToHead_srcs (i : SrcSlot) (s : State) :
    (moveToHead i s).srcs = s.srcs.set i { s.srcs[i] with floorState := some .pending } := rfl

theorem moveToHead_floor (i : SrcSlot) (s : State) : (moveToHead i s).floor = { s.floor.without i with
    chairs := if s.srcs[i].isChair then i :: s.floor.chairs.erase i else s.floor.chairs.erase i
    delegates := if s.srcs[i].isChair then s.floor.delegates.erase i else i :: s.floor.delegates.erase i } := by
  simp only [moveToHead, State.setFloorState_floor]
  split <;> rfl

theorem joinTail_places (law : PlacesLaw s) (h : OfFloor s i) (out : ¬ Inside s i) : PlacesLaw (joinTail i s) := by
  obtain ⟨list, chairs, delegates⟩ := law.once
  simp only [Inside, not_or] at out
  obtain ⟨noList, noChair, noDelegate⟩ := out
  have delegate := isDelegate_iff_not_isChair h.2
  refine law.move h (by decide) (joinTail_srcs i s) (fun j => ?_) (fun j => ?_) (fun j => ?_) ?_ <;>
    rw [joinTail_floor] <;> cases hc : s.srcs[i].isChair
  all_goals simp only [hc, Bool.false_eq_true, if_false, if_true, onFloor, isHold] at delegate ⊢
  case refine_4.false => exact ⟨list, chairs, delegates.append (List.nodup_singleton _) (by simpa using noDelegate)⟩
  case refine_4.true => exact ⟨list, chairs.append (List.nodup_singleton _) (by simpa using noChair), delegates⟩
  all_goals by_cases e : j = i <;> simp_all

/-- A source that joins the queue's tail enters, and nothing else moves (R58). -/
theorem joinTail_work (law : PlacesLaw s) (h : OfFloor s i) (out : ¬ Inside s i) :
    FloorWork (· = i) nobody s (joinTail i s) where
  frame := joinTail_frame i s
  places := joinTail_places law h out
  inside j hj := by
    rw [Inside, joinTail_floor] at hj
    cases hc : s.srcs[i].isChair <;>
      simp only [hc, Bool.false_eq_true, if_false, if_true, List.mem_append, List.mem_singleton] at hj <;>
      unfold Inside <;> tauto
  called j hj := by
    rw [Called, floorState_set .pending (joinTail_srcs i s)]
    split
    · exact .inl (.inr rfl)
    · exact .inl hj
  holds j c hj := by
    rw [floorState_set .pending (joinTail_srcs i s)] at hj
    split at hj
    · cases hj
    · exact hj
  size hs := by rw [joinTail_floor]; exact hs
  stamps _ hs := by rw [joinTail_floor]; exact hs

theorem moveToHead_places (law : PlacesLaw s) (h : OfFloor s i) : PlacesLaw (moveToHead i s) := by
  obtain ⟨list, chairs, delegates⟩ := law.once
  have delegate := isDelegate_iff_not_isChair h.2
  have noChair : i ∉ s.floor.chairs.erase i := fun m => ((mem_erase_once chairs i i).mp m).1 rfl
  have noDelegate : i ∉ s.floor.delegates.erase i := fun m => ((mem_erase_once delegates i i).mp m).1 rfl
  refine law.move h (by decide) (moveToHead_srcs i s) (fun j => ?_) (fun j => ?_) (fun j => ?_) ?_ <;>
    rw [moveToHead_floor] <;> cases hc : s.srcs[i].isChair
  all_goals simp only [hc, Bool.false_eq_true, if_false, if_true, onFloor, isHold, FloorCtl.without] at delegate ⊢
  case refine_4.false => exact ⟨list.erase _, chairs.erase _, List.nodup_cons.mpr ⟨noDelegate, delegates.erase _⟩⟩
  case refine_4.true => exact ⟨list.erase _, List.nodup_cons.mpr ⟨noChair, chairs.erase _⟩, delegates.erase _⟩
  all_goals simp only [List.mem_cons, mem_erase_once list, mem_erase_once chairs, mem_erase_once delegates]
  all_goals by_cases e : j = i <;> simp_all

/-- An OPEN member that goes back to the queue's head stays called to the floor (R58). -/
theorem moveToHead_work (law : PlacesLaw s) (h : i ∈ s.floor.list) : FloorWork nobody nobody s (moveToHead i s) where
  frame := moveToHead_frame i s
  places := moveToHead_places law (law.ofFloor_of_inside (.inl h))
  inside j hj := by
    rw [Inside, moveToHead_floor] at hj
    have erased (l : List SrcSlot) : j ∈ l.erase i → j ∈ l := List.mem_of_mem_erase
    have moved : j = i → j ∈ s.floor.list := fun e => e ▸ h
    cases hc : s.srcs[i].isChair <;>
      simp only [hc, Bool.false_eq_true, if_false, if_true, List.mem_cons, FloorCtl.without] at hj <;>
      unfold Inside <;> (have := erased s.floor.list; have := erased s.floor.chairs; have := erased s.floor.delegates; tauto)
  called j hj := by
    rw [Called, floorState_set .pending (moveToHead_srcs i s)]
    split
    · exact .inl (.inr rfl)
    · exact .inl hj
  holds j c hj := by
    rw [floorState_set .pending (moveToHead_srcs i s)] at hj
    split at hj
    · cases hj
    · exact hj
  size hs := by rw [moveToHead_floor]; exact (List.length_erase_le).trans hs
  stamps _ hs := by rw [moveToHead_floor]; exact hs

/-- An evicted member stays called to the floor if it was OPEN (R64 step 1). -/
theorem evict_work (law : PlacesLaw s) (h : i ∈ s.floor.list) : FloorWork nobody nobody s (evict i s) := by
  unfold evict
  split
  · exact moveToHead_work law h
  · rename_i notOpen
    have closed := closeSource_work law (law.ofFloor_of_inside (.inl h))
    refine { closed with called := fun j hj => ?_ }
    refine .inl ((closed.called j hj).resolve_right ?_)
    rintro rfl
    obtain opened | pending := hj
    · exact notOpen (beq_iff_eq.mpr opened)
    · have on := ((law.list j).mp h).2
      rw [pending] at on
      cases on

/-- An eviction takes its member out of the floor list and leaves the others in their order. -/
theorem evict_list (i : SrcSlot) (s : State) : (evict i s).floor.list = s.floor.list.erase i := by
  unfold evict
  split
  · rw [moveToHead_floor]; rfl
  · rfl

/-! ### Admission -/

theorem admitNone_places (law : PlacesLaw s) (h : OfFloor s i) : PlacesLaw (admitSource i none s) := by
  obtain ⟨list, chairs, delegates⟩ := law.once
  have noList : i ∉ s.floor.list.erase i := fun m => ((mem_erase_once list i i).mp m).1 rfl
  refine law.move h (by decide) (Admission.admitSource_none_srcs i s) (fun j => ?_) (fun j => ?_) (fun j => ?_)
    ⟨(list.erase _).append (List.nodup_singleton _) (by simpa using noList), chairs.erase _, delegates.erase _⟩
  all_goals rw [Admission.admitSource_none_floor]
  · rw [List.mem_append, mem_erase_once list, List.mem_singleton]
    by_cases e : j = i <;> simp [e, onFloor]
  · rw [mem_erase_once chairs]; simp
  · rw [mem_erase_once delegates]; simp

theorem admitNone_size (i : SrcSlot) (s : State) : (admitSource i none s).floor.list.length ≤ s.floor.list.length + 1 := by
  rw [Admission.admitSource_none_floor, List.length_append, List.length_singleton]
  exact Nat.add_le_add_right List.length_erase_le 1

/-- An admission that evicts none: the source enters (R64). -/
theorem admitNone_moves (law : PlacesLaw s) (h : OfFloor s i) : FloorMoves (· = i) nobody s (admitSource i none s) where
  frame := admitSource_frame i none s
  places := admitNone_places law h
  inside j hj := by
    rw [Inside, Admission.admitSource_none_floor, List.mem_append, List.mem_singleton] at hj
    have erased (l : List SrcSlot) : j ∈ l.erase i → j ∈ l := List.mem_of_mem_erase
    have := erased s.floor.list
    have := erased s.floor.chairs
    have := erased s.floor.delegates
    unfold Inside
    tauto
  called j hj := by
    rw [Called, floorState_set .opened (Admission.admitSource_none_srcs i s)]
    split
    · exact .inl (.inl rfl)
    · exact .inl hj
  holds j c hj := by
    rw [floorState_set .opened (Admission.admitSource_none_srcs i s)] at hj
    split at hj
    · cases hj
    · exact hj
  stamps pos hs := by
    rw [Admission.admitSource_none_floor]
    simp only [List.length_append, List.length_drop, List.length_singleton]
    omega

/-- An admission attempt that answers: the source enters, and nobody called to the floor leaves (R62 to R64). -/
theorem tryAdmit_work (law : PlacesLaw s) (h : OfFloor s i) (h' : tryAdmit i s = some t) :
    FloorWork (· = i) nobody s t := by
  obtain ⟨-, ⟨room, rfl⟩ | ⟨full, e, hevict, rfl⟩⟩ := tryAdmit_cases h'
  · exact ⟨admitNone_moves law h, fun _ => (admitNone_size i s).trans room⟩
  · obtain ⟨member, -⟩ := Admission.evictee_spec hevict
    have evicted := evict_work law member
    have ofFloor : OfFloor (evict e s) i := by rw [OfFloor, evicted.frame.srcs i]; exact h
    rw [Admission.admitSource_eq]
    refine ⟨evicted.widen.toFloorMoves.trans (admitNone_moves evicted.places ofFloor), fun hs => ?_⟩
    have size := admitNone_size i (evict e s)
    rw [evict_list, List.length_erase_of_mem member] at size
    have := List.length_pos_of_mem member
    change (admitSource i none (evict e s)).floor.list.length ≤ _
    omega

theorem attempt_work (law : PlacesLaw s) (h : OfFloor s i) (out : ¬ Inside s i) :
    FloorWork (· = i) nobody s (attempt i s) := by
  unfold attempt
  cases h' : tryAdmit i s with
  | none => exact joinTail_work law h out
  | some t => exact tryAdmit_work law h h'

/-! ### Pending service (R65) -/

/-- The head of the queue tried: it was inside, so nobody enters. -/
theorem tryHead_work (law : PlacesLaw s) (head : s.floor.queueHead = some i) (h : tryAdmit i s = some t) :
    FloorWork nobody nobody s t := by
  have inside : Inside s i := .inr (PlacesLaw.queue_of_head head)
  exact (tryAdmit_work law (law.ofFloor_of_inside inside) h).mono (fun j e => .inr (e ▸ inside)) (fun _ => id)

theorem serve_work (n : Nat) (law : PlacesLaw s) : FloorWork nobody nobody s (serve n s) := by
  induction n generalizing s with
  | zero => exact .refl law
  | succ n ih =>
    unfold serve
    split
    next => exact .refl law
    next i head =>
      split
      next admitted =>
        have first := tryHead_work law head admitted
        exact first.trans (ih first.places)
      next => exact .refl law

theorem pendingService_work (law : PlacesLaw s) : FloorWork nobody nobody s (pendingService s) := serve_work _ law

theorem serviceIf_work (b : Bool) (law : PlacesLaw s) : FloorWork nobody nobody s (serviceIf b s) := by
  cases b
  · exact .refl law
  · exact pendingService_work law

/-! ### Removal and the end of a hold (R67, R69) -/

theorem removeSource_eq (i : SrcSlot) (s : State) : (Inside s i ∧ (removeSource i s).1 = closeSource i s ∨
      ¬ Inside s i ∧ (removeSource i s).1 = s) ∧ ((removeSource i s).2 = true ↔ i ∈ s.floor.list) := by
  unfold removeSource Inside
  simp only [List.contains_eq_mem, Bool.or_eq_true, decide_eq_true_eq]
  split
  · simp [*]
  · split <;> simp_all

theorem removeSource_work (law : PlacesLaw s) (i : SrcSlot) : FloorWork nobody (· = i) s (removeSource i s).1 := by
  obtain ⟨⟨inside, h⟩ | ⟨-, h⟩, -⟩ := removeSource_eq i s <;> rw [h]
  · exact closeSource_work law (law.ofFloor_of_inside inside)
  · exact (FloorWork.refl law).widen

theorem removeSource_outside (law : PlacesLaw s) (i : SrcSlot) : ¬ Inside (removeSource i s).1 i := by
  obtain ⟨⟨inside, h⟩ | ⟨outside, h⟩, -⟩ := removeSource_eq i s <;> rw [h]
  · have ofFloor := law.ofFloor_of_inside inside
    exact (closeSource_places law ofFloor).outside_of_closed (by
      rw [floorState_set .closed (closeSource_srcs i s), if_pos rfl])
  · exact outside

theorem removeSources_nil (s : State) : removeSources [] s = (s, false) := rfl

/-- One more source removed, the last of several. -/
theorem removeSources_append (is : List SrcSlot) (i : SrcSlot) (s : State) : removeSources (is ++ [i]) s =
    ((removeSource i (removeSources is s).1).1, (removeSources is s).2 || (removeSource i (removeSources is s).1).2) := by
  simp [removeSources]

theorem removeSources_work (law : PlacesLaw s) (is : List SrcSlot) :
    FloorWork nobody (· ∈ is) s (removeSources is s).1 := by
  induction is using List.reverseRecOn with
  | nil => exact (FloorWork.refl law).widen
  | append_singleton is i ih =>
    rw [removeSources_append]
    exact (ih.mono (fun _ => .inl) fun j hj => List.mem_append_left _ hj).trans
      ((removeSource_work ih.places i).mono (fun _ => .inl) fun j hj => by simp [hj])

theorem removeSources_outside (law : PlacesLaw s) {is : List SrcSlot} (h : i ∈ is) :
    ¬ Inside (removeSources is s).1 i := by
  induction is using List.reverseRecOn with
  | nil => cases h
  | append_singleton is k ih =>
    rw [removeSources_append]
    have places := (removeSources_work law is).places
    obtain earlier | last := List.mem_append.mp h
    · exact fun inside => ((removeSource_work places k).inside i inside).elim (ih earlier) id
    · rw [List.mem_singleton.mp last]
      exact removeSource_outside places k

theorem expireHold_eq (i : SrcSlot) (s : State) :
    (s.params.lastMic = true ∧ s.floor.list = [i] ∧ s.floor.chairs = [] ∧ s.floor.delegates = []) ∧
        expireHold i s = (s.setFloorState i .last, false) ∨
      ¬ (s.params.lastMic = true ∧ s.floor.list = [i] ∧ s.floor.chairs = [] ∧ s.floor.delegates = []) ∧
        expireHold i s = (closeSource i s, true) := by
  have alone : (s.params.lastMic && s.floor.list == [i] && s.floor.queueEmpty) = true ↔
      s.params.lastMic = true ∧ s.floor.list = [i] ∧ s.floor.chairs = [] ∧ s.floor.delegates = [] := by
    simp only [FloorCtl.queueEmpty, Bool.and_eq_true, beq_iff_eq, List.isEmpty_iff, and_assoc]
  unfold expireHold
  split
  next h => exact .inl ⟨alone.mp h, rfl⟩
  next h => exact .inr ⟨fun k => h (alone.mpr k), rfl⟩

theorem expireHold_work (law : PlacesLaw s) (h : i ∈ s.floor.list) :
    FloorWork nobody (· = i) s (expireHold i s).1 := by
  obtain ⟨-, e⟩ | ⟨-, e⟩ := expireHold_eq i s <;> rw [e]
  · exact setFloorState_work law h (.inr rfl)
  · exact closeSource_work law (law.ofFloor_of_inside (.inl h))

/-- Stamps replaced by no more of them. -/
theorem stamps_work (law : PlacesLaw s) (stamps : List Stamp) (fewer : stamps.length ≤ s.floor.stamps.length) :
    FloorWork nobody nobody s { s with floor := { s.floor with stamps := stamps } } where
  frame := .of_floor s _ rfl
  places := ⟨law.list, law.chairs, law.delegates, law.once, law.gated, law.ungated, law.retiring, law.free⟩
  inside _ := .inl
  called _ := .inl
  holds _ _ := id
  stamps _ := fewer.trans
  size := id

theorem expireStamps_work (law : PlacesLaw s) : FloorWork nobody nobody s (expireStamps s) :=
  stamps_work law _ (by simp)

end Sys2Proof.Machine
end

section
/-! Two states with the same floor, the same floor states, the same classes and the same floor parameters are alike to the
Floor Controller: every one of its operations leaves alike states alike. -/

namespace Sys2Proof.Machine

variable {s t u v : State} {i j : SrcSlot}

/-- All that the Floor Controller reads is the same in both states. -/
structure Alike (s t : State) : Prop where
  floor : t.floor = s.floor
  params : t.params = s.params
  floorState : ∀ i : SrcSlot, t.srcs[i].floorState = s.srcs[i].floorState
  cls : ∀ i : SrcSlot, t.srcs[i].cls = s.srcs[i].cls

namespace Alike

theorem refl (s : State) : Alike s s := ⟨rfl, rfl, fun _ => rfl, fun _ => rfl⟩

theorem symm (h : Alike s t) : Alike t s :=
  ⟨h.floor.symm, h.params.symm, fun i => (h.floorState i).symm, fun i => (h.cls i).symm⟩

theorem trans (h : Alike s t) (k : Alike t u) : Alike s u :=
  ⟨k.floor.trans h.floor, k.params.trans h.params, fun i => (k.floorState i).trans (h.floorState i),
    fun i => (k.cls i).trans (h.cls i)⟩

theorem sameFloor (h : Alike s t) : SameFloor s t := ⟨h.floor, h.floorState⟩

/-- Work on each of two alike states leaves them alike when it leaves the same floor and the same floor states. -/
theorem step (h : Alike s t) (hu : FloorFrame s u) (hv : FloorFrame t v) (floor : v.floor = u.floor)
    (state : ∀ i : SrcSlot, v.srcs[i].floorState = u.srcs[i].floorState) : Alike u v where
  floor := floor
  params := by rw [hv.params, hu.params, h.params]
  floorState := state
  cls i := by rw [hu.srcs i, hv.srcs i]; exact h.cls i

/-- A floor state of one source replaced on both sides. -/
theorem set (h : Alike s t) {f : FloorState} (hu : FloorFrame s u) (hv : FloorFrame t v) (floor : v.floor = u.floor)
    (su : u.srcs = s.srcs.set i { s.srcs[i] with floorState := some f })
    (sv : v.srcs = t.srcs.set i { t.srcs[i] with floorState := some f }) : Alike u v :=
  h.step hu hv floor fun j => by rw [floorState_set f su, floorState_set f sv, h.floorState]

variable (h : Alike s t)
include h

theorem isChair (i : SrcSlot) : t.srcs[i].isChair = s.srcs[i].isChair := by rw [Source.isChair, Source.isChair, h.cls]

theorem isDelegate (i : SrcSlot) : t.srcs[i].isDelegate = s.srcs[i].isDelegate := by
  rw [Source.isDelegate, Source.isDelegate, h.cls]

theorem setFloorState (i : SrcSlot) (f : FloorState) : Alike (s.setFloorState i f) (t.setFloorState i f) :=
  h.set (setFloorState_frame i f s) (setFloorState_frame i f t) h.floor rfl rfl

theorem closeSource (i : SrcSlot) : Alike (closeSource i s) (closeSource i t) :=
  h.set (closeSource_frame i s) (closeSource_frame i t) (by rw [closeSource_floor, closeSource_floor, h.floor]) rfl rfl

theorem joinTail (i : SrcSlot) : Alike (joinTail i s) (joinTail i t) :=
  h.set (joinTail_frame i s) (joinTail_frame i t) (by rw [joinTail_floor, joinTail_floor, h.floor, h.isChair]) rfl rfl

theorem moveToHead (i : SrcSlot) : Alike (moveToHead i s) (moveToHead i t) :=
  h.set (moveToHead_frame i s) (moveToHead_frame i t) (by rw [moveToHead_floor, moveToHead_floor, h.floor, h.isChair])
    rfl rfl

theorem evict (i : SrcSlot) : Alike (evict i s) (evict i t) := by
  unfold Machine.evict
  rw [State.floorState, State.floorState, h.floorState]
  split
  · exact h.moveToHead i
  · exact h.closeSource i

theorem admitNone (i : SrcSlot) : Alike (admitSource i none s) (admitSource i none t) :=
  h.set (admitSource_frame i none s) (admitSource_frame i none t)
    (by rw [Admission.admitSource_none_floor, Admission.admitSource_none_floor, h.floor, h.params]) rfl rfl

theorem admitSource (i : SrcSlot) (e : Option SrcSlot) : Alike (admitSource i e s) (admitSource i e t) := by
  cases e with
  | none => exact h.admitNone i
  | some e => exact (h.evict e).admitNone i

theorem evictee (chair : Bool) : Machine.evictee chair t = Machine.evictee chair s := by
  simp only [Machine.evictee, State.floorState, h.floor, h.floorState, h.isDelegate]

/-- An attempt answers alike: on neither side, or on both with states alike. -/
theorem tryAdmit (i : SrcSlot) : (Machine.tryAdmit i s = none ∧ Machine.tryAdmit i t = none) ∨
    ∃ u v, Machine.tryAdmit i s = some u ∧ Machine.tryAdmit i t = some v ∧ Alike u v := by
  have window : windowExhausted t = windowExhausted s := by unfold windowExhausted; rw [h.params, h.floor]
  unfold Machine.tryAdmit
  dsimp only
  rw [h.isChair, h.evictee, h.params, h.floor, window]
  split_ifs
  · exact .inl ⟨rfl, rfl⟩
  · exact .inr ⟨_, _, rfl, rfl, h.admitSource i none⟩
  · cases Machine.evictee s.srcs[i].isChair s with
    | some e => exact .inr ⟨_, _, rfl, rfl, h.admitSource i (some e)⟩
    | none => exact .inl ⟨rfl, rfl⟩

theorem attempt (i : SrcSlot) : Alike (attempt i s) (attempt i t) := by
  unfold Machine.attempt
  obtain ⟨hs, ht⟩ | ⟨u, v, hs, ht, alike⟩ := h.tryAdmit i <;> rw [hs, ht]
  · exact h.joinTail i
  · exact alike

omit h in
theorem serve (n : Nat) (h : Alike s t) : Alike (serve n s) (serve n t) := by
  induction n generalizing s t with
  | zero => exact h
  | succ n ih =>
    unfold Machine.serve
    rw [h.floor]
    split
    next => exact h
    next i _ =>
      obtain ⟨hs, ht⟩ | ⟨u, v, hs, ht, alike⟩ := h.tryAdmit i <;> rw [hs, ht]
      · exact h
      · exact ih alike

theorem pendingService : Alike (pendingService s) (pendingService t) := by
  unfold Machine.pendingService
  rw [h.floor]
  exact h.serve _

theorem serviceIf (b : Bool) : Alike (serviceIf b s) (serviceIf b t) := by
  cases b
  · exact h
  · exact h.pendingService

theorem queueServed (served : QueueServed s) : QueueServed t := fun i head => by
  rw [h.floor] at head
  obtain ⟨-, ht⟩ | ⟨u, v, hs, -⟩ := h.tryAdmit i
  · exact ht
  · rw [served i head] at hs
    cases hs

theorem removeSource (i : SrcSlot) : Alike (removeSource i s).1 (removeSource i t).1 ∧
    (Machine.removeSource i t).2 = (Machine.removeSource i s).2 := by
  unfold Machine.removeSource
  rw [h.floor]
  split
  · exact ⟨h.closeSource i, rfl⟩
  · split
    · exact ⟨h.closeSource i, rfl⟩
    · exact ⟨h, rfl⟩

theorem removeSources (is : List SrcSlot) : Alike (removeSources is s).1 (removeSources is t).1 ∧
    (Machine.removeSources is t).2 = (Machine.removeSources is s).2 := by
  induction is using List.reverseRecOn with
  | nil => exact ⟨h, rfl⟩
  | append_singleton is i ih =>
    rw [removeSources_append, removeSources_append, ih.2, (ih.1.removeSource i).2]
    exact ⟨(ih.1.removeSource i).1, rfl⟩

theorem expireHold (i : SrcSlot) : Alike (expireHold i s).1 (expireHold i t).1 ∧
    (Machine.expireHold i t).2 = (Machine.expireHold i s).2 := by
  unfold Machine.expireHold
  rw [h.floor, h.params]
  split
  · exact ⟨h.setFloorState i _, rfl⟩
  · exact ⟨h.closeSource i, rfl⟩

/-- Alike states have lawful places together, when the lifecycle states agree as well. -/
theorem places (law : PlacesLaw s) (state : ∀ i : SrcSlot, t.srcs[i].state = s.srcs[i].state) : PlacesLaw t := by
  have cls (i : SrcSlot) : t.srcs[i].floorClass = s.srcs[i].floorClass := by
    rw [Source.floorClass, Source.floorClass, h.cls]
  have active (i : SrcSlot) : t.srcs[i].isActive = s.srcs[i].isActive := by
    rw [Source.isActive, Source.isActive, state]
  have use (i : SrcSlot) : t.srcs[i].inUse = s.srcs[i].inUse := by rw [Source.inUse, Source.inUse, state]
  refine ⟨?_, ?_, ?_, ?_, ?_, ?_, ?_, ?_⟩
  all_goals simp only [h.floor, h.floorState, h.isChair, h.isDelegate, cls, active, use, state]
  exacts [law.list, law.chairs, law.delegates, law.once, law.gated, law.ungated, law.retiring, law.free]

end Alike

/-! ### The end of an event -/

theorem finishEvent_params (s t : State) : (finishEvent s t).params = t.params := by
  simp only [State.params, finishEvent, noteFloor, State.mapSrcs_banks, State.addNoticeIf_banks]

/-- The end of an event moves no field of a source but its gain. -/
theorem finishEvent_src_frame (s t : State) (i : SrcSlot) :
    (finishEvent s t).srcs[i] = { t.srcs[i] with gain := (finishEvent s t).srcs[i].gain } := by
  rw [finishEvent_src]
  split <;> rfl

theorem finishEvent_alike (s t : State) : Alike t (finishEvent s t) where
  floor := finishEvent_floor s t
  params := finishEvent_params s t
  floorState i := by rw [finishEvent_src_frame]
  cls i := by rw [finishEvent_src_frame]

end Sys2Proof.Machine
end

section
/-! Proofs for O39: pending service ends with an empty queue or a failing head (R65), because an admission brings the
number of tries it can still need down: a CHAIR leaves the queue for at most one DELEGATE, a DELEGATE for none. -/

namespace Sys2Proof.Machine.Service

variable {s t : State} {i j : SrcSlot} {n m : Nat}

theorem queueHead_eq (c : FloorCtl) : c.queueHead = (c.chairs ++ c.delegates).head? := by
  unfold FloorCtl.queueHead
  split
  next h => rw [h]; rfl
  next h => rw [h]; rfl

/-! ### An admission brings the tries down -/

/-- A DELEGATE's attempt evicts no OPEN member (R62). -/
theorem evictee_delegate (h : evictee false s = some j) : s.srcs[j].floorState ≠ some .opened := by
  intro opened
  simp only [evictee, Bool.false_eq_true, if_false, Option.orElse_eq_orElse, Option.orElse_eq_or,
    Option.or_eq_some_iff] at h
  obtain last | ⟨-, hold | ⟨-, none_found⟩⟩ := h
  · have found := List.find?_some last
    rw [State.floorState, opened] at found
    cases found
  · have found := List.find?_some hold
    rw [State.floorState, opened] at found
    cases found
  · cases none_found

theorem requeued_length (s : State) (e : Option SrcSlot) : (Admission.requeued s e).length ≤ 1 := by
  cases e with
  | none => exact Nat.zero_le _
  | some j =>
    by_cases h : s.srcs[j].floorState = some .opened
    · rw [Admission.requeued_opened h]; exact Nat.le_refl 1
    · rw [Admission.requeued_other h]; exact Nat.zero_le _

/-- What an attempt that answers leaves of the floor, where the places are lawful. -/
theorem tryAdmit_floor (law : PlacesLaw s) (out : i ∉ s.floor.list) (h : tryAdmit i s = some t) :
    ∃ e, (e = none ∨ evictee s.srcs[i].isChair s = e) ∧ t.floor.chairs = s.floor.chairs.erase i ∧
      t.floor.delegates = Admission.requeued s e ++ s.floor.delegates.erase i := by
  have evictable (e : SrcSlot) (he : evictee s.srcs[i].isChair s = some e) : Admission.Evictable s e := by
    obtain ⟨member, delegate⟩ := Admission.evictee_spec he
    obtain ⟨noChair, noDelegate⟩ := law.not_queued_of_member member
    exact ⟨member, noChair, noDelegate, delegate⟩
  obtain ⟨-, ⟨-, rfl⟩ | ⟨-, e, he, rfl⟩⟩ := tryAdmit_cases h
  · have nobody_evicted : ∀ k, (none : Option SrcSlot) = some k → Admission.Evictable s k := fun _ h => nomatch h
    refine ⟨none, .inl rfl, ?_, ?_⟩ <;> rw [Admission.admitSource_floor out nobody_evicted]
  · refine ⟨some e, .inr he, ?_, ?_⟩ <;>
      rw [Admission.admitSource_floor out fun k hk => evictable k (Option.some.inj hk ▸ he)]

theorem serveFuel_lt (law : PlacesLaw s) (head : s.floor.queueHead = some i) (h : tryAdmit i s = some t) :
    serveFuel t.floor < serveFuel s.floor := by
  have queued := PlacesLaw.queue_of_head head
  have ofFloor := law.ofFloor_of_inside (.inr queued)
  have out : i ∉ s.floor.list := fun member => by
    obtain ⟨noChair, noDelegate⟩ := law.not_queued_of_member member
    exact queued.elim noChair noDelegate
  obtain ⟨e, he, chairs, delegates⟩ := tryAdmit_floor law out h
  have one := requeued_length s e
  rw [serveFuel, serveFuel, chairs, delegates, List.length_append]
  have shorter := List.length_erase_le (a := i) (l := s.floor.delegates)
  by_cases hc : i ∈ s.floor.chairs
  · have := List.length_pos_of_mem hc
    rw [List.length_erase_of_mem hc]
    omega
  · have hd := queued.resolve_left hc
    have notChair := (isDelegate_iff_not_isChair ofFloor.2).mp ((law.delegates i).mp hd).2.1
    have none_back : Admission.requeued s e = [] := by
      obtain rfl | he := he
      · rfl
      · cases e with
        | none => rfl
        | some j => exact Admission.requeued_other (evictee_delegate (notChair ▸ he))
    have := List.length_pos_of_mem hd
    rw [List.length_erase_of_mem hd, List.erase_of_not_mem hc, none_back, List.length_nil]
    omega

/-! ### Service -/

theorem queueHead_of_fuel (h : serveFuel s.floor = 0) : s.floor.queueHead = none := by
  unfold serveFuel at h
  rw [queueHead_eq, List.length_eq_zero_iff.mp (by omega : s.floor.chairs.length = 0),
    List.length_eq_zero_iff.mp (by omega : s.floor.delegates.length = 0)]
  rfl

theorem serve_idle (h : s.floor.queueHead = none) : serve n s = s := by
  cases n with
  | zero => rfl
  | succ n => rw [serve, h]

theorem serve_failed (h : s.floor.queueHead = some i) (k : tryAdmit i s = none) : serve n s = s := by
  cases n with
  | zero => rfl
  | succ n => simp only [serve, h, k]

theorem serve_admitted (h : s.floor.queueHead = some i) (k : tryAdmit i s = some t) : serve (n + 1) s = serve n t := by
  simp only [serve, h, k]

/-- More tries than the floor can need make no difference. -/
theorem serve_fuel (law : PlacesLaw s) (hn : serveFuel s.floor ≤ n) (hm : serveFuel s.floor ≤ m) :
    serve n s = serve m s := by
  induction n generalizing s m with
  | zero => rw [serve_idle (queueHead_of_fuel (Nat.le_zero.mp hn)), serve_idle (queueHead_of_fuel (Nat.le_zero.mp hn))]
  | succ n ih =>
    cases head : s.floor.queueHead with
    | none => rw [serve_idle head, serve_idle head]
    | some i =>
      cases tried : tryAdmit i s with
      | none => rw [serve_failed head tried, serve_failed head tried]
      | some t =>
        have fewer := serveFuel_lt law head tried
        obtain ⟨m, rfl⟩ : ∃ k, m = k + 1 := ⟨m - 1, by omega⟩
        rw [serve_admitted head tried, serve_admitted head tried]
        exact ih (tryHead_work law head tried).places (by omega) (by omega)

/-- A head that is admitted leaves the service to go on from there (R65). -/
theorem pendingService_admitted (law : PlacesLaw s) (head : s.floor.queueHead = some i) (h : tryAdmit i s = some t) :
    pendingService s = pendingService t := by
  have fewer := serveFuel_lt law head h
  obtain ⟨k, hk⟩ : ∃ k, serveFuel s.floor = k + 1 := ⟨serveFuel s.floor - 1, by omega⟩
  rw [pendingService, hk, serve_admitted head h]
  exact serve_fuel (tryHead_work law head h).places (by omega) le_rfl

theorem pendingService_idle (h : s.floor.queueHead = none) : pendingService s = s := serve_idle h

theorem pendingService_failed (h : s.floor.queueHead = some i) (k : tryAdmit i s = none) : pendingService s = s :=
  serve_failed h k

/-- Pending service leaves an empty queue or a failing head (R65: "It always ends"). -/
theorem pendingService_served (law : PlacesLaw s) : QueueServed (pendingService s) := by
  generalize hn : serveFuel s.floor = n
  induction n using Nat.strongRecOn generalizing s with
  | ind n ih =>
    cases head : s.floor.queueHead with
    | none =>
      rw [pendingService_idle head]
      exact fun i hi => by rw [head] at hi; cases hi
    | some i =>
      cases tried : tryAdmit i s with
      | none =>
        rw [pendingService_failed head tried]
        exact fun j hj => by rw [head] at hj; rw [← Option.some.inj hj, tried]
      | some t =>
        rw [pendingService_admitted law head tried]
        exact ih _ (hn ▸ serveFuel_lt law head tried) (tryHead_work law head tried).places rfl

/-- Pending service changes nothing beside the floor and the floor states. -/
theorem pendingService_rest (s : State) : { pendingService s with srcs := s.srcs, floor := s.floor } = s :=
  (pendingService_frame s).rest

/-- Settles O39: service is empty, fails at its head, or goes on from an admission; and it is work of the floor in which
nobody enters. -/
theorem pendingServiceServesUntilItFails : Obligations.PendingServiceServesUntilItFails := by
  unfold Obligations.PendingServiceServesUntilItFails
  refine ⟨fun s i => rfl, fun s => ⟨queueHead_eq s.floor, fun chairs delegates => ?empty, fun i head failed => ?failed,
    fun law => ?lawful, (pendingService_frame s).block, (pendingService_frame s).srcs, (pendingService_frame s).rest⟩⟩
  case empty => exact pendingService_idle (by rw [queueHead_eq, chairs, delegates]; rfl)
  case failed => exact pendingService_failed ((queueHead_eq s.floor).trans head) failed
  case lawful =>
    have work := pendingService_work law.places
    exact ⟨fun i t head admitted => pendingService_admitted law.places ((queueHead_eq s.floor).trans head) admitted,
      pendingService_served law.places, work.membership law (fun _ => False.elim), work.size⟩

end Sys2Proof.Machine.Service
end

section
/-! The rules of the floor's work at a swap effect (R78): what each of its steps keeps of the places, and the sending away
of several sources at once, which a swap's holds and a lost link have in common. -/

namespace Sys2Proof.Machine

variable {s t u : State} {i j : SrcSlot}

/-! ### LAST (R78 step 1) -/

theorem find_last_mem (h : (s.floor.list.find? fun i => s.floorState i == some .last) = some i) :
    i ∈ s.floor.list ∧ s.srcs[i].floorState = some .last :=
  ⟨List.mem_of_find?_eq_some h, beq_iff_eq.mp (List.find?_some (p := fun i => s.floorState i == some .last) h)⟩

theorem swapLast_work (law : PlacesLaw s) :
    FloorWork nobody (fun j => s.srcs[j].floorState = some .last) s (swapLast s) := by
  unfold swapLast
  split
  · exact (FloorWork.refl law).widen
  · split
    next i found =>
      obtain ⟨member, last⟩ := find_last_mem found
      exact (closeSource_work law (law.ofFloor_of_inside (.inl member))).mono (fun _ => .inl) fun j e => e ▸ last
    next => exact (FloorWork.refl law).widen

/-! ### Holds (R78 step 2) -/

/-- Every hold count lowered to HoldBlocks. -/
def lowered (s : State) : State :=
  s.mapSrcs fun _ x => { x with floorState := lowerHold s.params.holdBlocks x.floorState }

theorem lowered_src (s : State) (i : SrcSlot) :
    (lowered s).srcs[i] = { s.srcs[i] with floorState := lowerHold s.params.holdBlocks s.srcs[i].floorState } :=
  State.mapSrcs_at s _ i

@[simp] theorem lowered_floor (s : State) : (lowered s).floor = s.floor := by simp only [lowered, State.mapSrcs_floor]

theorem lowered_frame (s : State) : FloorFrame s (lowered s) where
  srcs i := by rw [lowered_src]
  block := by rw [lowered_floor]
  rest := by simp only [lowered, State.mapSrcs]

theorem lowerHold_cases (h : Nat) (f : Option FloorState) :
    (∃ c, f = some (.hold c) ∧ lowerHold h f = some (.hold (min c h))) ∨ isHold f = false ∧ lowerHold h f = f := by
  cases f with
  | none => exact .inr ⟨rfl, rfl⟩
  | some g =>
    cases g with
    | hold c => exact .inl ⟨c, rfl, rfl⟩
    | _ => exact .inr ⟨rfl, rfl⟩

/-- A lowered hold is a hold, and every other floor state stays. -/
theorem lowerHold_eq_iff {h : Nat} {f : Option FloorState} {g : FloorState} (hg : isHold (some g) = false) :
    lowerHold h f = some g ↔ f = some g := by
  obtain ⟨c, rfl, e⟩ | ⟨-, e⟩ := lowerHold_cases h f <;> rw [e]
  refine ⟨fun h => ?_, fun h => ?_⟩ <;> rw [← Option.some.inj h] at hg <;> cases hg

theorem isHold_lowerHold (h : Nat) (f : Option FloorState) : isHold (lowerHold h f) = isHold f := by
  obtain ⟨c, rfl, e⟩ | ⟨-, e⟩ := lowerHold_cases h f <;> rw [e]
  rfl

theorem onFloor_lowerHold (h : Nat) (f : Option FloorState) : onFloor (lowerHold h f) = onFloor f := by
  obtain ⟨c, rfl, e⟩ | ⟨-, e⟩ := lowerHold_cases h f <;> rw [e]
  rfl

theorem lowered_places (law : PlacesLaw s) : PlacesLaw (lowered s) := by
  have isSome (i : SrcSlot) : (lowerHold s.params.holdBlocks s.srcs[i].floorState).isSome = s.srcs[i].floorState.isSome := by
    obtain ⟨c, hc, e⟩ | ⟨-, e⟩ := lowerHold_cases s.params.holdBlocks s.srcs[i].floorState <;> rw [e]
    rw [hc]; rfl
  have isNone (i : SrcSlot) : lowerHold s.params.holdBlocks s.srcs[i].floorState = none ↔ s.srcs[i].floorState = none := by
    obtain ⟨c, hc, e⟩ | ⟨-, e⟩ := lowerHold_cases s.params.holdBlocks s.srcs[i].floorState <;> rw [e]
    rw [hc]
    exact ⟨nofun, nofun⟩
  refine ⟨fun i => ?_, fun i => ?_, fun i => ?_, ?_, fun i => ?_, fun i => ?_, fun i => ?_, fun i => ?_⟩ <;>
    simp only [lowered_floor, lowered_src]
  · rw [onFloor_lowerHold]; exact law.list i
  · rw [lowerHold_eq_iff rfl]; exact law.chairs i
  · rw [lowerHold_eq_iff rfl]; exact law.delegates i
  · exact law.once
  · rw [isSome, Ne, lowerHold_eq_iff rfl]; exact law.gated i
  · rw [lowerHold_eq_iff rfl]; exact law.ungated i
  · rw [lowerHold_eq_iff rfl]; exact law.retiring i
  · rw [isNone]; exact law.free i

/-- A hold that stands at 0 expired, where the source holds one. -/
def expireZero (s : State) (i : SrcSlot) : State :=
  if s.floorState i == some (.hold 0) then (expireHold i s).1 else s

theorem swapHolds_eq (s : State) : swapHolds s = s.floor.list.foldl expireZero (lowered s) := by
  have floor : (lowered s).floor.list = s.floor.list := by rw [lowered_floor]
  rw [← floor]
  rfl

theorem expireZero_work (law : PlacesLaw s) (i : SrcSlot) :
    FloorWork nobody (fun j => isHold s.srcs[j].floorState = true) s (expireZero s i) := by
  unfold expireZero
  split
  next h =>
    have hold : s.srcs[i].floorState = some (.hold 0) := beq_iff_eq.mp h
    have ofFloor := law.ofFloor_of_state hold nofun nofun
    have member : i ∈ s.floor.list := (law.mem_list_iff ofFloor).mpr (by rw [hold]; rfl)
    exact (expireHold_work law member).mono (fun _ => .inl) fun j e => by rw [e, hold]; rfl
  next => exact (FloorWork.refl law).widen

theorem not_hold_of_called (h : Called s i) : isHold s.srcs[i].floorState = false := by
  obtain e | e := h <;> rw [e] <;> rfl

/-- The holds that stand at 0 expired, one source after another: none that is called to the floor leaves. -/
theorem expireZeros_work (is : List SrcSlot) (law : PlacesLaw s) :
    FloorWork nobody nobody s (is.foldl expireZero s) := by
  induction is generalizing s with
  | nil => exact .refl law
  | cons i is ih =>
    have first := expireZero_work law i
    have stay : FloorWork nobody nobody s (expireZero s i) := { first with
      called := fun j called => .inl ((first.called j called).resolve_right (by rw [not_hold_of_called called]; nofun)) }
    exact stay.trans (ih stay.places)

/-- A member expired at 0 is not on hold afterwards, and stays so. -/
theorem expireZero_not_zero (s : State) (i : SrcSlot) : (expireZero s i).srcs[i].floorState ≠ some (.hold 0) := by
  unfold expireZero
  split
  next h =>
    obtain ⟨-, e⟩ | ⟨-, e⟩ := expireHold_eq i s <;> rw [e]
    · rw [floorState_set .last (setFloorState_srcs_eq i _ s), if_pos rfl]; nofun
    · rw [floorState_set .closed (closeSource_srcs i s), if_pos rfl]; nofun
  next h => exact fun e => h (beq_iff_eq.mpr e)

theorem expireZeros_not_zero {is : List SrcSlot} (law : PlacesLaw s) (h : i ∈ is) :
    (is.foldl expireZero s).srcs[i].floorState ≠ some (.hold 0) := by
  induction is generalizing s with
  | nil => cases h
  | cons k is ih =>
    have first := expireZero_work law k
    obtain rfl | later := List.mem_cons.mp h
    · exact fun e => expireZero_not_zero s i ((expireZeros_work is first.places).holds i 0 e)
    · exact ih first.places later

/-! ### Surplus members (R78 step 3) -/

theorem surplus_mem (h : surplus s = some i) : i ∈ s.floor.list := by
  simp only [surplus, Option.orElse_eq_orElse, Option.orElse_eq_or, Option.or_eq_some_iff] at h
  obtain h | ⟨-, h | ⟨-, h | ⟨-, h⟩⟩⟩ := h
  · exact List.mem_of_find?_eq_some h
  · exact List.mem_of_find?_eq_some h
  · exact List.mem_reverse.mp (List.mem_of_find?_eq_some h)
  · exact List.mem_reverse.mp (List.mem_of_find?_eq_some h)

/-- A floor with a member has one to give up. -/
theorem surplus_some (law : PlacesLaw s) (h : i ∈ s.floor.list) : ∃ j, surplus s = some j := by
  rw [← Option.ne_none_iff_exists']
  intro none_found
  simp only [surplus, Option.orElse_eq_orElse, Option.orElse_eq_or, Option.or_eq_none_iff, List.find?_eq_none,
    List.mem_reverse] at none_found
  obtain ⟨last, hold, delegate, chair⟩ := none_found
  have cls := floorClass_iff.mp (law.ofFloor_of_inside (.inl h)).2
  obtain on | on | on := onFloor_iff.mp ((law.list i).mp h).2
  · have opened : (s.floorState i == some .opened) = true := beq_iff_eq.mpr on
    obtain isChair | isDelegate := cls
    · exact chair i h (by rw [opened, isChair]; rfl)
    · exact delegate i h (by rw [opened, isDelegate]; rfl)
  · exact hold i h on
  · exact last i h (beq_iff_eq.mpr on)

theorem shrinkFloor_work (n : Nat) (law : PlacesLaw s) : FloorWork nobody nobody s (shrinkFloor n s) := by
  induction n generalizing s with
  | zero => exact .refl law
  | succ n ih =>
    unfold shrinkFloor
    split
    next => exact .refl law
    next =>
      split
      next i found =>
        have evicted := evict_work law (surplus_mem found)
        exact evicted.trans (ih evicted.places)
      next => exact .refl law

/-- With as many tries as the floor has members, MaxOpen is met. -/
theorem shrinkFloor_size {n : Nat} (law : PlacesLaw s) (h : s.floor.list.length ≤ n) :
    (shrinkFloor n s).floor.list.length ≤ s.params.maxOpen := by
  induction n generalizing s with
  | zero => exact h.trans (Nat.zero_le _)
  | succ n ih =>
    unfold shrinkFloor
    split
    next fits => exact fits
    next surplus_left =>
      obtain ⟨i, member⟩ := List.exists_mem_of_length_pos (by omega : 0 < s.floor.list.length)
      obtain ⟨j, found⟩ := surplus_some law member
      rw [found]
      have evicted := evict_work law (surplus_mem found)
      have params : (evict j s).params = s.params := evicted.frame.params
      have shorter : (evict j s).floor.list.length ≤ n := by
        rw [evict_list, List.length_erase_of_mem (surplus_mem found)]
        omega
      exact params ▸ ih evicted.places shorter

/-! ### The whole of R78 -/

theorem swapStamps_work (law : PlacesLaw s) : FloorWork nobody nobody s (swapStamps s) :=
  stamps_work law _ (by simp)

theorem swapStamps_length (s : State) : (swapStamps s).floor.stamps.length ≤ s.params.admitBurst := by
  change (s.floor.stamps.drop _).length ≤ _
  rw [List.length_drop]
  omega

/-- The floor once its LAST member and its holds are adjusted. -/
def holdsAdjusted (s : State) : State := swapHolds (swapLast s)

theorem holdsAdjusted_frame (law : PlacesLaw s) : FloorFrame s (holdsAdjusted s) := by
  have last := swapLast_work law
  rw [holdsAdjusted, swapHolds_eq]
  exact last.frame.trans ((lowered_frame _).trans (expireZeros_work _ (lowered_places last.places)).frame)

theorem holdsAdjusted_places (law : PlacesLaw s) : PlacesLaw (holdsAdjusted s) := by
  have last := swapLast_work law
  rw [holdsAdjusted, swapHolds_eq]
  exact (expireZeros_work _ (lowered_places last.places)).places

theorem holdsAdjusted_inside (law : PlacesLaw s) (h : Inside (holdsAdjusted s) i) : Inside s i := by
  have last := swapLast_work law
  rw [holdsAdjusted, swapHolds_eq] at h
  have before := ((expireZeros_work _ (lowered_places last.places)).inside i h).resolve_right id
  rw [Inside, lowered_floor] at before
  exact (last.inside i before).resolve_right id

/-- After the holds are adjusted every hold count lies from 1 to HoldBlocks (R78 step 2). -/
theorem holdsAdjusted_holds (law : PlacesLaw s) {c : Nat}
    (pos : ∀ (i : SrcSlot) (c : Nat), s.srcs[i].floorState = some (.hold c) → 1 ≤ c)
    (h : (holdsAdjusted s).srcs[i].floorState = some (.hold c)) : 1 ≤ c ∧ c ≤ s.params.holdBlocks := by
  have last := swapLast_work law
  have places := lowered_places last.places
  rw [holdsAdjusted, swapHolds_eq] at h
  have before := (expireZeros_work (swapLast s).floor.list places).holds i c h
  have ofFloor := places.ofFloor_of_state before nofun nofun
  have member : i ∈ (swapLast s).floor.list := by
    have := (places.mem_list_iff ofFloor).mpr (by rw [before]; rfl)
    rwa [lowered_floor] at this
  have notZero := expireZeros_not_zero places member
  rw [lowered_src] at before
  obtain ⟨c', held, e⟩ | ⟨no, e⟩ := lowerHold_cases (swapLast s).params.holdBlocks (swapLast s).srcs[i].floorState
  · rw [e] at before
    have hc : min c' (swapLast s).params.holdBlocks = c := by simpa using before
    have := pos i c' (last.holds i c' held)
    have : c ≠ 0 := fun zero => notZero (zero ▸ h)
    rw [← last.frame.params]
    omega
  · rw [e] at before
    rw [before] at no
    cases no

theorem floorSwap_eq (s : State) :
    floorSwap s = swapStamps (shrinkFloor (holdsAdjusted s).floor.list.length (holdsAdjusted s)) := rfl

/-- From the adjusted holds to the end of the floor's work at a swap nobody enters and nobody called to the floor leaves. -/
theorem swapServed_work (law : PlacesLaw s) :
    FloorWork nobody nobody (holdsAdjusted s) (pendingService (expireStamps (floorSwap s))) := by
  have places := holdsAdjusted_places law
  have shrunk := shrinkFloor_work (holdsAdjusted s).floor.list.length places
  have stamps := swapStamps_work shrunk.places
  have expired := expireStamps_work stamps.places
  rw [floorSwap_eq]
  exact shrunk.trans (stamps.trans (expired.trans (pendingService_work expired.places)))

theorem swapServed_size (law : PlacesLaw s) :
    (pendingService (expireStamps (floorSwap s))).floor.list.length ≤ s.params.maxOpen := by
  have places := holdsAdjusted_places law
  have shrunk := shrinkFloor_work (holdsAdjusted s).floor.list.length places
  have stamps := swapStamps_work shrunk.places
  have expired := expireStamps_work stamps.places
  have rest := stamps.trans (expired.trans (pendingService_work expired.places))
  have params : (shrinkFloor (holdsAdjusted s).floor.list.length (holdsAdjusted s)).params = s.params :=
    shrunk.frame.params.trans (holdsAdjusted_frame law).params
  rw [floorSwap_eq]
  refine params ▸ rest.size ?_
  rw [params, ← (holdsAdjusted_frame law).params]
  exact shrinkFloor_size places le_rfl

theorem swapServed_stamps (law : PlacesLaw s) (pos : 1 ≤ s.params.admitBurst) :
    (pendingService (expireStamps (floorSwap s))).floor.stamps.length ≤ s.params.admitBurst := by
  have places := holdsAdjusted_places law
  have shrunk := shrinkFloor_work (holdsAdjusted s).floor.list.length places
  have stamps := swapStamps_work shrunk.places
  have expired := expireStamps_work stamps.places
  have rest := expired.trans (pendingService_work expired.places)
  have before : (shrinkFloor (holdsAdjusted s).floor.list.length (holdsAdjusted s)).params = s.params :=
    shrunk.frame.params.trans (holdsAdjusted_frame law).params
  have params : (floorSwap s).params = s.params := stamps.frame.params.trans before
  have kept := rest.stamps (params ▸ pos) (by rw [stamps.frame.params]; exact swapStamps_length _)
  rwa [stamps.frame.params, before] at kept

theorem swapServed_frame (law : PlacesLaw s) : FloorFrame s (pendingService (expireStamps (floorSwap s))) :=
  (holdsAdjusted_frame law).trans (swapServed_work law).frame

end Sys2Proof.Machine
end

section
/-! What an event can do to the floor: the action on a measurement's voice state (R60), and the changes of effective mute
that one event hands on (R39, R69 to R71). Each keeps the law of the collections. -/

namespace Sys2Proof.Machine

variable {s t u : State} {i j : SrcSlot}

/-! ### Work of an event that may begin holds -/

/-- The floor's part of an event from `s` to `t`: it keeps the law of the collections, MaxOpen, AdmitBurst and the law of
the hold counts. -/
structure FloorEvent (s t : State) : Prop where
  frame : FloorFrame s t
  membership : MembershipLaw t
  size : s.floor.list.length ≤ s.params.maxOpen → t.floor.list.length ≤ s.params.maxOpen
  stamps : 1 ≤ s.params.admitBurst → s.floor.stamps.length ≤ s.params.admitBurst →
    t.floor.stamps.length ≤ s.params.admitBurst
  holds : HoldLaw s → HoldLaw t

theorem FloorEvent.trans (h : FloorEvent s t) (k : FloorEvent t u) : FloorEvent s u where
  frame := h.frame.trans k.frame
  membership := k.membership
  size hs := h.frame.params ▸ k.size (h.frame.params.symm ▸ h.size hs)
  stamps pos hs := by
    have middle := h.stamps pos hs
    rw [← h.frame.params] at pos middle ⊢
    exact k.stamps pos middle
  holds law := k.holds (h.holds law)

theorem FloorWork.holdLaw {enter leave : SrcSlot → Prop} (h : FloorMoves enter leave s t) (law : HoldLaw s) :
    HoldLaw t := fun j c hj => by
  rw [h.frame.params]
  exact law j c (h.holds j c hj)

/-- Work whose entrants are unmuted is an event's part. -/
theorem FloorWork.event {enter leave : SrcSlot → Prop} (law : MembershipLaw s) (h : FloorWork enter leave s t)
    (unmuted : ∀ j, enter j → s.srcs[j].effMute = false) : FloorEvent s t :=
  ⟨h.frame, h.membership law unmuted, h.size, h.stamps, FloorWork.holdLaw h.toFloorMoves⟩

theorem FloorEvent.refl (law : MembershipLaw s) : FloorEvent s s := (FloorWork.refl law.places).event law nofun

theorem serviceIf_event (b : Bool) (law : MembershipLaw s) : FloorEvent s (serviceIf b s) :=
  (serviceIf_work b law.places).event law (fun _ => False.elim)

/-- A member that goes on hold, or stays on it with another count (R66, R67). -/
theorem setHold_event (law : MembershipLaw s) (member : i ∈ s.floor.list) {c : Nat}
    (count : HoldLaw s → 1 ≤ c ∧ c ≤ s.params.holdBlocks) : FloorEvent s (s.setFloorState i (.hold c)) where
  frame := setFloorState_frame i _ s
  membership := membershipLaw_iff.mpr ⟨setFloorState_places law.places member rfl, fun j inside => by
    rw [(setFloorState_frame i (.hold c) s).srcs j]
    exact law.unmuted j inside⟩
  size := id
  stamps _ := id
  holds holds j d hj := by
    rw [floorState_set _ (setFloorState_srcs_eq i _ s)] at hj
    rw [(setFloorState_frame i (.hold c) s).params]
    split at hj
    · obtain rfl : c = d := by simpa using hj
      exact count holds
    · exact holds j d hj

/-- The end of a hold with the pending service that follows a removal (R67, R69). -/
theorem expiry_event (law : MembershipLaw s) (member : i ∈ s.floor.list) :
    FloorEvent s (serviceIf (expireHold i s).2 (expireHold i s).1) := by
  have expired := (expireHold_work law.places member).event law (fun _ => False.elim)
  exact expired.trans (serviceIf_event _ expired.membership)

/-! ### The action on a voice state (R60) -/

theorem floorAction_event (law : MembershipLaw s) (h : OfFloor s i) : FloorEvent s (floorAction i s) := by
  have places := law.places
  have member (f : FloorState) (state : s.srcs[i].floorState = some f) (on : onFloor (some f) = true) :
      i ∈ s.floor.list := (places.mem_list_iff h).mpr (by rw [state]; exact on)
  simp only [floorAction]
  split
  next state _ =>
    split
    next => exact .refl law
    next unmuted =>
      exact (attempt_work places h (places.outside_of_closed state)).event law fun j e => by
        rw [e]; exact Bool.not_eq_true _ ▸ unmuted
  next => exact (closeSource_work places h).event law (fun _ => False.elim)
  next state _ =>
    have listed := member _ state rfl
    split
    next => exact expiry_event law listed
    next positive =>
      have held := setHold_event (c := s.params.holdBlocks) law listed fun _ => by omega
      exact held.trans (serviceIf_event _ held.membership)
  next state _ => exact (setFloorState_work places (member _ state rfl) (.inl rfl)).event law (fun _ => False.elim)
  next c state _ =>
    have listed := member _ state rfl
    split
    next => exact expiry_event law listed
    next => exact setHold_event law listed fun holds => by have := holds i c state; omega
  next state _ => exact (setFloorState_work places (member _ state rfl) (.inl rfl)).event law (fun _ => False.elim)
  next => exact .refl law

theorem floorHandover_event (law : MembershipLaw s) (i : SrcSlot) : FloorEvent s (floorHandover i s) := by
  unfold floorHandover
  split
  next h => exact floorAction_event law (Bool.and_eq_true_iff.mp h)
  next => exact .refl law

/-! ### The free order (R71) -/

theorem insertByRank_perm (rank : SrcSlot → Nat) (i : SrcSlot) (l : List SrcSlot) :
    (insertByRank rank i l).Perm (i :: l) := by
  induction l with
  | nil => exact .refl _
  | cons j l ih =>
    unfold insertByRank
    split
    · exact .refl _
    · exact (ih.cons j).trans (.swap i j l)

/-- The free order is some order of the same slots. -/
theorem inFreeOrder_perm (event : Nat) (is : List SrcSlot) : (inFreeOrder event is).Perm is := by
  induction is with
  | nil => exact .refl _
  | cons i is ih => exact (insertByRank_perm _ i _).trans (ih.cons i)

/-! ### Changes of effective mute handed on (R39, R70, R71) -/

/-- A source whose change of mute calls it to the floor: unmuted and VOICED (R71). -/
def Attempts (s : State) (i : SrcSlot) : Prop := s.srcs[i].effMute = false ∧ s.srcs[i].voice = .voiced

/-- What is asked of the sources whose changes are handed on: each once, of the floor, and outside it if it was muted. -/
structure Handed (order : List SrcSlot) (s : State) : Prop where
  once : order.Nodup
  ofFloor : ∀ i ∈ order, OfFloor s i
  outside : ∀ i ∈ order, s.srcs[i].effMute = false → ¬ Inside s i

theorem handToFloor_cases (s : State) (b : Bool) (i : SrcSlot) :
    s.srcs[i].effMute = true ∧ handToFloor (s, b) i = ((removeSource i s).1, b || (removeSource i s).2) ∨
      Attempts s i ∧ handToFloor (s, b) i = (attempt i s, b) ∨
      (s.srcs[i].effMute = false ∧ s.srcs[i].voice = .quiet) ∧ handToFloor (s, b) i = (s, b) := by
  simp only [handToFloor, Attempts]
  cases hm : s.srcs[i].effMute
  · cases hv : s.srcs[i].voice <;> simp
  · simp

theorem attempt_called (i : SrcSlot) (s : State) : Called (attempt i s) i := by
  have opened (e : Option SrcSlot) : Called (admitSource i e s) i := by
    rw [Called, Admission.admitSource_eq, floorState_set .opened (Admission.admitSource_none_srcs i _), if_pos rfl]
    exact .inl rfl
  unfold attempt
  cases h : tryAdmit i s with
  | none =>
    rw [Option.getD_none, Called, floorState_set .pending (joinTail_srcs i s), if_pos rfl]
    exact .inr rfl
  | some t =>
    rw [Option.getD_some]
    obtain ⟨-, ⟨-, rfl⟩ | ⟨-, e, -, rfl⟩⟩ := tryAdmit_cases h
    · exact opened none
    · exact opened (some e)

/-- One change of mute handed on. -/
theorem handToFloor_work (law : PlacesLaw s) (b : Bool) (ofFloor : OfFloor s i)
    (outside : s.srcs[i].effMute = false → ¬ Inside s i) :
    FloorWork (fun j => j = i ∧ Attempts s j) (fun j => j = i ∧ s.srcs[j].effMute = true) s (handToFloor (s, b) i).1 ∧
      (s.srcs[i].effMute = true → ¬ Inside (handToFloor (s, b) i).1 i) ∧
      (Attempts s i → Called (handToFloor (s, b) i).1 i) := by
  obtain ⟨muted, e⟩ | ⟨attempts, e⟩ | ⟨⟨unmuted, quiet⟩, e⟩ := handToFloor_cases s b i <;> rw [e]
  · refine ⟨(removeSource_work law i).mono (fun _ => False.elim) fun j hj => ⟨hj, hj ▸ muted⟩,
      fun _ => removeSource_outside law i, fun attempts => ?_⟩
    exact absurd (attempts.1.symm.trans muted) nofun
  · refine ⟨(attempt_work law ofFloor (outside attempts.1)).mono (fun j e => .inl ⟨e, e ▸ attempts⟩)
      (fun _ => False.elim), fun muted => ?_, fun _ => attempt_called i s⟩
    exact absurd (attempts.1.symm.trans muted) nofun
  · refine ⟨(FloorWork.refl law).widen, fun muted => ?_, fun attempts => ?_⟩
    · exact absurd (unmuted.symm.trans muted) nofun
    · exact absurd (quiet.symm.trans attempts.2) nofun

/-- Changes of mute handed on one after another: the muted are gone, the unmuted and VOICED are called to the floor, and
no other source enters or leaves. -/
theorem handAll_work {order : List SrcSlot} (law : PlacesLaw s) (h : Handed order s) (b : Bool) :
    FloorWork (fun j => j ∈ order ∧ Attempts s j) (fun j => j ∈ order ∧ s.srcs[j].effMute = true) s
        (order.foldl handToFloor (s, b)).1 ∧
      ∀ j ∈ order, (s.srcs[j].effMute = true → ¬ Inside (order.foldl handToFloor (s, b)).1 j) ∧
        (Attempts s j → Called (order.foldl handToFloor (s, b)).1 j) := by
  induction order generalizing s b with
  | nil => exact ⟨(FloorWork.refl law).widen, nofun⟩
  | cons i is ih =>
    obtain ⟨notIn, once⟩ := List.nodup_cons.mp h.once
    obtain ⟨first, gone, called⟩ :=
      handToFloor_work law b (h.ofFloor i List.mem_cons_self) (h.outside i List.mem_cons_self)
    rw [List.foldl_cons]
    generalize handToFloor (s, b) i = a at first gone called ⊢
    obtain ⟨t, c⟩ := a
    dsimp only at first gone called
    have record (j : SrcSlot) := first.frame.srcs j
    have mute (j : SrcSlot) : t.srcs[j].effMute = s.srcs[j].effMute := by rw [record j]
    have attempts (j : SrcSlot) : Attempts t j ↔ Attempts s j := by rw [Attempts, Attempts, record j]
    have ne (j : SrcSlot) (hj : j ∈ is) : j ≠ i := fun e => notIn (e ▸ hj)
    have later : Handed is t := ⟨once,
      fun j hj => by rw [OfFloor, record j]; exact h.ofFloor j (List.mem_cons_of_mem _ hj),
      fun j hj unmuted inside => (first.inside j inside).elim
        (h.outside j (List.mem_cons_of_mem _ hj) (mute j ▸ unmuted)) fun e => ne j hj e.1⟩
    obtain ⟨work, outcome⟩ := ih first.places later c
    simp only [mute, attempts] at work outcome
    refine ⟨?whole, fun j hj => ?each⟩
    case whole =>
      exact (first.mono (fun j hj => .inl ⟨hj.1 ▸ List.mem_cons_self, hj.2⟩)
        fun j hj => ⟨hj.1 ▸ List.mem_cons_self, hj.2⟩).trans
        (work.mono (fun j hj => .inl ⟨List.mem_cons_of_mem _ hj.1, hj.2⟩)
          fun j hj => ⟨List.mem_cons_of_mem _ hj.1, hj.2⟩)
    case each =>
      obtain rfl | hj := List.mem_cons.mp hj
      · exact ⟨fun muted inside => (work.inside j inside).elim (gone muted) fun e => notIn e.1,
          fun a => (work.called j (called a)).resolve_right fun e => notIn e.1⟩
      · exact outcome j hj

end Sys2Proof.Machine
end

section
/-! The laws of the part as one bundle: what a change from one state to another keeps of each. Changes are chained, so a
step's bundle is put together from those of the operations it is made of. -/

namespace Sys2Proof.Machine

variable {s t u : State} {i j : SrcSlot}

/-! ### The laws record by record -/

/-- A source's gain and trim lie in their ranges (R101). -/
def SrcGainOk (x : Source) : Prop := GainUnitLaw x.gain ∧ -120 ≤ x.trim ∧ x.trim ≤ 24

/-- A source's counts are those of MonitorLaw (R24, R29). -/
def MonitorOk (p : Params) (x : Source) : Prop :=
  x.creep < p.creepBlocks ∧ x.twm ≤ 5000 ∧ (x.alert = false → x.twm < 5000) ∧ x.twmRose = false

/-- A source's effective mute and privacy are those of MuteLaw (R17, R38). -/
def MuteOk (s : State) (x : Source) : Prop :=
  (x.inUse = true → x.effMute = deriveMute s.mute x) ∧ (x.inUse = false → x.effMute = false) ∧
    (x.inUse = true → ∀ l e, x.origin = some (.pod l e) → x.privacy = s.pods[l].privacy)

/-- Different sources in use have different origins (R4). -/
def OriginsApart (s : State) : Prop := ∀ i j : SrcSlot, s.srcs[i].inUse = true → s.srcs[j].inUse = true →
  s.srcs[i].origin.isSome = true → s.srcs[i].origin = s.srcs[j].origin → i = j

/-- What a source's record keeps of the laws when it is replaced by another, under floor parameters that may be replaced
too. -/
structure SrcKept (p q : Params) (x y : Source) : Prop where
  level : x.n ≤ x.s ∧ x.s ≤ 1600 → y.n ≤ y.s ∧ y.s ≤ 1600
  gain : SrcGainOk x → SrcGainOk y
  ramp : GainUnitLaw x.gain → GainUnitRampLaw x.gain → GainUnitRampLaw y.gain
  monitor : ParamsLaw p → ParamsLaw q → MonitorOk p x → MonitorOk q y

theorem SrcKept.refl (p : Params) (x : Source) : SrcKept p p x x := ⟨id, id, fun _ => id, fun _ _ => id⟩

/-- The laws of the feed records: gains, ramps, clip counters, and destinations apart (R84, R86, R101). -/
structure FeedsKept (a b : Vector Feed 32) : Prop where
  gain : (∀ f : FeedSlot, GainUnitLaw a[f].gain ∧ GainIndex a[f].master) →
    ∀ f : FeedSlot, GainUnitLaw b[f].gain ∧ GainIndex b[f].master
  ramp : (∀ f : FeedSlot, GainUnitLaw a[f].gain) → (∀ f : FeedSlot, GainUnitRampLaw a[f].gain) →
    ∀ f : FeedSlot, GainUnitRampLaw b[f].gain
  clips : (∀ f : FeedSlot, a[f].clips ≤ 65535) → ∀ f : FeedSlot, b[f].clips ≤ 65535
  apart : (∀ f g : FeedSlot, a[f].inUse = true → a[g].inUse = true → a[f].dest.isSome = true →
      a[f].dest = a[g].dest → f = g) →
    ∀ f g : FeedSlot, b[f].inUse = true → b[g].inUse = true → b[f].dest.isSome = true →
      b[f].dest = b[g].dest → f = g

theorem FeedsKept.refl (a : Vector Feed 32) : FeedsKept a a := ⟨id, fun _ => id, id, id⟩

/-! ### The bundle -/

/-- From `s` to `t` every law is kept that speaks neither of the mutes nor of the floor. -/
structure PlainKept (s t : State) : Prop where
  attention : AttentionLaw s → AttentionLaw t
  level : LevelLaw s → LevelLaw t
  gain : GainLaw s → GainLaw t
  ramp : GainLaw s → RampLaw s → RampLaw t
  monitor : BankLaw s → MonitorLaw s → MonitorLaw t
  binding : BindingLaw s → BindingLaw t
  record : RecordLaw s → RecordLaw t
  bank : BankLaw s → BankLaw t
  xpRamp : BankLaw s → XpRampLaw s → XpRampLaw t
  window : WindowLaw s → WindowLaw t

/-- From `s` to `t` every law of the part but that of the mutes is kept. -/
structure LawsKept (s t : State) : Prop extends PlainKept s t where
  membership : MembershipLaw s → MembershipLaw t
  floor : BankLaw s → FloorLaw s → FloorLaw t
  target : MembershipLaw s → TargetLaw s → TargetLaw t
  hold : MembershipLaw s → HoldLaw s → HoldLaw t

/-- From `s` to `t` every law of the part is kept. -/
structure AllKept (s t : State) : Prop extends LawsKept s t where
  mute : MuteLaw s → MuteLaw t

theorem PlainKept.trans (h : PlainKept s t) (k : PlainKept t u) : PlainKept s u where
  attention l := k.attention (h.attention l)
  level l := k.level (h.level l)
  gain l := k.gain (h.gain l)
  ramp g l := k.ramp (h.gain g) (h.ramp g l)
  monitor b l := k.monitor (h.bank b) (h.monitor b l)
  binding l := k.binding (h.binding l)
  record l := k.record (h.record l)
  bank l := k.bank (h.bank l)
  xpRamp b l := k.xpRamp (h.bank b) (h.xpRamp b l)
  window l := k.window (h.window l)

theorem LawsKept.trans (h : LawsKept s t) (k : LawsKept t u) : LawsKept s u where
  toPlainKept := h.toPlainKept.trans k.toPlainKept
  membership l := k.membership (h.membership l)
  floor b l := k.floor (h.bank b) (h.floor b l)
  target m l := k.target (h.membership m) (h.target m l)
  hold m l := k.hold (h.membership m) (h.hold m l)

theorem AllKept.trans (h : AllKept s t) (k : AllKept t u) : AllKept s u :=
  ⟨h.toLawsKept.trans k.toLawsKept, fun l => k.mute (h.mute l)⟩

theorem AllKept.refl (s : State) : AllKept s s :=
  ⟨⟨⟨id, id, id, fun _ => id, fun _ => id, id, id, id, fun _ => id, id⟩, id, fun _ => id, fun _ => id, fun _ => id⟩, id⟩

/-- A change of which the laws of the floor need only be shown where the floor was lawful at the beginning. -/
theorem AllKept.of_lawful (plain : PlainKept s t) (mute : MuteLaw s → MuteLaw t)
    (lawful : MembershipLaw s → AllKept s t) : AllKept s t where
  toPlainKept := plain
  membership l := (lawful l).membership l
  floor b l := (lawful l.membership).floor b l
  target l := (lawful l).target l
  hold l := (lawful l).hold l
  mute := mute

/-! ### Laws of states that agree on what a law reads -/

theorem MembershipLaw.of_same (law : MembershipLaw s) (list : t.floor.list = s.floor.list)
    (chairs : t.floor.chairs = s.floor.chairs) (delegates : t.floor.delegates = s.floor.delegates)
    (state : ∀ i : SrcSlot, t.srcs[i].state = s.srcs[i].state) (cls : ∀ i : SrcSlot, t.srcs[i].cls = s.srcs[i].cls)
    (floorState : ∀ i : SrcSlot, t.srcs[i].floorState = s.srcs[i].floorState)
    (effMute : ∀ i : SrcSlot, t.srcs[i].effMute = s.srcs[i].effMute) : MembershipLaw t := by
  have isChair (i : SrcSlot) : t.srcs[i].isChair = s.srcs[i].isChair := by rw [Source.isChair, Source.isChair, cls]
  have isDelegate (i : SrcSlot) : t.srcs[i].isDelegate = s.srcs[i].isDelegate := by
    rw [Source.isDelegate, Source.isDelegate, cls]
  have floorClass (i : SrcSlot) : t.srcs[i].floorClass = s.srcs[i].floorClass := by
    rw [Source.floorClass, Source.floorClass, cls]
  have active (i : SrcSlot) : t.srcs[i].isActive = s.srcs[i].isActive := by
    rw [Source.isActive, Source.isActive, state]
  have use (i : SrcSlot) : t.srcs[i].inUse = s.srcs[i].inUse := by rw [Source.inUse, Source.inUse, state]
  refine ⟨?_, ?_, ?_, ?_, ?_, ?_, ?_, ?_, ?_⟩
  all_goals simp only [list, chairs, delegates, floorState, effMute, isChair, isDelegate, floorClass, active, use, state]
  exacts [law.list, law.chairs, law.delegates, law.once, law.unmuted, law.gated, law.ungated, law.retiring, law.free]

theorem xpRampLaw_of_same (banks : t.banks = s.banks) (ramps : t.xpRamps = s.xpRamps) (law : XpRampLaw s) :
    XpRampLaw t := fun f i r hr => by
  rw [ramps] at hr
  obtain ⟨ramping, start, target, differ, duration, done⟩ := law f i r hr
  exact ⟨banks ▸ ramping, banks ▸ start, banks ▸ target, differ, duration, done⟩

theorem params_of_banks (h : t.banks = s.banks) : t.params = s.params := by rw [State.params, State.params, h]

/-- The composed target reads only lifecycle, class, mute, trim and floor state of the record (R102). -/
theorem composeTarget_of_same {x y : Source} (p : Params) (n : Nat) (state : y.state = x.state) (cls : y.cls = x.cls)
    (effMute : y.effMute = x.effMute) (trim : y.trim = x.trim) (floorState : y.floorState = x.floorState) :
    composeTarget p n y = composeTarget p n x := by
  unfold composeTarget nomAttenuation Source.isActive Source.floorClass
  rw [state, cls, effMute, trim, floorState]

/-! ### Calm and quiet changes: no lifecycle, effective mute, floor or floor parameter changes -/

/-- A record in which only the inputs of its mute, the Level Monitor's fields, the received block and the way of the gain
to its target change. -/
structure CalmSrc (p : Params) (x y : Source) : Prop extends SrcKept p p x y where
  frame : y = { x with
    groups := y.groups, userMute := y.userMute, privacy := y.privacy
    s := y.s, n := y.n, creep := y.creep, voice := y.voice, twm := y.twm, twmRose := y.twmRose, alert := y.alert
    inBlock := y.inBlock, gain := y.gain }
  target : y.gain.target = x.gain.target

/-- The inputs of its mute that a record holds are the same (R38). -/
def SameInputs (x y : Source) : Prop := y.groups = x.groups ∧ y.userMute = x.userMute ∧ y.privacy = x.privacy

/-- A calm change of a record that leaves the inputs of its mute. -/
structure QuietSrc (p : Params) (x y : Source) : Prop extends CalmSrc p x y where
  inputs : SameInputs x y

theorem QuietSrc.refl (p : Params) (x : Source) : QuietSrc p x x := ⟨⟨.refl p x, rfl, rfl⟩, rfl, rfl, rfl⟩

/-- A calm change of the state: of the inputs of the mutes, but not yet of the mutes; never of the floor. -/
structure Calm (s t : State) : Prop where
  attention : AttentionLaw s → AttentionLaw t
  srcs : ∀ i : SrcSlot, CalmSrc s.params s.srcs[i] t.srcs[i]
  feeds : FeedsKept s.feeds t.feeds
  floor : { t.floor with block := s.floor.block } = s.floor
  pods : ∀ l : PodLink, PodRecordLaw s.pods[l] → PodRecordLaw t.pods[l]
  ports : ∀ p : FarPort, PortRecordLaw s.ports[p] → PortRecordLaw t.ports[p]
  params : t.params = s.params
  bank : BankLaw s → BankLaw t
  window : WindowLaw s → WindowLaw t
  xpRamp : BankLaw s → XpRampLaw s → XpRampLaw t

/-- A quiet change of the state: a calm one that leaves the inputs of the mutes. -/
structure Quiet (s t : State) : Prop extends Calm s t where
  inputs : ∀ i : SrcSlot, SameInputs s.srcs[i] t.srcs[i]
  mute : t.mute = s.mute
  privacy : ∀ l : PodLink, t.pods[l].privacy = s.pods[l].privacy

/-- A change of records that no law but that of the attention line reads: the control link, the notices, the queue, the
mix block, the block number. -/
structure Aside (s t : State) : Prop where
  attention : AttentionLaw s → AttentionLaw t
  srcs : t.srcs = s.srcs := by rfl
  feeds : t.feeds = s.feeds := by rfl
  mute : t.mute = s.mute := by rfl
  floor : { t.floor with block := s.floor.block } = s.floor := by rfl
  pods : t.pods = s.pods := by rfl
  ports : t.ports = s.ports := by rfl
  banks : t.banks = s.banks := by rfl
  xpRamps : t.xpRamps = s.xpRamps := by rfl

theorem bankLaw_of_same (h : t.banks = s.banks) (law : BankLaw s) : BankLaw t := by rw [BankLaw, h]; exact law

theorem windowLaw_of_same (h : t.banks = s.banks) (law : WindowLaw s) : WindowLaw t := by rw [WindowLaw, h]; exact law

theorem Aside.quiet (h : Aside s t) : Quiet s t where
  attention := h.attention
  srcs i := by rw [h.srcs]; exact (QuietSrc.refl _ _).toCalmSrc
  inputs i := by rw [h.srcs]; exact ⟨rfl, rfl, rfl⟩
  feeds := by rw [h.feeds]; exact .refl _
  mute := h.mute
  floor := h.floor
  pods l := by rw [h.pods]; exact id
  privacy l := by rw [h.pods]
  ports p := by rw [h.ports]; exact id
  params := params_of_banks h.banks
  bank := bankLaw_of_same h.banks
  window := windowLaw_of_same h.banks
  xpRamp _ := xpRampLaw_of_same h.banks h.xpRamps

theorem Quiet.refl (s : State) : Quiet s s := Aside.quiet { attention := id }

namespace Calm

variable (h : Calm s t)
include h

theorem list : t.floor.list = s.floor.list := (congrArg FloorCtl.list h.floor :)
theorem chairs : t.floor.chairs = s.floor.chairs := (congrArg FloorCtl.chairs h.floor :)
theorem delegates : t.floor.delegates = s.floor.delegates := (congrArg FloorCtl.delegates h.floor :)
theorem stamps : t.floor.stamps = s.floor.stamps := (congrArg FloorCtl.stamps h.floor :)

theorem state (i : SrcSlot) : t.srcs[i].state = s.srcs[i].state := by rw [(h.srcs i).frame]
theorem cls (i : SrcSlot) : t.srcs[i].cls = s.srcs[i].cls := by rw [(h.srcs i).frame]
theorem origin (i : SrcSlot) : t.srcs[i].origin = s.srcs[i].origin := by rw [(h.srcs i).frame]
theorem floorState (i : SrcSlot) : t.srcs[i].floorState = s.srcs[i].floorState := by rw [(h.srcs i).frame]
theorem effMute (i : SrcSlot) : t.srcs[i].effMute = s.srcs[i].effMute := by rw [(h.srcs i).frame]
theorem trim (i : SrcSlot) : t.srcs[i].trim = s.srcs[i].trim := by rw [(h.srcs i).frame]
theorem inUse (i : SrcSlot) : t.srcs[i].inUse = s.srcs[i].inUse := by rw [Source.inUse, Source.inUse, h.state]

theorem membership (law : MembershipLaw s) : MembershipLaw t :=
  law.of_same h.list h.chairs h.delegates h.state h.cls h.floorState h.effMute

theorem kept : LawsKept s t where
  attention := h.attention
  level law i := (h.srcs i).level (law i)
  gain law := ⟨fun i => (h.srcs i).gain (law.1 i), h.feeds.gain law.2⟩
  ramp gain law := ⟨fun i => (h.srcs i).ramp (gain.1 i).1 (law.1 i), h.feeds.ramp (fun f => (gain.2 f).1) law.2⟩
  monitor bank law i := by
    rw [h.params]
    exact (h.srcs i).monitor (bank _).1 (bank _).1 (law i)
  binding law := by
    refine ⟨fun i j => ?_, h.feeds.apart law.2⟩
    rw [h.inUse, h.inUse, h.origin, h.origin]
    exact law.1 i j
  record law := ⟨fun l => h.pods l (law.1 l), fun p => h.ports p (law.2.1 p), h.feeds.clips law.2.2⟩
  bank := h.bank
  xpRamp := h.xpRamp
  window := h.window
  membership := h.membership
  floor _ law := ⟨h.membership law.membership, by rw [h.list, h.params]; exact law.size,
    by rw [h.stamps, h.params]; exact law.stamps⟩
  target _ law i := by
    rw [(h.srcs i).target, law i, h.params, h.list]
    exact (composeTarget_of_same _ _ (h.state i) (h.cls i) (h.effMute i) (h.trim i) (h.floorState i)).symm
  hold _ law i c hc := by
    rw [h.floorState] at hc
    rw [h.params]
    exact law i c hc

end Calm

theorem Quiet.kept (h : Quiet s t) : AllKept s t where
  toLawsKept := h.toCalm.kept
  mute law i := by
    obtain ⟨derived, free, mirrored⟩ := law i
    obtain ⟨groups, userMute, privacy⟩ := h.inputs i
    have same : deriveMute t.mute t.srcs[i] = deriveMute s.mute s.srcs[i] := by
      rw [deriveMute, deriveMute, h.mute, groups, userMute, privacy, Source.isDelegate, Source.isDelegate, h.toCalm.cls]
    rw [h.toCalm.inUse, h.toCalm.effMute, same, h.toCalm.origin, privacy]
    refine ⟨derived, free, fun use l e ho => ?_⟩
    rw [h.privacy l]
    exact mirrored use l e ho

/-! ### Quiet changes of one kind of record -/

theorem quiet_srcs {srcs : Vector Source 80} (h : ∀ i : SrcSlot, QuietSrc s.params s.srcs[i] srcs[i]) :
    Quiet s { s with srcs := srcs } :=
  { Quiet.refl s with
    srcs := fun i => (h i).toCalmSrc
    inputs := fun i => (h i).inputs
    xpRamp := fun _ => xpRampLaw_of_same rfl rfl }

theorem quiet_mapSrcs {f : SrcSlot → Source → Source} (h : ∀ i : SrcSlot, QuietSrc s.params s.srcs[i] (f i s.srcs[i])) :
    Quiet s (s.mapSrcs f) :=
  quiet_srcs fun i => by
    change QuietSrc _ _ (s.mapSrcs f).srcs[i]
    rw [State.mapSrcs_at]
    exact h i

theorem quiet_setSrc {x : Source} (h : QuietSrc s.params s.srcs[i] x) : Quiet s (s.setSrc i x) :=
  quiet_srcs fun j => by
    obtain rfl | hj := eq_or_ne j i
    · rw [set_src_same]; exact h
    · rw [set_src_other _ _ hj]; exact .refl _ _

/-- What one feed's record keeps of the laws. -/
structure FeedKept (x y : Feed) : Prop where
  gain : GainUnitLaw x.gain ∧ GainIndex x.master → GainUnitLaw y.gain ∧ GainIndex y.master
  ramp : GainUnitLaw x.gain → GainUnitRampLaw x.gain → GainUnitRampLaw y.gain
  clips : x.clips ≤ 65535 → y.clips ≤ 65535
  bound : y.inUse = true → x.inUse = true ∧ y.dest = x.dest

theorem FeedKept.refl (x : Feed) : FeedKept x x := ⟨id, fun _ => id, id, fun h => ⟨h, rfl⟩⟩

theorem feedsKept_of_each {a b : Vector Feed 32} (h : ∀ f : FeedSlot, FeedKept a[f] b[f]) : FeedsKept a b where
  gain law f := (h f).gain (law f)
  ramp gain law f := (h f).ramp (gain f) (law f)
  clips law f := (h f).clips (law f)
  apart law f g hf hg some same := by
    obtain ⟨hf, ef⟩ := (h f).bound hf
    obtain ⟨hg, eg⟩ := (h g).bound hg
    rw [ef] at some same
    exact law f g hf hg some (same.trans eg)

theorem quiet_feeds {feeds : Vector Feed 32} (h : FeedsKept s.feeds feeds) :
    Quiet s { s with feeds := feeds } :=
  { Quiet.refl s with feeds := h, xpRamp := fun _ => xpRampLaw_of_same rfl rfl }

theorem quiet_setFeed {f : FeedSlot} {x : Feed} (h : FeedKept s.feeds[f] x) : Quiet s (s.setFeed f x) :=
  quiet_feeds (feedsKept_of_each fun g => by
    change FeedKept s.feeds[g] (s.setFeed f x).feeds[g]
    obtain rfl | hg := eq_or_ne g f
    · rw [State.setFeed_same]; exact h
    · rw [State.setFeed_other s x hg]; exact .refl _)

theorem quiet_mapFeeds {g : FeedSlot → Feed → Feed} (h : ∀ f : FeedSlot, FeedKept s.feeds[f] (g f s.feeds[f])) :
    Quiet s (s.mapFeeds g) :=
  quiet_feeds (feedsKept_of_each fun f => by
    change FeedKept s.feeds[f] (s.mapFeeds g).feeds[f]
    rw [State.mapFeeds_at]
    exact h f)

theorem quiet_pods {pods : Vector Pod 16} (h : ∀ l : PodLink, (PodRecordLaw s.pods[l] → PodRecordLaw pods[l]) ∧
    pods[l].privacy = s.pods[l].privacy) : Quiet s { s with pods := pods } :=
  { Quiet.refl s with
    pods := fun l => (h l).1
    privacy := fun l => (h l).2
    xpRamp := fun _ => xpRampLaw_of_same rfl rfl }

theorem quiet_setPod {l : PodLink} {x : Pod} (h : PodRecordLaw s.pods[l] → PodRecordLaw x)
    (privacy : x.privacy = s.pods[l].privacy) : Quiet s (s.setPod l x) :=
  quiet_pods fun m => by
    change (_ → PodRecordLaw (s.setPod l x).pods[m]) ∧ (s.setPod l x).pods[m].privacy = _
    obtain rfl | hm := eq_or_ne m l
    · rw [State.setPod_same]; exact ⟨h, privacy⟩
    · rw [State.setPod_other s x hm]; exact ⟨id, rfl⟩

theorem quiet_ports {ports : Vector Port 8} (h : ∀ p : FarPort, PortRecordLaw s.ports[p] → PortRecordLaw ports[p]) :
    Quiet s { s with ports := ports } :=
  { Quiet.refl s with ports := h, xpRamp := fun _ => xpRampLaw_of_same rfl rfl }

theorem quiet_setPort {p : FarPort} {x : Port} (h : PortRecordLaw s.ports[p] → PortRecordLaw x) :
    Quiet s (s.setPort p x) :=
  quiet_ports fun q => by
    change _ → PortRecordLaw (s.setPort p x).ports[q]
    obtain rfl | hq := eq_or_ne q p
    · rw [State.setPort_same]; exact h
    · rw [State.setPort_other s x hq]; exact id

theorem quiet_addNotice (k : NoticeKind) : Quiet s (s.addNotice k) :=
  Aside.quiet { attention := fun _ => addNotice_attention s k }

theorem quiet_addNoticeIf (c : Bool) (k : NoticeKind) : Quiet s (s.addNoticeIf c k) := by
  cases c
  · exact .refl s
  · exact quiet_addNotice k

/-- A change of the Bank Store alone that leaves the floor parameters in use. -/
theorem quiet_banks {b : BankStore} (params : b.opBank.params = s.params)
    (bank : BankLaw s → BankLaw { s with banks := b }) (window : WindowLaw s → WindowLaw { s with banks := b })
    (xpRamp : XpRampLaw s → XpRampLaw { s with banks := b }) : Quiet s { s with banks := b } :=
  { Quiet.refl s with params := params, bank := bank, window := window, xpRamp := fun _ => xpRamp }

end Sys2Proof.Machine
end

section
/-! What the operations on one record keep: gains and ramps, the Level Monitor's fields, pod link records, far-end port
records, and the banks. -/

namespace Sys2Proof.Machine

variable {s t : State}

/-! ### Gains (R101, R105 to R107) -/

theorem GainIndex.off : GainIndex off := ⟨by decide, by decide⟩

/-- A ramp stays between its ends (R107). -/
theorem rampUsed_mem {a b : Int} {j d : Nat} (ha : GainIndex a) (hb : GainIndex b) (hj : j ≤ d) :
    GainIndex (rampUsed a b j d) := by
  obtain ⟨a_lo, a_hi⟩ := ha
  obtain ⟨b_lo, b_hi⟩ := hb
  obtain up | down := le_total a b
  · have part : (b - a).toNat * j / d ≤ (b - a).toNat :=
      (Nat.div_le_div_right (Nat.mul_le_mul_left _ hj)).trans (Nat.div_le_of_le_mul (Nat.mul_comm d _ ▸ le_rfl))
    rw [RampSteps.rampUsed_up up, GainIndex]
    generalize (b - a).toNat * j / d = part at part
    omega
  · have part : (a - b).toNat * j / d ≤ (a - b).toNat :=
      (Nat.div_le_div_right (Nat.mul_le_mul_left _ hj)).trans (Nat.div_le_of_le_mul (Nat.mul_comm d _ ▸ le_rfl))
    rw [RampSteps.rampUsed_down down, GainIndex]
    generalize (a - b).toNat * j / d = part at part
    omega

theorem rampDuration_mem (n : Nat) : rampDuration n = 1 ∨ rampDuration n = 4 ∨ rampDuration n = 16 := by
  unfold rampDuration
  split
  · exact .inl rfl
  · split
    · exact .inr (.inl rfl)
    · exact .inr (.inr rfl)

namespace GainUnitLaw

variable {g : GainUnit}

theorem free : GainUnitLaw .free := ⟨.off, .off, nofun⟩

theorem rampTo (law : GainUnitLaw g) {b : Int} (hb : GainIndex b) : GainUnitLaw (g.rampTo b) where
  current := law.current
  target := hb
  ramp r hr := by
    cases Option.some.inj hr
    exact ⟨law.current, rampDuration_mem _, Nat.zero_le _⟩

theorem hand (law : GainUnitLaw g) {b : Int} (hb : GainIndex b) : GainUnitLaw (g.hand b) := by
  unfold GainUnit.hand
  split
  · exact law
  · split
    · exact ⟨law.current, hb, nofun⟩
    · exact law.rampTo hb

theorem step (law : GainUnitLaw g) : GainUnitLaw g.step := by
  unfold GainUnit.step
  split
  next r hr =>
    obtain ⟨start, duration, -⟩ := law.ramp r hr
    split
    next more =>
      refine ⟨rampUsed_mem start law.target more, law.target, fun q hq => ?_⟩
      cases Option.some.inj hq
      exact ⟨start, duration, more⟩
    next => exact law
  next => exact law

theorem finish (law : GainUnitLaw g) : GainUnitLaw g.finish := by
  unfold GainUnit.finish
  split
  · split
    · exact ⟨law.current, law.target, nofun⟩
    · exact law
  · exact law

end GainUnitLaw

namespace GainUnitRampLaw

variable {g : GainUnit}

theorem free : GainUnitRampLaw .free := ⟨fun _ => rfl, nofun⟩

theorem rampTo (g : GainUnit) (b : Int) : GainUnitRampLaw (g.rampTo b) where
  rest := nofun
  ramp r hr := by
    cases Option.some.inj hr
    exact (RampSteps.rampUsed_zero _ _ _).symm

theorem hand (law : GainUnitRampLaw g) (b : Int) : GainUnitRampLaw (g.hand b) := by
  unfold GainUnit.hand
  split
  · exact law
  · split
    next same => exact ⟨fun _ => same.symm, nofun⟩
    next => exact rampTo g b

theorem step (law : GainUnitRampLaw g) : GainUnitRampLaw g.step := by
  unfold GainUnit.step
  split
  next r hr =>
    split
    next =>
      refine ⟨nofun, fun q hq => ?_⟩
      cases Option.some.inj hq
      rfl
    next => exact law
  next => exact law

theorem finish (gain : GainUnitLaw g) (law : GainUnitRampLaw g) : GainUnitRampLaw g.finish := by
  unfold GainUnit.finish
  split
  next r hr =>
    obtain ⟨-, duration, done⟩ := gain.ramp r hr
    split
    next ended =>
      have last : r.done = r.duration := le_antisymm done ended
      refine ⟨fun _ => ?_, nofun⟩
      have reached := law.ramp r hr
      rwa [last, RampSteps.rampUsed_last _ _ (by omega)] at reached
    next => exact law
  next => exact law

end GainUnitRampLaw

/-- Target, ramp record and current gain after a step or an end of a ramp keep the target. -/
theorem step_target (g : GainUnit) : g.step.target = g.target := by
  unfold GainUnit.step
  split
  · split <;> rfl
  · rfl

theorem finish_target (g : GainUnit) : g.finish.target = g.target := by
  unfold GainUnit.finish
  split
  · split <;> rfl
  · rfl

theorem quietSrc_gain {p : Params} {x : Source} {g : GainUnit} (target : g.target = x.gain.target)
    (law : GainUnitLaw x.gain → GainUnitLaw g)
    (ramp : GainUnitLaw x.gain → GainUnitRampLaw x.gain → GainUnitRampLaw g) : QuietSrc p x { x with gain := g } :=
  ⟨⟨⟨id, fun h => ⟨law h.1, h.2⟩, ramp, fun _ _ => id⟩, rfl, target⟩, rfl, rfl, rfl⟩

theorem quietSrc_step (p : Params) (x : Source) : QuietSrc p x { x with gain := x.gain.step } :=
  quietSrc_gain (step_target _) (·.step) fun _ => (·.step)

theorem quietSrc_finish (p : Params) (x : Source) : QuietSrc p x { x with gain := x.gain.finish } :=
  quietSrc_gain (finish_target _) (·.finish) fun gain law => law.finish gain

theorem composeTarget_mem (p : Params) (n : Nat) (x : Source) : GainIndex (composeTarget p n x) := by
  unfold composeTarget
  split
  · exact .off
  · exact clampGain_mem _

/-! ### The Level Monitor's fields (R22 to R30) -/

theorem levelOfSum_le (n : Nat) : levelOfSum n ≤ 200 :=
  (List.length_filter_le _ _).trans (by rw [List.length_range])

theorem moveLevel_le {p : Params} {level n : Nat} (hl : level ≤ 200) (hn : n ≤ 1600) : moveLevel p level n ≤ 1600 := by
  have attack := Nat.div_le_self (8 * level - n) (2 ^ p.attackShift)
  unfold moveLevel
  dsimp only
  split
  · omega
  · split <;> omega

/-- N after a measurement's move of S and N lies between 0 and S (R23). -/
theorem moveNoise_n_le (p : Params) (x : Source) : (moveNoise p x).n ≤ x.s := by
  unfold moveNoise
  split
  · exact le_rfl
  next low =>
    split
    next quiet =>
      simp only [Bool.and_eq_true, decide_eq_true_eq] at quiet
      unfold creepRise
      split
      · exact quiet.2
      · exact quiet.2.le
    · omega

theorem creepRise_frame (p : Params) (x : Source) :
    creepRise p x = { x with n := (creepRise p x).n, creep := (creepRise p x).creep } := by
  unfold creepRise
  split <;> rfl

theorem moveNoise_frame (p : Params) (x : Source) :
    moveNoise p x = { x with n := (moveNoise p x).n, creep := (moveNoise p x).creep } := by
  unfold moveNoise
  split
  · rfl
  · split
    · rw [creepRise_frame]
    · rfl

theorem creepRise_creep {p : Params} {x : Source} (h : 1 ≤ p.creepBlocks) : (creepRise p x).creep < p.creepBlocks := by
  unfold creepRise
  split
  · exact h
  · omega

theorem moveNoise_creep {p : Params} {x : Source} (h : 1 ≤ p.creepBlocks) (hx : x.creep < p.creepBlocks) :
    (moveNoise p x).creep < p.creepBlocks := by
  unfold moveNoise
  split
  · exact h
  · split
    · exact creepRise_creep h
    · exact hx

theorem moveTwm_frame (p : Params) (old : VoiceState) (x : Source) : moveTwm p old x = { x with
    twm := (moveTwm p old x).twm, alert := (moveTwm p old x).alert, twmRose := (moveTwm p old x).twmRose } := by
  obtain ⟨-, -, h⟩ | ⟨-, h⟩ | ⟨-, -, h⟩ := moveTwm_cases p old x <;> rw [h]

/-- The talk-while-muted fields stay in their range (R29). -/
theorem moveTwm_ok {p : Params} {old : VoiceState} {x : Source} (hp : p.twmBlocks ≤ 5000)
    (h : x.twm ≤ 5000 ∧ (x.alert = false → x.twm < 5000) ∧ x.twmRose = false) :
    (moveTwm p old x).twm ≤ 5000 ∧ ((moveTwm p old x).alert = false → (moveTwm p old x).twm < 5000) ∧
      (moveTwm p old x).twmRose = false := by
  obtain ⟨-, -, e⟩ | ⟨⟨-, -, -, silent⟩, e⟩ | ⟨-, -, e⟩ := moveTwm_cases p old x <;> rw [e]
  · exact ⟨Nat.zero_le _, fun _ => Nat.zero_lt_succ _, h.2.2⟩
  · have below := h.2.1 silent
    refine ⟨below, fun quiet => ?_, rfl⟩
    exact lt_of_lt_of_le (not_le.mp (of_decide_eq_false quiet)) hp
  · exact h

theorem measureLevel_frame (p : Params) (level : Nat) (x : Source) : measureLevel p level x = { x with
    s := (measureLevel p level x).s, n := (measureLevel p level x).n, creep := (measureLevel p level x).creep
    voice := (measureLevel p level x).voice, twm := (measureLevel p level x).twm
    alert := (measureLevel p level x).alert, twmRose := (measureLevel p level x).twmRose } := by
  unfold measureLevel
  dsimp only
  rw [moveTwm_frame, moveNoise_frame]

/-- A measurement's level part, the received block taken, is quiet (R19). -/
theorem measureLevel_quiet {p : Params} {level : Nat} (hl : level ≤ 200) (x : Source) (b : Option Block) :
    QuietSrc p x { measureLevel p level x with inBlock := b } := by
  have s_eq : (measureLevel p level x).s = moveLevel p level x.s := by
    unfold measureLevel
    dsimp only
    rw [moveTwm_frame, moveNoise_frame]
  have n_le : (measureLevel p level x).n ≤ moveLevel p level x.s := by
    unfold measureLevel
    dsimp only
    rw [moveTwm_frame]
    exact moveNoise_n_le p { x with s := moveLevel p level x.s }
  refine ⟨⟨⟨fun h => ?level, fun h => ?gain, fun gain law => ?ramp, fun hp _ h => ?monitor⟩, ?frame, ?target⟩, ?inputs⟩
  case level =>
    change (measureLevel p level x).n ≤ (measureLevel p level x).s ∧ (measureLevel p level x).s ≤ 1600
    rw [s_eq]
    exact ⟨n_le, moveLevel_le hl h.2⟩
  case gain => rw [measureLevel_frame]; exact h
  case ramp => rw [measureLevel_frame]; exact law
  case monitor =>
    obtain ⟨creep, counts⟩ := h
    have moved := moveNoise_frame p { x with s := moveLevel p level x.s }
    unfold MonitorOk measureLevel
    refine ⟨?_, moveTwm_ok hp.twmBlocks.2 ?_⟩
    · rw [moveTwm_frame]
      exact moveNoise_creep (x := { x with s := moveLevel p level x.s }) hp.creepBlocks.1 creep
    · rw [moved]; exact counts
  case frame => rw [measureLevel_frame]
  case target => rw [measureLevel_frame]
  case inputs => rw [measureLevel_frame]; exact ⟨rfl, rfl, rfl⟩

theorem creepRise_quiet {p : Params} {x : Source} (h : x.n < x.s) : QuietSrc p x (creepRise p x) := by
  have frame := creepRise_frame p x
  refine ⟨⟨⟨fun law => ?level, fun law => ?gain, fun _ law => ?ramp, fun hp _ law => ?monitor⟩, ?frame, ?target⟩, ?inputs⟩
  case level =>
    unfold creepRise
    split
    · exact ⟨h, law.2⟩
    · exact law
  case gain => rw [frame]; exact law
  case ramp => rw [frame]; exact law
  case monitor =>
    obtain ⟨-, counts⟩ := law
    refine ⟨creepRise_creep hp.creepBlocks.1, ?_⟩
    rw [frame]
    exact counts
  case frame => rw [frame]
  case target => rw [frame]
  case inputs => rw [frame]; exact ⟨rfl, rfl, rfl⟩

theorem judgeRise_quiet (p : Params) (x : Source) : QuietSrc p x (judgeRise p x) :=
  ⟨⟨⟨id, id, fun _ => id, fun _ _ ⟨creep, twm, below, _⟩ =>
    ⟨creep, twm, fun h => below (Bool.or_eq_false_iff.mp h).1, rfl⟩⟩, rfl, rfl⟩, rfl, rfl, rfl⟩

theorem resetLevel_quiet (p : Params) (x : Source) : QuietSrc p x (resetLevel x) :=
  ⟨⟨⟨fun _ => ⟨le_rfl, Nat.zero_le _⟩, id, fun _ => id, fun _ hp h =>
    ⟨hp.creepBlocks.1, Nat.zero_le _, fun _ => Nat.zero_lt_succ _, h.2.2.2⟩⟩, rfl, rfl⟩, rfl, rfl, rfl⟩

/-! ### Pod link records (R147) -/

theorem raise_le (c k : Nat) : raise c k ≤ 65535 := Nat.min_le_left _ _

theorem count_of_good {h : PodHeader} (good : h.good = true) : 1 ≤ h.count ∧ h.count ≤ 4 := by
  simp only [PodHeader.good, Bool.and_eq_true, decide_eq_true_eq] at good
  exact ⟨good.1.2, good.2⟩

/-! ### Far-end port records (R169 to R177) -/

theorem arrive_law {p : Port} (law : PortRecordLaw p) (b : Block) : PortRecordLaw (p.arrive b).1 := by
  obtain ⟨input, output, priming, down, up, counters⟩ := law
  unfold Port.arrive
  split
  next => exact ⟨input, output, priming, down, up, counters⟩
  next state =>
    have short := priming state
    split
    next empty => exact ⟨by simp [empty], output, fun _ => by simp [empty], by simp [state], by simpa [state] using up, counters⟩
    next => exact ⟨by simp; omega, output, nofun, nofun, fun _ => up (by simp [state]), counters⟩
  next state =>
    split
    next room => exact ⟨by simp; omega, output, by simp [state], by simp [state], by simpa [state] using up, counters⟩
    next => exact ⟨by simp; omega, output, by simp [state], by simp [state], by simpa [state] using up,
      raise_le _ _, counters.2⟩

theorem take_law {p : Port} (law : PortRecordLaw p) : PortRecordLaw p.take.1 := by
  obtain ⟨input, output, priming, down, up, counters⟩ := law
  unfold Port.take
  split
  next primed =>
    have running : p.state ≠ .down := fun h => by simp [(down h).2.2.1] at primed
    split
    next b rest held =>
      rw [held, List.length_cons] at output
      exact ⟨input, by simp; omega, priming, fun h => absurd h running, up, counters⟩
    next => exact ⟨input, output, priming, fun h => absurd h running, up, counters.1, counters.2.1, counters.2.2.1,
      raise_le _ _, counters.2.2.2.2⟩
  next => exact ⟨input, output, priming, down, up, counters⟩

theorem pulse_law {p : Port} (law : PortRecordLaw p) (x : Sample) : PortRecordLaw (p.pulse x).1 := by
  have assembled (q : Port) (h : PortRecordLaw q) (asm : Block) (fill : Fin 96) (out : Sample) :
      PortRecordLaw { q with seen := true, codecOut := out, asm := asm, fill := fill } :=
    ⟨h.input, h.output, h.priming, h.down, h.up, h.counters⟩
  unfold Port.pulse
  dsimp only
  split
  · exact assembled p law _ _ _
  · exact take_law (arrive_law (assembled p law _ _ _) _)

theorem clockReturn_law {p : Port} (law : PortRecordLaw p) (x : Sample) : PortRecordLaw (p.clockReturn x) :=
  ⟨Nat.zero_le _, Nat.zero_le _, fun _ => Nat.zero_le _, nofun, fun _ => Nat.zero_lt_succ _, law.counters⟩

/-- The judgement of an idle count that has been raised at most once (R171). -/
theorem judgeIdle_law {p : Port} {n : Nat} (law : PortRecordLaw p) (up : p.state ≠ .down) (hn : n ≤ 8) :
    PortRecordLaw ({ p with idle := n }).judgeIdle.1 := by
  unfold Port.judgeIdle
  split
  next full =>
    have eight : n = 8 := le_antisymm hn full.2
    exact ⟨Nat.zero_le _, Nat.zero_le _, nofun, fun _ => ⟨rfl, rfl, rfl, eight⟩, fun h => absurd rfl h,
      law.counters.1, law.counters.2.1, law.counters.2.2.1, law.counters.2.2.2.1, raise_le _ _⟩
  next below =>
    have : n < 8 := by
      by_contra h
      exact below ⟨up, Nat.not_lt.mp h⟩
    exact ⟨law.input, law.output, law.priming, fun h => absurd h up, fun _ => this, law.counters⟩

theorem watch_law {p : Port} (law : PortRecordLaw p) : PortRecordLaw p.watch.1 := by
  unfold Port.watch
  split
  next => exact law
  next running =>
    split
    next => exact ⟨law.input, law.output, law.priming, fun h => absurd h running, fun _ => Nat.zero_lt_succ _,
      law.counters⟩
    next => exact judgeIdle_law law running (law.up running)

theorem deliver_law {p : Port} (law : PortRecordLaw p) : PortRecordLaw p.deliver.1 := by
  obtain ⟨input, output, priming, down, up, counters⟩ := law
  unfold Port.deliver
  split
  next state held =>
    rw [held, List.length_cons] at input
    exact ⟨by simp; omega, output, by simp [state], by simp [state], by simpa [state] using up, counters⟩
  next state empty => exact ⟨input, output, fun _ => by simp [empty], nofun, fun _ => up (by simp [state]), counters.1,
      raise_le _ _, counters.2.2⟩
  next => exact ⟨input, output, priming, down, up, counters⟩

theorem write_law {p : Port} (law : PortRecordLaw p) (b : Block) : PortRecordLaw (p.write b).1 := by
  obtain ⟨input, output, priming, down, up, counters⟩ := law
  unfold Port.write
  split
  next => exact ⟨input, output, priming, down, up, counters⟩
  next running =>
    split
    next room => exact ⟨input, by simp; omega, priming, fun h => absurd h running, up, counters⟩
    next => exact ⟨input, by simp; omega, priming, fun h => absurd h running, up, counters.1, counters.2.1,
      raise_le _ _, counters.2.2.2⟩

theorem portReset_law {p : Port} (law : PortRecordLaw p) : PortRecordLaw p.engineReset := by
  have zero := Nat.zero_le 65535
  refine ⟨Nat.zero_le _, Nat.zero_le _, fun _ => Nat.zero_le _, fun h => ⟨rfl, rfl, rfl, ?_⟩, fun h => law.up fun d => ?_,
    zero, zero, zero, zero, zero⟩
  · refine (law.down ?_).2.2.2
    by_contra running
    simp [Port.engineReset, running] at h
  · simp [Port.engineReset, d] at h

theorem podReset_law {p : Pod} (law : PodRecordLaw p) : PodRecordLaw p.engineReset :=
  ⟨law.goodRun, law.badRun, law.depth, law.elements, law.presync, fun _ => rfl, Nat.zero_le _, Nat.zero_le _,
    Nat.zero_le _⟩

/-! ### The banks (R122 to R125, R143) -/

theorem clampNat_mem {lo hi : Nat} (h : lo ≤ hi) (v : Int) : lo ≤ clampNat lo hi v ∧ clampNat lo hi v ≤ hi := by
  unfold clampNat clampInt
  omega

theorem writeParam_law {p : Params} (law : ParamsLaw p) (id : ParamId) (v : Int) : ParamsLaw (writeParam p id v) := by
  cases id with
  | maxOpen => exact { law with maxOpen := clampNat_mem (by decide) v }
  | holdBlocks => exact { law with holdBlocks := (clampNat_mem (by decide) v).2 }
  | lastMic => exact { law with }
  | nomOn => exact { law with }
  | margin => exact { law with margin := (clampNat_mem (by decide) v).2, hysteresis := Nat.min_le_right _ _ }
  | hysteresis => exact { law with hysteresis := (clampNat_mem (Nat.zero_le _) v).2 }
  | voiceFloor => exact { law with voiceFloor := (clampNat_mem (by decide) v).2 }
  | closedAtten => exact { law with closedAtten := (clampNat_mem (by decide) v).2 }
  | admitBurst => exact { law with admitBurst := clampNat_mem (by decide) v }
  | admitWindow => exact { law with admitWindow := clampNat_mem (by decide) v }
  | twmBlocks => exact { law with twmBlocks := clampNat_mem (by decide) v }
  | attackShift => exact { law with attackShift := (clampNat_mem (by decide) v).2 }
  | releaseShift => exact { law with releaseShift := clampNat_mem (by decide) v }
  | creepBlocks => exact { law with creepBlocks := clampNat_mem (by decide) v }

theorem writeParams_law (ps : List (ParamId × Int)) {p : Params} (law : ParamsLaw p) : ParamsLaw (writeParams p ps) := by
  induction ps generalizing p with
  | nil => exact law
  | cons a ps ih => exact ih (writeParam_law law a.1 a.2)

/-- A bank's parameters and crosspoints are legal. -/
def BankOk (b : Bank) : Prop := ParamsLaw b.params ∧ ∀ (f : FeedSlot) (i : SrcSlot), GainIndex b.xp[f][i]

theorem bankLaw_setEdit (law : BankLaw s) {x : Bank} (h : BankOk x) :
    BankLaw { s with banks := s.banks.setEdit x } := fun n => by
  change BankOk ((s.banks.setEdit x).bank n)
  by_cases hn : n = s.banks.operating
  · rw [hn, setEdit_bank_operating]
    exact law _
  · obtain rfl : n = otherBank s.banks.operating := by revert hn; cases n <;> cases s.banks.operating <;> simp [otherBank]
    rw [setEdit_bank_edit]
    exact h

theorem matrix_put_at {α : Type} (m : Matrix α) (f g : FeedSlot) (i j : SrcSlot) (x : α) :
    (m.put f i x)[g][j] = if g = f ∧ j = i then x else m[g][j] := by
  unfold Matrix.put
  by_cases hg : g = f
  · subst hg
    by_cases hj : j = i
    · subst hj; simp
    · have : i.val ≠ j.val := fun e => hj (Fin.ext e.symm)
      simp [this, hj]
  · have : f.val ≠ g.val := fun e => hg (Fin.ext e.symm)
    simp [this, hg]

theorem matrix_ofFn_at {α : Type} (g : FeedSlot → SrcSlot → α) (f : FeedSlot) (i : SrcSlot) :
    (Matrix.ofFn g)[f][i] = g f i := by
  simp [Matrix.ofFn]

/-- Every value the walk writes is a gain index. -/
theorem writeSteps_mem (walk : List (FeedSlot × SrcSlot)) (ws : List Word) {a : Matrix Int × Nat}
    (h : ∀ (f : FeedSlot) (i : SrcSlot), GainIndex a.1[f][i]) (f : FeedSlot) (i : SrcSlot) :
    GainIndex (ws.foldl (writeStep walk) a).1[f][i] := by
  induction ws generalizing a with
  | nil => exact h f i
  | cons w ws ih =>
    refine ih fun g j => ?_
    unfold writeStep
    dsimp only
    split
    · rw [matrix_put_at]
      split
      · exact clampGain_mem _
      · exact h g j
    · exact h g j

/-- A cursor that has stepped stands within the walk (R139). -/
theorem writeSteps_cursor {walk : List (FeedSlot × SrcSlot)} (ws : List Word) {a : Matrix Int × Nat}
    (h : a.2 < walk.length) : (ws.foldl (writeStep walk) a).2 < walk.length := by
  induction ws generalizing a with
  | nil => exact h
  | cons w ws ih => exact ih (Nat.mod_lt _ (by omega))

end Sys2Proof.Machine
end

section
/-! What the events that move sources and floor keep of the laws: the end of an event, a record that comes to stand outside
the floor, the mutes derived again, the swap effect and the resets. -/

namespace Sys2Proof.Machine

variable {s t u : State} {i j : SrcSlot}

/-! ### Changes of sources and floor -/

/-- A change of sources, floor and notices that keeps what the laws say of the sources. -/
structure SrcFields (s t : State) : Prop where
  rest : { t with srcs := s.srcs, floor := s.floor, notice := s.notice, freeCount := s.freeCount } = s
  attention : AttentionLaw s → AttentionLaw t
  kept : ∀ i : SrcSlot, SrcKept s.params s.params s.srcs[i] t.srcs[i]
  apart : OriginsApart s → OriginsApart t

/-- A change of sources, floor and notices that keeps what the laws say of the sources and of the floor. -/
structure SrcChange (s t : State) : Prop extends SrcFields s t where
  membership : MembershipLaw s → MembershipLaw t
  size : MembershipLaw s → s.floor.list.length ≤ s.params.maxOpen → t.floor.list.length ≤ s.params.maxOpen
  stamps : MembershipLaw s → 1 ≤ s.params.admitBurst → s.floor.stamps.length ≤ s.params.admitBurst →
    t.floor.stamps.length ≤ s.params.admitBurst
  target : MembershipLaw s → TargetLaw s → TargetLaw t
  hold : MembershipLaw s → HoldLaw s → HoldLaw t

namespace SrcFields

variable (h : SrcFields s t)
include h

theorem feeds : t.feeds = s.feeds := (congrArg State.feeds h.rest :)
theorem pods : t.pods = s.pods := (congrArg State.pods h.rest :)
theorem ports : t.ports = s.ports := (congrArg State.ports h.rest :)
theorem banks : t.banks = s.banks := (congrArg State.banks h.rest :)
theorem xpRamps : t.xpRamps = s.xpRamps := (congrArg State.xpRamps h.rest :)
theorem muteUnit : t.mute = s.mute := (congrArg State.mute h.rest :)

theorem plain : PlainKept s t where
  attention := h.attention
  level law i := (h.kept i).level (law i)
  gain law := ⟨fun i => (h.kept i).gain (law.1 i), by rw [h.feeds]; exact law.2⟩
  ramp gain law := ⟨fun i => (h.kept i).ramp (gain.1 i).1 (law.1 i), by rw [h.feeds]; exact law.2⟩
  monitor bank law i := by
    rw [params_of_banks h.banks]
    exact (h.kept i).monitor (bank _).1 (bank _).1 (law i)
  binding law := ⟨h.apart law.1, by rw [h.feeds]; exact law.2⟩
  record law := by rw [RecordLaw, h.pods, h.ports, h.feeds]; exact law
  bank := bankLaw_of_same h.banks
  xpRamp _ := xpRampLaw_of_same h.banks h.xpRamps
  window := windowLaw_of_same h.banks

/-- When each record's mute is kept, the law of the mutes is. -/
theorem muteLaw (mute : ∀ i : SrcSlot, MuteOk s s.srcs[i] → MuteOk s t.srcs[i]) (law : MuteLaw s) : MuteLaw t := fun i => by
  have ok := mute i (law i)
  rw [MuteOk, ← h.muteUnit, ← h.pods] at ok
  exact ok

end SrcFields

theorem SrcChange.laws (h : SrcChange s t) : LawsKept s t where
  toPlainKept := h.plain
  membership := h.membership
  floor bank law := ⟨h.membership law.membership,
    by rw [params_of_banks h.banks]; exact h.size law.membership law.size,
    by rw [params_of_banks h.banks]; exact h.stamps law.membership (bank _).1.admitBurst.1 law.stamps⟩
  target := h.target
  hold := h.hold

/-- When each record's mute is kept, all laws are. -/
theorem SrcChange.all (h : SrcChange s t) (mute : ∀ i : SrcSlot, MuteOk s s.srcs[i] → MuteOk s t.srcs[i]) :
    AllKept s t := ⟨h.laws, h.muteLaw mute⟩

theorem inUse_of_state {x y : Source} (h : y.state = x.state) : y.inUse = x.inUse := by
  rw [Source.inUse, Source.inUse, h]

theorem setSrc_at (s : State) (i j : SrcSlot) (y : Source) :
    (s.setSrc i y).srcs[j] = if j = i then y else s.srcs[j] := by
  split
  next h => rw [h, State.setSrc_same]
  next h => exact State.setSrc_other s y h

/-! ### The composed target (R102) -/

theorem composeTarget_inactive {p : Params} {n : Nat} {x : Source} (h : x.isActive = false) :
    composeTarget p n x = off := by rw [composeTarget, h, Bool.not_false, Bool.or_true, if_pos rfl]

/-- The target of a source of a floor class hangs on the NOM count and on its gate, that of another on neither. -/
theorem composeTarget_congr {p : Params} {n m : Nat} {x y : Source} (state : y.state = x.state) (cls : y.cls = x.cls)
    (effMute : y.effMute = x.effMute) (trim : y.trim = x.trim)
    (gate : gateOpen y.floorState = gateOpen x.floorState) (count : x.floorClass = true → m = n) :
    composeTarget p m y = composeTarget p n x := by
  have floorClass : y.floorClass = x.floorClass := by rw [Source.floorClass, Source.floorClass, cls]
  have nom_eq : nomAttenuation p m y = nomAttenuation p n x := by
    unfold nomAttenuation
    rw [floorClass]
    cases h : x.floorClass
    · rfl
    · rw [count h]
  unfold composeTarget gateAttenuation Source.isActive
  rw [nom_eq, state, effMute, trim, gate]

/-- The parameters matter to the target of no source outside the floor classes. -/
theorem composeTarget_ungated {p q : Params} {n m : Nat} {x y : Source} (state : y.state = x.state)
    (cls : y.cls = x.cls) (effMute : y.effMute = x.effMute) (trim : y.trim = x.trim)
    (other : x.floorClass = false) (gx : gateOpen x.floorState = true) (gy : gateOpen y.floorState = true) :
    composeTarget q m y = composeTarget p n x := by
  have otherY : y.floorClass = false := by rw [Source.floorClass, cls]; exact other
  have nom_zero (p : Params) (n : Nat) (x : Source) (h : x.floorClass = false) : nomAttenuation p n x = 0 := by
    rw [nomAttenuation, h, Bool.false_and, if_neg Bool.false_ne_true]
  unfold composeTarget gateAttenuation Source.isActive
  rw [nom_zero _ _ _ other, nom_zero _ _ _ otherY, gx, gy, state, effMute, trim, if_pos rfl, if_pos rfl]

/-! ### The end of an event (R76, R103) -/

/-- What stands between the beginning `s` of an event and its end: the records as the event has left them, their gains
untouched, and the floor. -/
structure Handled (s u : State) : Prop where
  rest : { u with srcs := s.srcs, floor := s.floor, notice := s.notice, freeCount := s.freeCount } = s
  attention : AttentionLaw s → AttentionLaw u
  frame : ∀ i : SrcSlot, u.srcs[i] = { s.srcs[i] with
    s := u.srcs[i].s, n := u.srcs[i].n, creep := u.srcs[i].creep, voice := u.srcs[i].voice, twm := u.srcs[i].twm
    twmRose := u.srcs[i].twmRose, alert := u.srcs[i].alert, inBlock := u.srcs[i].inBlock
    effMute := u.srcs[i].effMute, floorState := u.srcs[i].floorState }
  kept : ∀ i : SrcSlot, SrcKept s.params s.params s.srcs[i] u.srcs[i]
  membership : MembershipLaw s → MembershipLaw u
  size : MembershipLaw s → s.floor.list.length ≤ s.params.maxOpen → u.floor.list.length ≤ s.params.maxOpen
  stamps : MembershipLaw s → 1 ≤ s.params.admitBurst → s.floor.stamps.length ≤ s.params.admitBurst →
    u.floor.stamps.length ≤ s.params.admitBurst
  hold : MembershipLaw s → HoldLaw s → HoldLaw u

theorem noteFloor_attention (s : State) {u : State} (law : AttentionLaw u) : AttentionLaw (noteFloor s u) :=
  addNoticeIf_attention law _ _

theorem finishEvent_attention (s : State) {u : State} (law : AttentionLaw u) : AttentionLaw (finishEvent s u) := by
  have noted := noteFloor_attention s law
  rw [AttentionLaw, finishEvent_notice]
  exact noted

/-- One state's fields laid over another's, where the other differs in sources and notices alone. -/
theorem overlay_rest {v : State} (h : { v with srcs := u.srcs, notice := u.notice } = u)
    (rest : { u with srcs := s.srcs, floor := s.floor, notice := s.notice, freeCount := s.freeCount } = s) :
    { v with srcs := s.srcs, floor := s.floor, notice := s.notice, freeCount := s.freeCount } = s := by
  rw [← h] at rest
  exact rest

theorem srcKept_retarget (s : State) (p : Params) (x : Source) : SrcKept p p x (retarget s x) :=
  ⟨id, fun h => ⟨h.1.hand (composeTarget_mem _ _ _), h.2⟩, fun _ law => law.hand _, fun _ _ => id⟩

theorem SrcKept.trans {p : Params} {x y z : Source} (h : SrcKept p p x y) (k : SrcKept p p y z)
    (gain : GainUnitLaw x.gain → GainUnitLaw y.gain) : SrcKept p p x z :=
  ⟨fun l => k.level (h.level l), fun l => k.gain (h.gain l), fun g l => k.ramp (gain g) (h.ramp g l),
    fun hp hq l => k.monitor hp hq (h.monitor hp hq l)⟩

theorem finishEvent_membership (s : State) (law : MembershipLaw u) : MembershipLaw (finishEvent s u) :=
  law.of_same (by rw [finishEvent_floor]) (by rw [finishEvent_floor]) (by rw [finishEvent_floor])
    (fun i => by rw [finishEvent_src_frame]) (fun i => by rw [finishEvent_src_frame])
    (fun i => by rw [finishEvent_src_frame]) (fun i => by rw [finishEvent_src_frame])

theorem MembershipLaw.ungated_gate (law : MembershipLaw s) (active : s.srcs[i].isActive = true)
    (other : s.srcs[i].floorClass = false) : gateOpen s.srcs[i].floorState = true := by
  rw [law.ungated i (inUse_of_isActive active) other]; rfl

/-- What is the same of an ACTIVE source that an event does not hand on (R76). -/
theorem unchanged_of_not_handsOn (still : ¬ HandsOn s u i) (active : u.srcs[i].state = .active) :
    u.srcs[i].effMute = s.srcs[i].effMute ∧ (u.srcs[i].floorClass = true →
      u.floor.list.length = s.floor.list.length ∧ (gateShut u.srcs[i] ↔ gateShut s.srcs[i])) :=
  ⟨by_contra fun h => still ⟨active, .inl h⟩, fun bound =>
    ⟨by_contra fun h => still ⟨active, .inr ⟨bound, .inl h⟩⟩, by_contra fun h => still ⟨active, .inr ⟨bound, .inr h⟩⟩⟩⟩

/-- The targets follow the records and the floor at the end of an event (R103). -/
theorem finishEvent_target (state : ∀ i : SrcSlot, u.srcs[i].state = s.srcs[i].state)
    (cls : ∀ i : SrcSlot, u.srcs[i].cls = s.srcs[i].cls) (trim : ∀ i : SrcSlot, u.srcs[i].trim = s.srcs[i].trim)
    (gain : ∀ i : SrcSlot, u.srcs[i].gain = s.srcs[i].gain) (params : u.params = s.params)
    (before : MembershipLaw s) (after : MembershipLaw u) (law : TargetLaw s) : TargetLaw (finishEvent s u) := fun i => by
  have read : composeTarget (finishEvent s u).params (finishEvent s u).floor.list.length (finishEvent s u).srcs[i]
      = composeTarget u.params u.floor.list.length u.srcs[i] := by
    rw [finishEvent_params, finishEvent_floor]
    apply composeTarget_of_same <;> rw [finishEvent_src_frame]
  rw [read, finishEvent_src]
  split
  next => exact GainUnit.hand_target _ _
  next still =>
    rw [handedOn_iff] at still
    rw [gain, law i, params]
    by_cases active : u.srcs[i].state = .active
    case neg =>
      have inactive (x : Source) (h : x.state ≠ .active) : x.isActive = false := beq_eq_false_iff_ne.mpr h
      rw [composeTarget_inactive (inactive _ active), composeTarget_inactive (inactive _ (state i ▸ active))]
    case pos =>
      obtain ⟨mute, floorBound⟩ := unchanged_of_not_handsOn still active
      have classes : u.srcs[i].floorClass = s.srcs[i].floorClass := by
        rw [Source.floorClass, Source.floorClass, cls]
      have isActive := isActive_iff.mpr active
      have isActive' := isActive_iff.mpr (state i ▸ active)
      symm
      refine composeTarget_congr (state i) (cls i) mute (trim i) ?_ fun h => (floorBound (classes.trans h)).1
      cases bound : u.srcs[i].floorClass with
      | false => rw [after.ungated_gate isActive bound, before.ungated_gate isActive' (classes.symm.trans bound)]
      | true =>
        have shut := (floorBound bound).2
        rw [gateShut_iff, gateShut_iff] at shut
        cases hu : gateOpen u.srcs[i].floorState <;> cases hs : gateOpen s.srcs[i].floorState <;> simp_all

namespace Handled

theorem params (h : Handled s u) : u.params = s.params := params_of_banks (congrArg State.banks h.rest :)

theorem change (h : Handled s u) : SrcChange s (finishEvent s u) where
  rest := overlay_rest (finishEvent_rest s u) h.rest
  attention law := finishEvent_attention s (h.attention law)
  kept i := by
    rw [finishEvent_src]
    split
    · exact (h.kept i).trans (srcKept_retarget u _ _) (by rw [h.frame i]; exact id)
    · exact h.kept i
  apart law i j := by
    have use (i : SrcSlot) : (finishEvent s u).srcs[i].inUse = s.srcs[i].inUse :=
      inUse_of_state (by rw [finishEvent_src_frame, h.frame i])
    have origin (i : SrcSlot) : (finishEvent s u).srcs[i].origin = s.srcs[i].origin := by
      rw [finishEvent_src_frame, h.frame i]
    rw [use, use, origin, origin]
    exact law i j
  membership law := finishEvent_membership s (h.membership law)
  size law := by rw [finishEvent_floor]; exact h.size law
  stamps law := by rw [finishEvent_floor]; exact h.stamps law
  target before law :=
    finishEvent_target (fun i => by rw [h.frame i]) (fun i => by rw [h.frame i]) (fun i => by rw [h.frame i])
      (fun i => by rw [h.frame i]) h.params before (h.membership before) law
  hold before law i c hc := by
    rw [finishEvent_src_frame] at hc
    rw [finishEvent_params]
    exact h.hold before law i c hc

/-- At the end of an event that changes no effective mute all laws are kept. -/
theorem all (h : Handled s u) (mute : ∀ i : SrcSlot, u.srcs[i].effMute = s.srcs[i].effMute) :
    AllKept s (finishEvent s u) :=
  h.change.all fun i ok => by
    rw [finishEvent_src_frame, h.frame i, mute i]
    exact ok

end Handled

/-! ### Events at the floor -/

/-- What an event has written in the records before the floor acts: Level Monitor fields and effective mutes. -/
structure Written (s t : State) : Prop where
  rest : { t with srcs := s.srcs, notice := s.notice } = s
  attention : AttentionLaw s → AttentionLaw t
  frame : ∀ i : SrcSlot, t.srcs[i] = { s.srcs[i] with
    s := t.srcs[i].s, n := t.srcs[i].n, creep := t.srcs[i].creep, voice := t.srcs[i].voice, twm := t.srcs[i].twm
    twmRose := t.srcs[i].twmRose, alert := t.srcs[i].alert, inBlock := t.srcs[i].inBlock
    effMute := t.srcs[i].effMute }
  kept : ∀ i : SrcSlot, SrcKept s.params s.params s.srcs[i] t.srcs[i]

theorem Written.refl (s : State) : Written s s := ⟨rfl, id, fun _ => rfl, fun _ => .refl _ _⟩

namespace Written

variable (h : Written s t)
include h

theorem floor : t.floor = s.floor := (congrArg State.floor h.rest :)
theorem params : t.params = s.params := params_of_banks (congrArg State.banks h.rest :)

theorem alike : Alike s t := ⟨h.floor, h.params, fun i => by rw [h.frame i], fun i => by rw [h.frame i]⟩

theorem places (law : PlacesLaw s) : PlacesLaw t := h.alike.places law fun i => by rw [h.frame i]

theorem holdLaw (law : HoldLaw s) : HoldLaw t := fun i c hc => by
  rw [h.frame i] at hc
  rw [h.params]
  exact law i c hc

/-- What the floor makes of a state so written is what an event's end starts from. -/
theorem handled (frame : FloorFrame t u) (n : Nat) (event : MembershipLaw s → MembershipLaw u ∧
      (t.floor.list.length ≤ t.params.maxOpen → u.floor.list.length ≤ t.params.maxOpen) ∧
      (1 ≤ t.params.admitBurst → t.floor.stamps.length ≤ t.params.admitBurst →
        u.floor.stamps.length ≤ t.params.admitBurst) ∧ (HoldLaw t → HoldLaw u)) :
    Handled s { u with freeCount := n } where
  rest := by
    have rest := frame.rest
    calc { u with srcs := s.srcs, floor := s.floor, notice := s.notice, freeCount := s.freeCount }
        = { { { u with srcs := t.srcs, floor := t.floor } with srcs := s.srcs, notice := s.notice } with
            floor := s.floor, freeCount := s.freeCount } := rfl
      _ = s := by rw [rest, h.rest]
  attention law := by
    have same : u.notice = t.notice := frame.notice
    have before := h.attention law
    rw [AttentionLaw] at before ⊢
    rwa [same]
  frame i := by
    change u.srcs[i] = _
    rw [frame.srcs i, h.frame i]
  kept i := by
    have kept := h.kept i
    change SrcKept _ _ _ u.srcs[i]
    rw [frame.srcs i]
    exact ⟨kept.level, kept.gain, kept.ramp, kept.monitor⟩
  membership law := (event law).1.of_same rfl rfl rfl (fun _ => rfl) (fun _ => rfl) (fun _ => rfl) (fun _ => rfl)
  size law := by
    have := (event law).2.1
    rwa [h.floor, h.params] at this
  stamps law := by
    have := (event law).2.2.1
    rwa [h.floor, h.params] at this
  hold law before := (event law).2.2.2 (h.holdLaw before)

end Written

theorem FloorEvent.parts (h : FloorEvent s t) : MembershipLaw t ∧
    (s.floor.list.length ≤ s.params.maxOpen → t.floor.list.length ≤ s.params.maxOpen) ∧
    (1 ≤ s.params.admitBurst → s.floor.stamps.length ≤ s.params.admitBurst →
      t.floor.stamps.length ≤ s.params.admitBurst) ∧ (HoldLaw s → HoldLaw t) :=
  ⟨h.membership, h.size, h.stamps, h.holds⟩

/-- An event whose work is the floor's alone. -/
theorem floorEvent_all (frame : FloorFrame s u) (event : MembershipLaw s → FloorEvent s u) :
    AllKept s (finishEvent s u) :=
  ((Written.refl s).handled frame u.freeCount fun law => (event law).parts).all fun i => by
    change u.srcs[i].effMute = _
    rw [frame.srcs i]

/-! ### A record that comes to stand outside the floor -/

/-- A record that the floor's collections do not name. -/
structure StandsOutside (y : Source) : Prop where
  state : y.floorState = none ∨ y.floorState = some .closed ∨ y.floorState = some .ungated
  gated : y.inUse = true → y.floorClass = true → y.floorState = some .closed
  ungated : y.inUse = true → y.floorClass = false → y.floorState = some .ungated
  free : y.inUse = false → y.floorState = none

theorem StandsOutside.not_onFloor {y : Source} (h : StandsOutside y) : onFloor y.floorState = false := by
  obtain e | e | e := h.state <;> rw [e] <;> rfl

theorem StandsOutside.not_pending {y : Source} (h : StandsOutside y) : y.floorState ≠ some .pending := by
  obtain e | e | e := h.state <;> rw [e] <;> nofun

theorem StandsOutside.not_hold {y : Source} (h : StandsOutside y) (c : Nat) : y.floorState ≠ some (.hold c) := by
  obtain e | e | e := h.state <;> rw [e] <;> nofun

theorem standsOutside_free : StandsOutside .free := ⟨.inl rfl, nofun, nofun, fun _ => rfl⟩

theorem MembershipLaw.setOutside (law : MembershipLaw s) (out : ¬ Inside s i) {y : Source} (h : StandsOutside y) :
    MembershipLaw (s.setSrc i y) := by
  have noFloor := h.not_onFloor
  have noQueue := h.not_pending
  have retiring (e : y.state = .retiring) : y.inUse = true := by rw [Source.inUse, e]; rfl
  have outList : i ∉ s.floor.list := fun m => out (.inl m)
  have outChairs : i ∉ s.floor.chairs := fun m => out (.inr (.inl m))
  have outDelegates : i ∉ s.floor.delegates := fun m => out (.inr (.inr m))
  refine ⟨fun j => ?_, fun j => ?_, fun j => ?_, law.once, fun j => ?_, fun j => ?_, fun j => ?_, fun j => ?_, fun j => ?_⟩
  all_goals
    rw [setSrc_at]
    split
    all_goals rename_i at_i
  · exact ⟨fun m => absurd (at_i ▸ m) outList, fun m => by rw [noFloor] at m; cases m.2⟩
  · exact law.list j
  · exact ⟨fun m => absurd (at_i ▸ m) outChairs, fun m => absurd m.2.2 noQueue⟩
  · exact law.chairs j
  · exact ⟨fun m => absurd (at_i ▸ m) outDelegates, fun m => absurd m.2.2 noQueue⟩
  · exact law.delegates j
  · exact fun m => absurd (at_i ▸ m) out
  · exact law.unmuted j
  · intro active cls
    rw [h.gated (inUse_of_isActive active) cls]
    exact ⟨rfl, nofun⟩
  · exact law.gated j
  · exact h.ungated
  · exact law.ungated j
  · exact fun state => h.gated (retiring state)
  · exact law.retiring j
  · exact h.free
  · exact law.free j

end Sys2Proof.Machine
end

section
/-! What the single events keep of the laws: attach, retire and trim, FLOOR.RESET, the mutes derived again, the swap effect
and the resets. -/

namespace Sys2Proof.Machine

variable {s t u : State} {i j : SrcSlot}

/-! ### A record replaced by one that stands outside the floor -/

theorem setSrc_fields {y : Source} (kept : SrcKept s.params s.params s.srcs[i] y)
    (apart : OriginsApart s → OriginsApart (s.setSrc i y)) : SrcFields s (s.setSrc i y) where
  rest := rfl
  attention := id
  kept j := by
    rw [setSrc_at]
    split
    next e => rw [e]; exact kept
    next => exact .refl _ _
  apart := apart

theorem setOutside_change {y : Source} (fields : SrcFields s (s.setSrc i y))
    (out : MembershipLaw s → ¬ Inside s i ∧ StandsOutside y)
    (target : MembershipLaw s → y.gain.target = composeTarget s.params s.floor.list.length y) :
    SrcChange s (s.setSrc i y) where
  toSrcFields := fields
  membership law := law.setOutside (out law).1 (out law).2
  size _ := id
  stamps _ _ := id
  target law targets j := by
    rw [setSrc_at]
    split
    next => exact target law
    next => exact targets j
  hold law holds j c hc := by
    rw [setSrc_at] at hc
    split at hc
    next => exact absurd hc ((out law).2.not_hold c)
    next => exact holds j c hc

/-- A record replaced by one in use only if it was, with the same origin, leaves the origins apart. -/
theorem setSrc_apart {y : Source} (h : y.inUse = true → s.srcs[i].inUse = true ∧ y.origin = s.srcs[i].origin)
    (law : OriginsApart s) : OriginsApart (s.setSrc i y) := by
  have each (j : SrcSlot) (use : (s.setSrc i y).srcs[j].inUse = true) :
      s.srcs[j].inUse = true ∧ (s.setSrc i y).srcs[j].origin = s.srcs[j].origin := by
    rw [setSrc_at] at use ⊢
    split at use
    next e => rw [if_pos e, e]; exact h use
    next e => rw [if_neg e]; exact ⟨use, rfl⟩
  intro j k hj hk some same
  obtain ⟨hj, ej⟩ := each j hj
  obtain ⟨hk, ek⟩ := each k hk
  rw [ej] at some same
  rw [ek] at same
  exact law j k hj hk some same

/-- The mute of each record is kept when one is replaced. -/
theorem setSrc_mute {y : Source} (h : MuteOk s s.srcs[i] → MuteOk s y) (j : SrcSlot) (law : MuteOk s s.srcs[j]) :
    MuteOk s (s.setSrc i y).srcs[j] := by
  rw [setSrc_at]
  split
  next e => subst e; exact h law
  next => exact law

theorem srcKept_free {p q : Params} (x : Source) : SrcKept p q x .free :=
  ⟨fun _ => ⟨le_rfl, Nat.zero_le _⟩, fun _ => ⟨.free, by decide, by decide⟩, fun _ _ => .free, fun _ hq _ =>
    ⟨hq.creepBlocks.1, Nat.zero_le _, fun _ => Nat.zero_lt_succ _, rfl⟩⟩

theorem muteOk_free (s : State) : MuteOk s .free := ⟨nofun, fun _ => rfl, nofun⟩

theorem freeSource_fields (s : State) (i : SrcSlot) : SrcFields s (freeSource i s) :=
  setSrc_fields (srcKept_free _) (setSrc_apart nofun)

theorem freeSource_all (out : MembershipLaw s → ¬ Inside s i) : AllKept s (freeSource i s) :=
  (setOutside_change (freeSource_fields s i) (fun law => ⟨out law, standsOutside_free⟩) fun _ => rfl).all
    (setSrc_mute fun _ => muteOk_free s)

theorem MembershipLaw.outside_of_inactive (law : MembershipLaw s) (h : s.srcs[i].isActive = false) : ¬ Inside s i :=
  fun inside => by rw [(law.places.ofFloor_of_inside inside).1] at h; cases h

/-- The record of a source that begins its fade (R9 steps 2 to 4). -/
def fading (x : Source) : Source :=
  { x with state := .retiring, twm := 0, alert := false, gain := x.gain.rampTo off }

theorem retireSource_eq (i : SrcSlot) (s : State) :
    retireSource i s = if s.srcs[i].gain.current = off then freeSource i s else s.setSrc i (fading s.srcs[i]) := rfl

theorem fading_fields (active : s.srcs[i].isActive = true) : SrcFields s (s.setSrc i (fading s.srcs[i])) :=
  setSrc_fields ⟨id, fun h => ⟨h.1.rampTo .off, h.2⟩, fun _ _ => .rampTo _ _, fun _ _ ⟨creep, _, _, rose⟩ =>
    ⟨creep, Nat.zero_le _, fun _ => Nat.zero_lt_succ _, rose⟩⟩ (setSrc_apart fun _ => ⟨inUse_of_isActive active, rfl⟩)

theorem fading_muteOk (active : s.srcs[i].isActive = true) (ok : MuteOk s s.srcs[i]) : MuteOk s (fading s.srcs[i]) :=
  have use := inUse_of_isActive active
  ⟨fun _ => ok.1 use, nofun, fun _ => ok.2.2 use⟩

theorem retireSource_plain (active : s.srcs[i].isActive = true) : PlainKept s (retireSource i s) := by
  rw [retireSource_eq]
  split
  · exact (freeSource_fields s i).plain
  · exact (fading_fields active).plain

/-- A source retired from outside the floor (R9, R10). -/
theorem retireSource_all (active : s.srcs[i].isActive = true) (out : MembershipLaw s → ¬ Inside s i) :
    AllKept s (retireSource i s) := by
  have use := inUse_of_isActive active
  rw [retireSource_eq]
  split
  · exact freeSource_all out
  · refine (setOutside_change (fading_fields active) (fun law => ⟨out law, ?stands⟩) fun _ =>
      (composeTarget_inactive rfl).symm).all (setSrc_mute (fading_muteOk active))
    cases cls : s.srcs[i].floorClass with
    | true =>
      have closed := law.places.closed_of_outside ⟨active, cls⟩ (out law)
      exact ⟨.inr (.inl closed), fun _ _ => closed, fun _ other => absurd (cls.symm.trans other) nofun, nofun⟩
    | false =>
      have ungated := law.ungated i use cls
      exact ⟨.inr (.inr ungated), fun _ other => absurd (cls.symm.trans other) nofun, fun _ _ => ungated, nofun⟩

theorem retireSource_muteLaw (active : s.srcs[i].isActive = true) (law : MuteLaw s) : MuteLaw (retireSource i s) := by
  rw [retireSource_eq]
  split
  · exact (freeSource_fields s i).muteLaw (setSrc_mute fun _ => muteOk_free s) law
  · exact (fading_fields active).muteLaw (setSrc_mute (fading_muteOk active)) law

/-! ### SRC.ATTACH (R6, R7) -/

theorem attachedSource_standsOutside {s : State} {o : Origin} {c : SrcClass} {trim : Int} {groups : Groups} {m : Bool}
    {g : GainUnit} : StandsOutside { attachedSource s o c trim groups with effMute := m, gain := g } := by
  cases c <;> exact ⟨by simp [attachedSource, attachFloorState], by simp [attachedSource, attachFloorState, Source.floorClass],
    by simp [attachedSource, attachFloorState, Source.floorClass], nofun⟩

/-- The record an accepted SRC.ATTACH fills, whole. -/
def attachedWhole (s : State) (o : Origin) (c : SrcClass) (trim : Int) (groups : Groups) : Source :=
  retarget s { attachedSource s o c trim groups with
    effMute := deriveMute s.mute (attachedSource s o c trim groups) }

theorem attach_all {o : Origin} {c : SrcClass} {trim : Int} {groups : Groups} (free : s.srcs[i].inUse = false)
    (unheld : originHeld s o = false) : AllKept s (s.setSrc i (attachedWhole s o c trim groups)) := by
  have inactive : s.srcs[i].isActive = false := by
    cases h : s.srcs[i].isActive with
    | false => rfl
    | true => rw [inUse_of_isActive h] at free; cases free
  have others (j : SrcSlot) (use : s.srcs[j].inUse = true) : s.srcs[j].origin ≠ some o := fun same => by
    have held : originHeld s o = true :=
      List.any_eq_true.mpr ⟨j, List.mem_finRange j, by rw [use, same]; exact beq_self_eq_true _⟩
    rw [unheld] at held
    cases held
  refine (setOutside_change (setSrc_fields ?kept fun law j k => ?apart)
    (fun law => ⟨law.outside_of_inactive inactive, attachedSource_standsOutside⟩) fun _ => ?target).all
    (setSrc_mute fun _ => ?mute)
  case kept =>
    refine ⟨fun _ => ⟨le_rfl, Nat.zero_le _⟩, fun _ => ⟨GainUnitLaw.free.hand (composeTarget_mem _ _ _), ?_⟩,
      fun _ _ => GainUnitRampLaw.free.hand _, fun _ hq _ =>
        ⟨hq.creepBlocks.1, Nat.zero_le _, fun _ => Nat.zero_lt_succ _, rfl⟩⟩
    exact clampInt_mem (by decide) trim
  case apart =>
    rw [setSrc_at, setSrc_at]
    split <;> split
    next ej ek => exact fun _ _ _ _ => ej.trans ek.symm
    next => exact fun _ use _ same => absurd same.symm (others k use)
    next => exact fun use _ _ same => absurd same (others j use)
    next => exact law j k
  case target => exact GainUnit.hand_target _ _
  case mute =>
    refine ⟨fun _ => rfl, nofun, fun _ l e origin => ?_⟩
    cases Option.some.inj origin
    rfl

/-! ### SRC.TRIM (R14) -/

/-- A record's composed target handed to the ramp unit. -/
theorem trim_all (v : Int) : AllKept s (retargetAt i (s.setSrc i { s.srcs[i] with trim := clampTrim v })) := by
  have src (j : SrcSlot) : (retargetAt i (s.setSrc i { s.srcs[i] with trim := clampTrim v })).srcs[j]
      = if j = i then retarget s { s.srcs[i] with trim := clampTrim v } else s.srcs[j] := by
    unfold retargetAt
    rw [setSrc_at, State.setSrc_same]
    split
    · rfl
    · rename_i h; rw [setSrc_at, if_neg h]
  have frame (j : SrcSlot) : (retargetAt i (s.setSrc i { s.srcs[i] with trim := clampTrim v })).srcs[j]
      = { s.srcs[j] with
        trim := (retargetAt i (s.setSrc i { s.srcs[i] with trim := clampTrim v })).srcs[j].trim
        gain := (retargetAt i (s.setSrc i { s.srcs[i] with trim := clampTrim v })).srcs[j].gain } := by
    rw [src]
    split
    next e => subst e; rfl
    next => rfl
  refine SrcChange.all ⟨⟨rfl, id, fun j => ?kept, fun law j k => ?apart⟩, fun law => ?membership, fun _ => id,
    fun _ _ => id, fun _ targets j => ?target, fun _ holds j c hc => ?hold⟩ fun j ok => ?mute
  case kept =>
    rw [src]
    split
    next e =>
      subst e
      exact ⟨id, fun h => ⟨h.1.hand (composeTarget_mem _ _ _), clampInt_mem (by decide) v⟩, fun _ law => law.hand _,
        fun _ _ => id⟩
    next => exact .refl _ _
  case apart =>
    rw [frame j, frame k]
    exact law j k
  case membership =>
    exact law.of_same rfl rfl rfl (fun j => by rw [frame]) (fun j => by rw [frame]) (fun j => by rw [frame])
      fun j => by rw [frame]
  case target =>
    rw [src]
    split
    next => exact GainUnit.hand_target _ _
    next => exact targets j
  case hold =>
    rw [frame] at hc
    exact holds j c hc
  case mute =>
    rw [frame]
    exact ok

/-! ### Every floor-class source handed its target (R82, R103) -/

/-- FLOOR judged against the beginning of the event, then every target of the floor classes handed on. -/
def retargeted (before u : State) : State := retargetFloor (noteFloor before u)

theorem retargeted_src (v u : State) (i : SrcSlot) : (retargeted v u).srcs[i] =
    if u.srcs[i].isActive && u.srcs[i].floorClass then retarget u u.srcs[i] else u.srcs[i] := by
  have same : retarget (noteFloor v u) = retarget u := by
    funext x
    rw [retarget, retarget, FloorReset.noteFloor_params, noteFloor_floor]
  rw [retargeted, FloorReset.retargetFloor_src, noteFloor_srcs, same]

theorem retargeted_frame (v u : State) (i : SrcSlot) :
    (retargeted v u).srcs[i] = { u.srcs[i] with gain := (retargeted v u).srcs[i].gain } := by
  rw [retargeted_src]
  split <;> rfl

theorem retargeted_rest (v u : State) : { retargeted v u with srcs := u.srcs, notice := u.notice } = u := by
  simp only [retargeted, retargetFloor, noteFloor, State.mapSrcs, State.addNoticeIf]
  split <;> rfl

/-- What a state shares with another that differs from it in sources and notices alone. -/
theorem overlay_shares {v : State} (h : { v with srcs := u.srcs, notice := u.notice } = u) :
    v.floor = u.floor ∧ v.banks = u.banks :=
  ⟨(congrArg State.floor h :), (congrArg State.banks h :)⟩

theorem retargeted_floor (v u : State) : (retargeted v u).floor = u.floor := (overlay_shares (retargeted_rest v u)).1

theorem retargeted_banks (v u : State) : (retargeted v u).banks = u.banks := (overlay_shares (retargeted_rest v u)).2

theorem retargeted_params (v u : State) : (retargeted v u).params = u.params := params_of_banks (retargeted_banks v u)

theorem retargeted_attention (v : State) (law : AttentionLaw u) : AttentionLaw (retargeted v u) := by
  have noted := noteFloor_attention v law
  have same : (retargeted v u).notice = (noteFloor v u).notice := State.mapSrcs_notice _ _
  rw [AttentionLaw, same]
  exact noted

theorem retargeted_membership (v : State) (law : MembershipLaw u) : MembershipLaw (retargeted v u) :=
  law.of_same (by rw [retargeted_floor]) (by rw [retargeted_floor]) (by rw [retargeted_floor])
    (fun i => by rw [retargeted_frame]) (fun i => by rw [retargeted_frame]) (fun i => by rw [retargeted_frame])
    (fun i => by rw [retargeted_frame])

theorem retargeted_hold (v : State) (law : HoldLaw u) : HoldLaw (retargeted v u) := fun i c hc => by
  rw [retargeted_frame] at hc
  rw [retargeted_params]
  exact law i c hc

/-- The targets are composed again where the floor or its parameters can have changed them (R103). -/
theorem retargeted_target (v : State) (state : ∀ i : SrcSlot, u.srcs[i].state = s.srcs[i].state)
    (cls : ∀ i : SrcSlot, u.srcs[i].cls = s.srcs[i].cls) (effMute : ∀ i : SrcSlot, u.srcs[i].effMute = s.srcs[i].effMute)
    (trim : ∀ i : SrcSlot, u.srcs[i].trim = s.srcs[i].trim) (gain : ∀ i : SrcSlot, u.srcs[i].gain = s.srcs[i].gain)
    (before : MembershipLaw s) (after : MembershipLaw u) (law : TargetLaw s) : TargetLaw (retargeted v u) := fun i => by
  have read : composeTarget (retargeted v u).params (retargeted v u).floor.list.length (retargeted v u).srcs[i]
      = composeTarget u.params u.floor.list.length u.srcs[i] := by
    rw [retargeted_params, retargeted_floor]
    apply composeTarget_of_same <;> rw [retargeted_frame]
  rw [read, retargeted_src]
  split
  next => exact GainUnit.hand_target _ _
  next still =>
    rw [gain, law i]
    have active_eq : u.srcs[i].isActive = s.srcs[i].isActive := by rw [Source.isActive, Source.isActive, state]
    have class_eq : u.srcs[i].floorClass = s.srcs[i].floorClass := by rw [Source.floorClass, Source.floorClass, cls]
    cases active : u.srcs[i].isActive with
    | false => rw [composeTarget_inactive active, composeTarget_inactive (active_eq ▸ active)]
    | true =>
      have other : u.srcs[i].floorClass = false := by
        rw [active, Bool.true_and] at still
        exact Bool.not_eq_true _ ▸ still
      exact (composeTarget_ungated (state i) (cls i) (effMute i) (trim i) (class_eq ▸ other)
        (before.ungated_gate (active_eq ▸ active) (class_eq ▸ other)) (after.ungated_gate active other)).symm

/-- What `retargeted` makes of a record's laws. -/
theorem retargeted_kept {p q : Params} {x : Source} (v : State) (h : SrcKept p q x u.srcs[i])
    (gain : u.srcs[i].gain = x.gain) : SrcKept p q x (retargeted v u).srcs[i] := by
  rw [retargeted_src]
  split
  · have again := srcKept_retarget u q u.srcs[i]
    exact ⟨h.level, fun l => again.gain (h.gain l), fun g l => again.ramp (gain ▸ g) (h.ramp g l), h.monitor⟩
  · exact h

/-! ### FLOOR.RESET (R82) -/

theorem clearFloor_floorState (s : State) (i : SrcSlot) : (clearFloor s).srcs[i].floorState = some .closed ∧ Inside s i ∨
    (clearFloor s).srcs[i].floorState = s.srcs[i].floorState ∧ ¬ Inside s i := by
  by_cases h : Inside s i
  · rw [FloorReset.clearFloor_src_member s h]; exact .inl ⟨rfl, h⟩
  · rw [FloorReset.clearFloor_src_outside s h]; exact .inr ⟨rfl, h⟩

theorem clearFloor_membership (law : MembershipLaw s) : MembershipLaw (clearFloor s) := by
  have frame := FloorReset.clearFloor_src s
  have stand := clearFloor_floorState s
  have state (i : SrcSlot) : (clearFloor s).srcs[i].state = s.srcs[i].state := by rw [frame]
  have cls (i : SrcSlot) : (clearFloor s).srcs[i].cls = s.srcs[i].cls := by rw [frame]
  have active (i : SrcSlot) : (clearFloor s).srcs[i].isActive = s.srcs[i].isActive := by
    rw [Source.isActive, Source.isActive, state]
  have use (i : SrcSlot) : (clearFloor s).srcs[i].inUse = s.srcs[i].inUse := inUse_of_state (state i)
  have floorClass (i : SrcSlot) : (clearFloor s).srcs[i].floorClass = s.srcs[i].floorClass := by
    rw [Source.floorClass, Source.floorClass, cls]
  refine ⟨fun i => ?list, fun i => ?chairs, fun i => ?delegates, ?once, fun i => ?unmuted, fun i => ?gated,
    fun i => ?ungated, fun i => ?retiring, fun i => ?free⟩
  all_goals simp only [FloorReset.clearFloor_floor, active, use, floorClass, state]
  case once => exact ⟨.nil, .nil, .nil⟩
  case unmuted => simp
  all_goals obtain ⟨closed, inside⟩ | ⟨same, outside⟩ := stand i
  all_goals try rw [closed]
  all_goals try rw [same]
  case list.inl => simp [onFloor, isHold]
  case list.inr => simpa using fun a on => outside (.inl ((law.list i).mpr ⟨a, on⟩))
  case chairs.inl => simp
  case delegates.inl => simp
  case chairs.inr =>
    have chair : (clearFloor s).srcs[i].isChair = s.srcs[i].isChair := by rw [Source.isChair, Source.isChair, cls]
    rw [chair]
    simpa using fun a c p => outside (.inr (.inl ((law.chairs i).mpr ⟨a, c, p⟩)))
  case delegates.inr =>
    have delegate : (clearFloor s).srcs[i].isDelegate = s.srcs[i].isDelegate := by
      rw [Source.isDelegate, Source.isDelegate, cls]
    rw [delegate]
    simpa using fun a c p => outside (.inr (.inr ((law.delegates i).mpr ⟨a, c, p⟩)))
  case gated.inl => exact fun _ _ => ⟨rfl, nofun⟩
  case gated.inr => exact law.gated i
  case ungated.inl => exact fun _ other => absurd ((law.places.ofFloor_of_inside inside).2.symm.trans other) nofun
  case ungated.inr => exact law.ungated i
  case retiring.inl => exact fun _ _ => rfl
  case retiring.inr => exact law.retiring i
  case free.inl =>
    exact fun free => absurd ((inUse_of_isActive (law.places.ofFloor_of_inside inside).1).symm.trans free) nofun
  case free.inr => exact law.free i

theorem with_freeCount {v : State} (h : { v with srcs := s.srcs, floor := s.floor, notice := s.notice } = s) :
    { v with srcs := s.srcs, floor := s.floor, notice := s.notice, freeCount := s.freeCount } = s :=
  (congrArg (fun u : State => { u with freeCount := s.freeCount }) h :)

theorem withFloorOf_state (x y : Source) : (x.withFloorOf y).state = x.state := rfl

theorem withFloorOf_origin (x y : Source) : (x.withFloorOf y).origin = x.origin := rfl

theorem muteOk_withFloorOf {x : Source} (h : MuteOk s x) (y : Source) : MuteOk s (x.withFloorOf y) := h

theorem originsApart_of_same (state : ∀ i : SrcSlot, t.srcs[i].state = s.srcs[i].state)
    (origin : ∀ i : SrcSlot, t.srcs[i].origin = s.srcs[i].origin) (law : OriginsApart s) : OriginsApart t := by
  intro i j
  rw [inUse_of_state (state i), inUse_of_state (state j), origin, origin]
  exact law i j

theorem srcKept_floorState (p : Params) (x : Source) (f : Option FloorState) :
    SrcKept p p x { x with floorState := f } := ⟨id, id, fun _ => id, fun _ _ => id⟩

theorem floorReset_all (s : State) : AllKept s (FloorReset.floorCleared s) := by
  have frame (i : SrcSlot) := FloorReset.clearFloor_src s i
  have gain (i : SrcSlot) : (clearFloor s).srcs[i].gain = s.srcs[i].gain := by rw [frame]
  have whole (i : SrcSlot) := FloorReset.floorCleared_withFloorOf s i
  refine SrcChange.all ⟨⟨?rest, fun law => retargeted_attention s ?attention, fun i => ?kept, fun law i j => ?apart⟩,
    fun law => retargeted_membership s (clearFloor_membership law), fun _ _ => ?size, fun _ _ _ => ?stamps,
    fun law targets => ?target, fun law holds => retargeted_hold s fun i c hc => ?hold⟩ fun i ok => ?mute
  case rest => exact with_freeCount (v := FloorReset.floorCleared s) (FloorReset.floorCleared_rest s)
  case attention => rw [AttentionLaw, FloorReset.clearFloor_notice]; exact law
  case kept =>
    have written : SrcKept s.params s.params s.srcs[i] (clearFloor s).srcs[i] := by
      rw [frame]
      exact srcKept_floorState _ _ _
    exact retargeted_kept s written (gain i)
  case apart =>
    exact originsApart_of_same (fun i => by rw [whole i, withFloorOf_state]) (fun i => by rw [whole i, withFloorOf_origin])
      law i j
  case size => rw [FloorReset.floorCleared_floor]; exact Nat.zero_le _
  case stamps => rw [FloorReset.floorCleared_floor]; exact Nat.zero_le _
  case target =>
    exact retargeted_target s (fun i => by rw [frame]) (fun i => by rw [frame]) (fun i => by rw [frame])
      (fun i => by rw [frame]) gain law (clearFloor_membership law) targets
  case hold =>
    obtain ⟨closed, -⟩ | ⟨same, -⟩ := clearFloor_floorState s i
    · rw [closed] at hc; cases hc
    · rw [same] at hc
      rw [FloorReset.clearFloor_params]
      exact holds i c hc
  case mute =>
    rw [whole]
    exact muteOk_withFloorOf ok _

/-! ### The swap effect (R78, R130) -/

/-- The state once the banks have exchanged their roles and the creep counts are adjusted, before the floor's work. -/
def exchanged (s : State) : State :=
  ({ s with
    banks := { s.banks with operating := otherBank s.banks.operating, swap := .ramping }
    xpRamps := swapRamps s.banks.opBank s.banks.editBank }).mapSrcs fun _ x => adjustCreep s.banks.editBank.params x

/-- The floor once its work at a swap effect is done, before the targets. -/
def swapServed (s : State) : State := pendingService (expireStamps (floorSwap s))

theorem swapEffect_eq (s : State) : swapEffect s = retargeted (exchanged s) (swapServed (exchanged s)) := rfl

theorem otherBank_otherBank (n : BankName) : otherBank (otherBank n) = n := by cases n <;> rfl

theorem exchanged_params (s : State) : (exchanged s).params = s.banks.editBank.params := by
  rw [State.params, exchanged, State.mapSrcs_banks]
  rfl

theorem exchanged_src (s : State) (i : SrcSlot) :
    (exchanged s).srcs[i] = adjustCreep s.banks.editBank.params s.srcs[i] := State.mapSrcs_at _ _ i

theorem adjustCreep_frame (p : Params) (x : Source) : adjustCreep p x = { x with creep := (adjustCreep p x).creep } := by
  unfold adjustCreep
  split <;> rfl

theorem exchanged_frame (s : State) (i : SrcSlot) :
    (exchanged s).srcs[i] = { s.srcs[i] with creep := (exchanged s).srcs[i].creep } := by
  rw [exchanged_src, adjustCreep_frame]

theorem exchanged_rest (s : State) :
    { exchanged s with srcs := s.srcs, banks := s.banks, xpRamps := s.xpRamps } = s := by
  simp only [exchanged, State.mapSrcs]

/-- What the exchange leaves of everything else. -/
theorem overlay_exchanged {v : State} (h : { v with srcs := s.srcs, banks := s.banks, xpRamps := s.xpRamps } = s) :
    v.floor = s.floor ∧ v.feeds = s.feeds ∧ v.mute = s.mute ∧ v.pods = s.pods ∧ v.ports = s.ports ∧ v.notice = s.notice :=
  ⟨(congrArg State.floor h :), (congrArg State.feeds h :), (congrArg State.mute h :), (congrArg State.pods h :),
    (congrArg State.ports h :), (congrArg State.notice h :)⟩

theorem exchanged_floor (s : State) : (exchanged s).floor = s.floor := (overlay_exchanged (exchanged_rest s)).1

theorem exchanged_membership (law : MembershipLaw s) : MembershipLaw (exchanged s) :=
  law.of_same (by rw [exchanged_floor]) (by rw [exchanged_floor]) (by rw [exchanged_floor])
    (fun i => by rw [exchanged_frame]) (fun i => by rw [exchanged_frame]) (fun i => by rw [exchanged_frame])
    (fun i => by rw [exchanged_frame])

end Sys2Proof.Machine
end

section
/-! What the swap effect, the mutes derived again and the resets keep of the laws. -/

namespace Sys2Proof.Machine

variable {s t u : State} {i j : SrcSlot}

/-! ### The swap effect (R78, R130) -/

theorem swapLast_frame (s : State) : FloorFrame s (swapLast s) := by
  unfold swapLast
  split
  · exact .refl s
  · split
    · exact closeSource_frame _ s
    · exact .refl s

theorem expireZero_frame (s : State) (i : SrcSlot) : FloorFrame s (expireZero s i) := by
  unfold expireZero
  split
  · exact expireHold_frame i s
  · exact .refl s

theorem swapHolds_frame (s : State) : FloorFrame s (swapHolds s) := by
  have expired (is : List SrcSlot) (u : State) (h : FloorFrame s u) : FloorFrame s (is.foldl expireZero u) := by
    induction is generalizing u with
    | nil => exact h
    | cons i is ih => exact ih _ (h.trans (expireZero_frame u i))
  rw [swapHolds_eq]
  exact expired _ _ (lowered_frame s)

theorem shrinkFloor_frame (n : Nat) (s : State) : FloorFrame s (shrinkFloor n s) := by
  induction n generalizing s with
  | zero => exact .refl s
  | succ n ih =>
    unfold shrinkFloor
    split
    · exact .refl s
    · split
      · exact (evict_frame _ s).trans (ih _)
      · exact .refl s

theorem swapDone_frame (s : State) : FloorFrame s (swapServed s) :=
  (swapLast_frame s).trans ((swapHolds_frame _).trans ((shrinkFloor_frame _ _).trans ((swapStamps_frame _).trans
    ((expireStamps_frame _).trans (pendingService_frame _)))))

theorem swapServed_membership (law : MembershipLaw s) : MembershipLaw (swapServed s) := by
  have work := swapServed_work law.places
  refine membershipLaw_iff.mpr ⟨work.places, fun i inside => ?_⟩
  have before := holdsAdjusted_inside law.places ((work.inside i inside).resolve_right id)
  rw [(swapDone_frame s).srcs i]
  exact law.unmuted i before

theorem swapServed_holdLaw (law : MembershipLaw s)
    (pos : ∀ (i : SrcSlot) (c : Nat), s.srcs[i].floorState = some (.hold c) → 1 ≤ c) : HoldLaw (swapServed s) :=
  fun i c hc => by
    rw [(swapDone_frame s).params]
    exact holdsAdjusted_holds law.places pos ((swapServed_work law.places).holds i c hc)

theorem adjustCreep_kept (p q : Params) (x : Source) :
    SrcKept p q x (adjustCreep q x) := by
  refine ⟨fun h => ?level, fun h => ?gain, fun _ h => ?ramp, fun _ hq h => ?monitor⟩
  case monitor =>
    obtain ⟨-, counts⟩ := h
    refine ⟨?_, by rw [adjustCreep_frame]; exact counts⟩
    have := hq.creepBlocks.1
    unfold adjustCreep
    split
    · exact Nat.sub_lt this Nat.one_pos
    · omega
  all_goals rw [adjustCreep_frame]; exact h

/-- What the records hold once the floor has done its work at a swap effect. -/
theorem swapServed_src (s : State) (i : SrcSlot) : (swapServed (exchanged s)).srcs[i] = { s.srcs[i] with
    creep := (exchanged s).srcs[i].creep, floorState := (swapServed (exchanged s)).srcs[i].floorState } := by
  rw [(swapDone_frame _).srcs i, exchanged_frame]

theorem swapRamps_at (former new : Bank) (f : FeedSlot) (i : SrcSlot) : (swapRamps former new)[f][i] =
    if former.xp[f][i] = new.xp[f][i] then none
    else some ⟨former.xp[f][i], new.xp[f][i], rampDuration (new.xp[f][i] - former.xp[f][i]).natAbs, 0⟩ :=
  matrix_ofFn_at _ f i

theorem srcKept_served {p q : Params} {x y : Source} (h : SrcKept p q x y) (f : Option FloorState) :
    SrcKept p q x { y with floorState := f } := ⟨h.level, h.gain, h.ramp, h.monitor⟩

theorem swapEffect_rest (s : State) : { swapEffect s with
    srcs := s.srcs, floor := s.floor, notice := s.notice, banks := s.banks, xpRamps := s.xpRamps } = s := by
  have overlay (v : State) (h : { v with
        srcs := (swapServed (exchanged s)).srcs, notice := (swapServed (exchanged s)).notice } = swapServed (exchanged s))
      (k : { swapServed (exchanged s) with srcs := (exchanged s).srcs, floor := (exchanged s).floor } = exchanged s)
      (e : { exchanged s with srcs := s.srcs, banks := s.banks, xpRamps := s.xpRamps } = s) :
      { v with srcs := s.srcs, floor := s.floor, notice := s.notice, banks := s.banks, xpRamps := s.xpRamps } = s := by
    generalize swapServed (exchanged s) = u at *
    generalize exchanged s = w at *
    rw [← h] at k
    rw [← k] at e
    exact (congrArg (fun v : State => { v with floor := s.floor, notice := s.notice }) e :)
  exact overlay _ (retargeted_rest _ _) (swapDone_frame _).rest (exchanged_rest s)

/-- What a swap effect shares with the state before it. -/
theorem overlay_swapped {v : State} (h : { v with
      srcs := s.srcs, floor := s.floor, notice := s.notice, banks := s.banks, xpRamps := s.xpRamps } = s) :
    v.feeds = s.feeds ∧ v.mute = s.mute ∧ v.pods = s.pods ∧ v.ports = s.ports :=
  ⟨(congrArg State.feeds h :), (congrArg State.mute h :), (congrArg State.pods h :), (congrArg State.ports h :)⟩

theorem swapEffect_banks (s : State) :
    (swapEffect s).banks = { s.banks with operating := otherBank s.banks.operating, swap := .ramping } := by
  have served : (swapServed (exchanged s)).banks = (exchanged s).banks := by
    have rest := (swapDone_frame (exchanged s)).rest
    generalize swapServed (exchanged s) = u at rest
    generalize exchanged s = w at rest
    exact (congrArg State.banks rest :)
  rw [swapEffect_eq, retargeted_banks, served, exchanged, State.mapSrcs_banks]

theorem swapEffect_xpRamps (s : State) : (swapEffect s).xpRamps = swapRamps s.banks.opBank s.banks.editBank := by
  have served : (swapServed (exchanged s)).xpRamps = (exchanged s).xpRamps := by
    have rest := (swapDone_frame (exchanged s)).rest
    generalize swapServed (exchanged s) = u at rest
    generalize exchanged s = w at rest
    exact (congrArg State.xpRamps rest :)
  have noted : (swapEffect s).xpRamps = (swapServed (exchanged s)).xpRamps := by
    have rest := retargeted_rest (exchanged s) (swapServed (exchanged s))
    rw [swapEffect_eq]
    generalize swapServed (exchanged s) = u at rest
    generalize retargeted (exchanged s) u = w at rest
    exact (congrArg State.xpRamps rest :)
  rw [noted, served, exchanged, State.mapSrcs_xpRamps]

theorem swapEffect_params (s : State) : (swapEffect s).params = s.banks.editBank.params := by
  rw [State.params, swapEffect_banks]
  rfl

/-- The swap effect moves no field of a source but the creep count, the floor state and the gain. -/
theorem swapEffect_src (s : State) (i : SrcSlot) : (swapEffect s).srcs[i] = { s.srcs[i] with
    creep := (swapEffect s).srcs[i].creep, floorState := (swapEffect s).srcs[i].floorState
    gain := (swapEffect s).srcs[i].gain } := by
  rw [swapEffect_eq, retargeted_frame, swapServed_src]

theorem swapEffect_bank (s : State) (n : BankName) : (swapEffect s).banks.bank n = s.banks.bank n := by
  rw [swapEffect_banks]
  cases n <;> rfl

theorem swapEffect_all (s : State) : AllKept s (swapEffect s) := by
  have src (i : SrcSlot) := swapServed_src s i
  have whole (i : SrcSlot) := swapEffect_src s i
  have kept (i : SrcSlot) : SrcKept s.params (swapEffect s).params s.srcs[i] (swapEffect s).srcs[i] := by
    rw [swapEffect_params, swapEffect_eq]
    refine retargeted_kept _ ?_ (by rw [src])
    rw [(swapDone_frame _).srcs i, exchanged_src]
    exact srcKept_served (adjustCreep_kept _ _ _) _
  obtain ⟨feeds, mute, pods, ports⟩ := overlay_swapped (swapEffect_rest s)
  have bank (law : BankLaw s) : BankLaw (swapEffect s) := fun n => by rw [swapEffect_bank]; exact law n
  have membership (law : MembershipLaw s) : MembershipLaw (swapServed (exchanged s)) :=
    swapServed_membership (exchanged_membership law)
  have opened : (swapEffect s).banks.opBank = s.banks.editBank := by rw [swapEffect_banks]; rfl
  have former : (swapEffect s).banks.editBank = s.banks.opBank := by
    rw [swapEffect_banks]
    change s.banks.bank (otherBank (otherBank s.banks.operating)) = _
    rw [otherBank_otherBank]
    rfl
  refine ⟨⟨⟨fun law => ?attention, fun law i => (kept i).level (law i), fun law => ⟨fun i => (kept i).gain (law.1 i), ?_⟩,
    fun gain law => ⟨fun i => (kept i).ramp (gain.1 i).1 (law.1 i), ?_⟩,
    fun banks law i => (kept i).monitor (banks _).1 (bank banks _).1 (law i), fun law => ⟨fun i j => ?apart, ?_⟩,
    fun law => ?record, bank, fun banks _ f i r hr => ?xpRamp, fun law => ?window⟩, fun law => ?membership,
    fun banks law => ⟨?m, ?size, ?stamps⟩, fun before law => ?target, fun before law => ?hold⟩, fun law i => ?mute⟩
  case attention =>
    rw [swapEffect_eq]
    refine retargeted_attention _ ?_
    rw [AttentionLaw, (swapDone_frame _).notice, (overlay_exchanged (exchanged_rest s)).2.2.2.2.2]
    exact law
  case refine_1 => rw [feeds]; exact law.2
  case refine_2 => rw [feeds]; exact law.2
  case refine_3 => rw [feeds]; exact law.2
  case apart =>
    exact originsApart_of_same (fun i => by rw [whole i]) (fun i => by rw [whole i]) law.1 i j
  case record => rw [RecordLaw, pods, ports, feeds]; exact law
  case xpRamp =>
    rw [swapEffect_xpRamps, swapRamps_at] at hr
    split at hr
    next => cases hr
    next differ =>
      cases Option.some.inj hr
      refine ⟨by rw [swapEffect_banks], ⟨(banks _).2 f i, by rw [former]⟩, ⟨(banks _).2 f i, by rw [opened]⟩, differ,
        ⟨rampDuration_mem _, rfl⟩, Nat.zero_le _⟩
  case window => rw [WindowLaw, swapEffect_banks]; exact law
  case membership => rw [swapEffect_eq]; exact retargeted_membership _ (membership law)
  case m => rw [swapEffect_eq]; exact retargeted_membership _ (membership law.membership)
  case size =>
    have size := swapServed_size (exchanged_membership law.membership).places
    rwa [swapEffect_params, swapEffect_eq, retargeted_floor, ← exchanged_params]
  case stamps =>
    have stamps := swapServed_stamps (exchanged_membership law.membership).places
      (by rw [exchanged_params]; exact (banks _).1.admitBurst.1)
    rwa [swapEffect_params, swapEffect_eq, retargeted_floor, ← exchanged_params]
  case target =>
    rw [swapEffect_eq]
    exact retargeted_target _ (fun i => by rw [src]) (fun i => by rw [src]) (fun i => by rw [src]) (fun i => by rw [src])
      (fun i => by rw [src]) before (membership before) law
  case hold =>
    rw [swapEffect_eq]
    refine retargeted_hold _ (swapServed_holdLaw (exchanged_membership before) fun i c hc => ?_)
    rw [exchanged_frame] at hc
    exact (law i c hc).1
  case mute =>
    rw [whole i, mute, pods]
    generalize (swapEffect s).srcs[i] = y
    exact law i

/-! ### The resets (R197 to R199) -/

/-- Every slot FREE, the floor empty, the Bank Store at its defaults, no ramp. -/
structure Blank (t : State) : Prop where
  srcs : ∀ i : SrcSlot, t.srcs[i] = .free
  feeds : ∀ f : FeedSlot, t.feeds[f] = .free 0
  list : t.floor.list = []
  chairs : t.floor.chairs = []
  delegates : t.floor.delegates = []
  stamps : t.floor.stamps = []
  banks : t.banks = .reset
  xpRamps : ∀ (f : FeedSlot) (i : SrcSlot), t.xpRamps[f][i] = none

theorem paramsLaw_default : ParamsLaw .default := by constructor <;> decide

namespace Blank

variable (h : Blank t)
include h

theorem level : LevelLaw t := fun i => by rw [h.srcs]; exact ⟨le_rfl, Nat.zero_le _⟩

theorem gain : GainLaw t :=
  ⟨fun i => by rw [h.srcs]; exact ⟨.free, by decide, by decide⟩, fun f => by rw [h.feeds]; exact ⟨.free, .off⟩⟩

theorem ramp : RampLaw t := ⟨fun i => by rw [h.srcs]; exact .free, fun f => by rw [h.feeds]; exact .free⟩

theorem monitor : MonitorLaw t := fun i => by
  rw [h.srcs, params_of_banks (s := { State.reset with banks := .reset }) h.banks]
  exact ⟨by decide, Nat.zero_le _, fun _ => Nat.zero_lt_succ _, rfl⟩

theorem binding : BindingLaw t := by
  refine ⟨fun i j use => ?_, fun f g use => ?_⟩
  · rw [h.srcs] at use; cases use
  · rw [h.feeds] at use; cases use

theorem bank : BankLaw t := fun n => by
  have default : t.banks.bank n = .default := by rw [h.banks]; cases n <;> rfl
  rw [default]
  refine ⟨paramsLaw_default, fun f i => ?_⟩
  have off_at : (Bank.default.xp)[f][i] = off := by simp [Bank.default, Matrix.const]
  rw [off_at]
  exact .off

theorem xpRamp : XpRampLaw t := fun f i r hr => by rw [h.xpRamps] at hr; cases hr

theorem window : WindowLaw t := by
  rw [WindowLaw, h.banks]
  exact ⟨by decide, by decide, Walk.walk_length_pos (w := Window.default) (by decide) (by decide)⟩

theorem membership : MembershipLaw t := by
  constructor
  case once => rw [h.list, h.chairs, h.delegates]; exact ⟨.nil, .nil, .nil⟩
  all_goals
    intro i
    simp only [h.srcs, h.list, h.chairs, h.delegates]
  case list | chairs | delegates => exact ⟨nofun, fun inside => nomatch inside.1⟩
  case unmuted => exact fun _ => rfl
  case free => exact fun _ => rfl
  all_goals exact nofun

theorem floor : FloorLaw t :=
  ⟨h.membership, by rw [h.list]; exact Nat.zero_le _, by rw [h.stamps]; exact Nat.zero_le _⟩

theorem target : TargetLaw t := fun i => by rw [h.srcs]; exact (composeTarget_inactive rfl).symm

theorem hold : HoldLaw t := fun i c hc => by rw [h.srcs] at hc; cases hc

theorem mute : MuteLaw t := fun i => by rw [h.srcs]; exact muteOk_free t

theorem all (attention : AttentionLaw t) (pods : ∀ l : PodLink, PodRecordLaw s.pods[l] → PodRecordLaw t.pods[l])
    (ports : ∀ p : FarPort, PortRecordLaw s.ports[p] → PortRecordLaw t.ports[p]) : AllKept s t where
  attention _ := attention
  level _ := h.level
  gain _ := h.gain
  ramp _ _ := h.ramp
  monitor _ _ := h.monitor
  binding _ := h.binding
  record law := ⟨fun l => pods l (law.1 l), fun p => ports p (law.2.1 p), fun f => by rw [h.feeds]; exact Nat.zero_le _⟩
  bank _ := h.bank
  xpRamp _ _ := h.xpRamp
  window _ := h.window
  membership _ := h.membership
  floor _ _ := h.floor
  target _ _ := h.target
  hold _ _ := h.hold
  mute _ := h.mute

end Blank

theorem matrix_const_at {α : Type} (x : α) (f : FeedSlot) (i : SrcSlot) : (Matrix.const x)[f][i] = x := by
  simp [Matrix.const]

theorem reset_blank : Blank State.reset :=
  ⟨fun i => Vector.getElem_replicate i.isLt, fun f => Vector.getElem_replicate f.isLt, rfl, rfl, rfl, rfl, rfl,
    matrix_const_at none⟩

theorem podRecordLaw_reset : PodRecordLaw .reset := by constructor <;> decide

theorem portRecordLaw_reset : PortRecordLaw .reset := by constructor <;> decide

theorem attentionLaw_reset (h : t.notice = .reset) : AttentionLaw t := by
  rw [AttentionLaw, h]
  exact ⟨nofun, fun ⟨k, hk, _⟩ => by cases k <;> cases hk⟩

theorem powerOn_all (s : State) :
    AllKept s { State.reset with auxOut := s.auxOut, freeCount := s.freeCount, pending := s.pending } := by
  have blank := reset_blank
  refine Blank.all ⟨blank.srcs, blank.feeds, rfl, rfl, rfl, rfl, rfl, blank.xpRamps⟩ (attentionLaw_reset rfl)
    (fun l _ => ?_) (fun p _ => ?_)
  · have at_reset : State.reset.pods[l] = .reset := Vector.getElem_replicate l.isLt
    change PodRecordLaw State.reset.pods[l]
    rw [at_reset]
    exact podRecordLaw_reset
  · have at_reset : State.reset.ports[p] = .reset := Vector.getElem_replicate p.isLt
    change PortRecordLaw State.reset.ports[p]
    rw [at_reset]
    exact portRecordLaw_reset

theorem engineReset_port (s : State) (p : FarPort) : (engineReset s).ports[p] = s.ports[p].engineReset := by
  have h : (cutBlock s).ports = s.ports := by
    unfold cutBlock
    split <;> rfl
  simp [engineReset, resetRecords, h]

theorem engineReset_blank (s : State) : Blank (engineReset s) :=
  ⟨fun i => Vector.getElem_replicate i.isLt, fun f => Vector.getElem_replicate f.isLt, rfl, rfl, rfl, rfl, rfl,
    matrix_const_at none⟩

theorem engineReset_all (s : State) : AllKept s (engineReset s) :=
  (engineReset_blank s).all (attentionLaw_reset rfl) (fun l law => by rw [engineReset_pod]; exact podReset_law law)
    fun p law => by rw [engineReset_port]; exact portReset_law law

end Sys2Proof.Machine
end

section
/-! The mutes derived again (R38, R39): which effective mutes they leave, which sources they hand to the floor, and that
they keep the laws. -/

namespace Sys2Proof.Machine

variable {s t u : State} {i j : SrcSlot} {affected : SrcSlot → Bool}

/-! ### The changes and what is written of them -/

theorem mem_muteChanges : i ∈ muteChanges affected s ↔
    affected i = true ∧ s.srcs[i].inUse = true ∧ deriveMute s.mute s.srcs[i] ≠ s.srcs[i].effMute := by
  simp only [muteChanges, srcSlots, List.mem_filter, List.mem_finRange, true_and, Bool.and_eq_true, bne_iff_ne, and_assoc]

theorem muteChanges_nodup (affected : SrcSlot → Bool) (s : State) : (muteChanges affected s).Nodup :=
  (List.nodup_finRange 80).filter _

theorem mutesWritten_src (s : State) (changed : List SrcSlot) (i : SrcSlot) : (mutesWritten s changed).srcs[i] =
    if i ∈ changed then setMute (deriveMute s.mute s.srcs[i]) s.srcs[i] else s.srcs[i] := by
  simp only [mutesWritten, State.mapSrcs_at, List.contains_eq_mem, decide_eq_true_eq]

theorem mutesWritten_written (s : State) (changed : List SrcSlot) : Written s (mutesWritten s changed) where
  rest := by simp only [mutesWritten, State.mapSrcs]
  attention law := by
    have same : (mutesWritten s changed).notice = s.notice := State.mapSrcs_notice _ _
    rw [AttentionLaw, same]
    exact law
  frame i := by
    rw [mutesWritten_src]
    split <;> rfl
  kept i := by
    rw [mutesWritten_src]
    split
    · cases deriveMute s.mute s.srcs[i]
      · exact ⟨id, id, fun _ => id, fun _ _ ⟨creep, _, _, rose⟩ =>
          ⟨creep, Nat.zero_le _, fun _ => Nat.zero_lt_succ _, rose⟩⟩
      · exact ⟨id, id, fun _ => id, fun _ _ ok => ok⟩
    · exact .refl _ _

/-- The ACTIVE sources of the floor among the changed, in the free order in which they are handed on (R39, R71). -/
def handedOrder (affected : SrcSlot → Bool) (s : State) : List SrcSlot :=
  inFreeOrder s.freeCount ((muteChanges affected s).filter fun i => s.srcs[i].isActive && s.srcs[i].floorClass)

theorem mem_handedOrder : i ∈ handedOrder affected s ↔ i ∈ muteChanges affected s ∧ OfFloor s i := by
  rw [handedOrder, (inFreeOrder_perm _ _).mem_iff, List.mem_filter, Bool.and_eq_true, OfFloor]

/-- The floor once every change has been handed to it. -/
def mutesHanded (affected : SrcSlot → Bool) (s : State) : State × Bool :=
  (handedOrder affected s).foldl handToFloor (mutesWritten s (muteChanges affected s), false)

/-- The floor once the pending service behind the changes has been made (R69). -/
def mutesServed (affected : SrcSlot → Bool) (s : State) : State :=
  serviceIf (mutesHanded affected s).2 (mutesHanded affected s).1

theorem deriveMutes_nil (h : muteChanges affected s = []) : deriveMutes affected s = s := by
  rw [deriveMutes, h]

theorem deriveMutes_eq (h : muteChanges affected s ≠ []) :
    deriveMutes affected s = finishEvent s { mutesServed affected s with freeCount := s.freeCount + 1 } := by
  unfold deriveMutes
  split
  next none_changed => exact absurd none_changed h
  next => rfl

theorem mutesServed_frame (affected : SrcSlot → Bool) (s : State) :
    FloorFrame (mutesWritten s (muteChanges affected s)) (mutesServed affected s) :=
  (handAllToFloor_frame _ (mutesWritten s (muteChanges affected s), false)).trans (serviceIf_frame _ _)

/-! ### The floor's part -/

theorem OfFloor.of_same (h : OfFloor s i) (state : t.srcs[i].state = s.srcs[i].state)
    (cls : t.srcs[i].cls = s.srcs[i].cls) : OfFloor t i := by
  rw [OfFloor, Source.isActive, Source.floorClass, state, cls]
  exact h

/-- Each changed source of the floor is handed on once, and stands outside it when it has been unmuted. -/
theorem handedOrder_handed (law : MembershipLaw s) :
    Handed (handedOrder affected s) (mutesWritten s (muteChanges affected s)) where
  once := (inFreeOrder_perm _ _).nodup_iff.mpr ((muteChanges_nodup affected s).filter _)
  ofFloor i hi := by
    obtain ⟨-, ofFloor⟩ := mem_handedOrder.mp hi
    have frame := (mutesWritten_written s (muteChanges affected s)).frame i
    exact ofFloor.of_same (by rw [frame]) (by rw [frame])
  outside i hi unmuted inside := by
    obtain ⟨changed, -⟩ := mem_handedOrder.mp hi
    obtain ⟨-, -, differs⟩ := mem_muteChanges.mp changed
    rw [mutesWritten_src, if_pos changed] at unmuted
    rw [Inside, (mutesWritten_written s _).floor] at inside
    exact differs (Eq.trans unmuted (law.unmuted i inside).symm)

/-- What handing the changes to the floor makes of it: the muted are gone, the unmuted and VOICED are called to it, and no
other source enters or leaves. -/
theorem mutesServed_work (law : MembershipLaw s) :
    FloorWork (fun j => j ∈ handedOrder affected s ∧ Attempts (mutesWritten s (muteChanges affected s)) j)
        (fun j => j ∈ handedOrder affected s ∧ (mutesWritten s (muteChanges affected s)).srcs[j].effMute = true)
        (mutesWritten s (muteChanges affected s)) (mutesServed affected s) ∧
      ∀ j ∈ handedOrder affected s,
        ((mutesWritten s (muteChanges affected s)).srcs[j].effMute = true → ¬ Inside (mutesServed affected s) j) ∧
        (Attempts (mutesWritten s (muteChanges affected s)) j → Called (mutesServed affected s) j) := by
  have places := (mutesWritten_written s (muteChanges affected s)).places law.places
  obtain ⟨work, each⟩ := handAll_work places (handedOrder_handed (affected := affected) law) false
  have served := serviceIf_work (mutesHanded affected s).2 work.places
  refine ⟨work.trans served.widen, fun j hj => ⟨fun muted inside => ?_, fun attempts => ?_⟩⟩
  · exact (served.inside j inside).elim ((each j hj).1 muted) id
  · exact (served.called j ((each j hj).2 attempts)).resolve_right id

theorem mutesServed_membership (law : MembershipLaw s) : MembershipLaw (mutesServed affected s) := by
  obtain ⟨work, each⟩ := mutesServed_work (affected := affected) law
  have written := mutesWritten_written s (muteChanges affected s)
  refine membershipLaw_iff.mpr ⟨work.places, fun i inside => ?_⟩
  have mute : (mutesServed affected s).srcs[i].effMute = (mutesWritten s (muteChanges affected s)).srcs[i].effMute := by
    rw [work.frame.srcs i]
  rw [mute]
  obtain before | ⟨-, attempts⟩ := work.inside i inside
  case inr => exact attempts.1
  rw [Inside, written.floor] at before
  by_contra muted
  have muted := Bool.not_eq_false _ ▸ muted
  by_cases changed : i ∈ muteChanges affected s
  · exact (each i (mem_handedOrder.mpr ⟨changed, law.places.ofFloor_of_inside before⟩)).1 muted inside
  · rw [mutesWritten_src, if_neg changed, law.unmuted i before] at muted
    cases muted

theorem mutesServed_handled (affected : SrcSlot → Bool) (s : State) (n : Nat) :
    Handled s { mutesServed affected s with freeCount := n } :=
  (mutesWritten_written s _).handled (mutesServed_frame affected s) n fun law =>
    have work := (mutesServed_work (affected := affected) law).1
    ⟨mutesServed_membership law, work.size, work.stamps, FloorWork.holdLaw work.toFloorMoves⟩

theorem deriveMutes_laws (affected : SrcSlot → Bool) (s : State) : LawsKept s (deriveMutes affected s) := by
  by_cases h : muteChanges affected s = []
  · rw [deriveMutes_nil h]; exact (AllKept.refl s).toLawsKept
  · rw [deriveMutes_eq h]; exact (mutesServed_handled affected s _).change.laws

/-! ### The mutes afterwards -/

theorem deriveMutes_effMute (affected : SrcSlot → Bool) (s : State) (i : SrcSlot) :
    (deriveMutes affected s).srcs[i].effMute =
      if i ∈ muteChanges affected s then deriveMute s.mute s.srcs[i] else s.srcs[i].effMute := by
  by_cases h : muteChanges affected s = []
  · rw [deriveMutes_nil h, h, if_neg List.not_mem_nil]
  · have served : (mutesServed affected s).srcs[i].effMute = (mutesWritten s (muteChanges affected s)).srcs[i].effMute := by
      rw [(mutesServed_frame affected s).srcs i]
    rw [deriveMutes_eq h, finishEvent_src_frame]
    dsimp only
    rw [served, mutesWritten_src]
    split <;> rfl

/-- What a derivation starts from: the mutes of the sources it does not reach are already derived. -/
def MutesDue (affected : SrcSlot → Bool) (s : State) : Prop := ∀ i : SrcSlot,
  (s.srcs[i].inUse = true → affected i = false → s.srcs[i].effMute = deriveMute s.mute s.srcs[i]) ∧
    (s.srcs[i].inUse = false → s.srcs[i].effMute = false) ∧
    (s.srcs[i].inUse = true → ∀ l e, s.srcs[i].origin = some (.pod l e) → s.srcs[i].privacy = s.pods[l].privacy)

theorem deriveMutes_shares (affected : SrcSlot → Bool) (s : State) :
    (deriveMutes affected s).mute = s.mute ∧ (deriveMutes affected s).pods = s.pods := by
  have rest := deriveMutes_rest s affected
  generalize deriveMutes affected s = v at rest
  exact ⟨(congrArg State.mute rest :), (congrArg State.pods rest :)⟩

theorem deriveMute_congr (m : MuteUnit) {x y : Source} (userMute : y.userMute = x.userMute)
    (privacy : y.privacy = x.privacy) (groups : y.groups = x.groups) (cls : y.cls = x.cls) :
    deriveMute m y = deriveMute m x := by
  rw [deriveMute, deriveMute, Source.isDelegate, Source.isDelegate, userMute, privacy, groups, cls]

theorem deriveMutes_muteLaw (due : MutesDue affected s) : MuteLaw (deriveMutes affected s) := fun i => by
  obtain ⟨derived, free, mirrored⟩ := due i
  obtain ⟨mute, pods⟩ := deriveMutes_shares affected s
  have effMute := deriveMutes_effMute affected s i
  have frame := deriveMutes_src s affected i
  have use : (deriveMutes affected s).srcs[i].inUse = s.srcs[i].inUse := inUse_of_state (by rw [frame])
  have origin : (deriveMutes affected s).srcs[i].origin = s.srcs[i].origin := by rw [frame]
  have privacy : (deriveMutes affected s).srcs[i].privacy = s.srcs[i].privacy := by rw [frame]
  have again : deriveMute (deriveMutes affected s).mute (deriveMutes affected s).srcs[i] = deriveMute s.mute s.srcs[i] := by
    rw [mute]
    exact deriveMute_congr _ (by rw [frame]) privacy (by rw [frame]) (by rw [frame])
  rw [use, effMute, again, origin, privacy, pods]
  refine ⟨fun used => ?_, fun unused => ?_, mirrored⟩
  · split
    next => rfl
    next same =>
      cases reached : affected i with
      | false => exact derived used reached
      | true => exact (by_contra fun differs => same (mem_muteChanges.mpr ⟨reached, used, Ne.symm differs⟩))
  · have unchanged : i ∉ muteChanges affected s := fun m => by
      rw [(mem_muteChanges.mp m).2.1] at unused
      cases unused
    rw [if_neg unchanged]
    exact free unused

/-- Inputs of the mutes changed and the mutes derived again. -/
theorem intake_all (inputs : Calm s t) (due : MuteLaw s → MutesDue affected t) :
    AllKept s (deriveMutes affected t) :=
  ⟨inputs.kept.trans (deriveMutes_laws affected t), fun law => deriveMutes_muteLaw (due law)⟩

theorem calmSrc_inputs (p : Params) (x : Source) (g : Groups) (m v : Bool) :
    CalmSrc p x { x with groups := g, userMute := m, privacy := v } :=
  ⟨⟨id, id, fun _ => id, fun _ _ => id⟩, rfl, rfl⟩

/-! ### SRC.MUTE, SRC.GROUPS, GRP.MUTE and ROOM.MUTE (R15, R41, R44, R45) -/

/-- One source's inputs changed, its mute derived again. -/
theorem srcInputs_all (g : Groups) (m : Bool) :
    AllKept s (deriveMutes (· == i) (s.setSrc i { s.srcs[i] with groups := g, userMute := m })) := by
  refine intake_all { (Quiet.refl s).toCalm with srcs := fun j => ?srcs, xpRamp := fun _ => xpRampLaw_of_same rfl rfl }
    fun law j => ?due
  case srcs =>
    rw [setSrc_at]
    split
    next e => subst e; exact calmSrc_inputs _ _ _ _ _
    next => exact (QuietSrc.refl _ _).toCalmSrc
  case due =>
    obtain ⟨derived, free, mirrored⟩ := law j
    rw [setSrc_at]
    split
    next e =>
      subst e
      exact ⟨fun _ other => absurd ((beq_self_eq_true j).symm.trans other) nofun, free, mirrored⟩
    next => exact ⟨fun use _ => derived use, free, mirrored⟩

/-- The room mute or the group mutes changed, the mutes derived again of those sources that can read the change. -/
theorem muteUnit_all {m : MuteUnit}
    (unread : ∀ i : SrcSlot, affected i = false → deriveMute m s.srcs[i] = deriveMute s.mute s.srcs[i]) :
    AllKept s (deriveMutes affected { s with mute := m }) :=
  intake_all { (Quiet.refl s).toCalm with xpRamp := fun _ => xpRampLaw_of_same rfl rfl } fun law i =>
    have ⟨derived, free, mirrored⟩ := law i
    ⟨fun use other => (derived use).trans (unread i other).symm, free, mirrored⟩

theorem setGroup_getLsbD (g : Groups) (i : Fin 16) (on : Bool) (k : Nat) (hk : k < 16) :
    (setGroup g i on).getLsbD k = if k = i.val then on else g.getLsbD k := by
  unfold setGroup
  cases on <;> by_cases e : k = i.val <;> simp [e, hk, i.isLt]

/-- A source in no group of another bit pattern reads no change of one group's mute. -/
theorem and_setGroup {x g : Groups} {i : Fin 16} {on : Bool} (h : x.getLsbD i.val = false) :
    x &&& setGroup g i on = x &&& g := by
  apply BitVec.eq_of_getLsbD_eq
  intro k hk
  rw [BitVec.getLsbD_and, BitVec.getLsbD_and, setGroup_getLsbD g i on k hk]
  split
  next e => rw [e, h, Bool.false_and, Bool.false_and]
  next => rfl

theorem grpMute_all (g : Fin 16) (on : Bool) : AllKept s (deriveMutes (fun i => s.srcs[i].groups.getLsbD g.val)
    { s with mute := { s.mute with groups := setGroup s.mute.groups g on } }) :=
  muteUnit_all fun i other => by
    unfold deriveMute
    dsimp only
    rw [and_setGroup other]

theorem roomMute_all (on : Bool) :
    AllKept s (deriveMutes (fun i => s.srcs[i].isDelegate) { s with mute := { s.mute with room := on } }) :=
  muteUnit_all fun i other => by
    unfold deriveMute
    dsimp only
    rw [other, Bool.and_false, Bool.and_false]

/-! ### A pod frame's buttons and privacy (R42, R46, R48, R49) -/

/-- The sources' inputs as a frame leaves them, and the room mute and held privacy with them, before any mute is derived. -/
def frameInputs (l : PodLink) (mutePress chairPress privacy : Bool) (s : State) : State :=
  let mutes := mutePressActs s l mutePress
  let value := mutePressValue s l
  let chairs := chairPressActs s l chairPress
  let changes := privacy != s.pods[l].privacy
  let s1 := s.mapSrcs fun _ x =>
    if x.onPod l then
      { x with
        userMute := if mutes && x.isActive then value else x.userMute
        privacy := if changes && x.inUse then privacy else x.privacy }
    else x
  let s2 := { s1 with mute := { s1.mute with room := if chairs then !s1.mute.room else s1.mute.room } }
  let s3 := s2.setPod l { s2.pods[l] with privacy := privacy }
  (s3.addNoticeIf (mutes || chairs) .button).addNoticeIf changes .privacy

/-- Which sources' mutes a frame can change. -/
def frameAffects (l : PodLink) (mutePress chairPress privacy : Bool) (s : State) (i : SrcSlot) : Bool :=
  s.srcs[i].onPod l && (privacy != s.pods[l].privacy || mutePressActs s l mutePress && s.srcs[i].isActive &&
      s.srcs[i].userMute != mutePressValue s l)
    || chairPressActs s l chairPress && s.srcs[i].isDelegate

section frame

variable (l : PodLink) (mp cp pv : Bool) (s : State)

theorem frameIntake_eq : frameIntake l mp cp pv s = deriveMutes (frameAffects l mp cp pv s) (frameInputs l mp cp pv s) := rfl

theorem frameInputs_src (i : SrcSlot) : (frameInputs l mp cp pv s).srcs[i] = { s.srcs[i] with
    userMute := if s.srcs[i].onPod l && (mutePressActs s l mp && s.srcs[i].isActive) then mutePressValue s l
      else s.srcs[i].userMute
    privacy := if s.srcs[i].onPod l && ((pv != s.pods[l].privacy) && s.srcs[i].inUse) then pv
      else s.srcs[i].privacy } := by
  simp only [frameInputs, State.addNoticeIf_srcs, State.setPod_srcs, State.mapSrcs_at]
  split
  next h => simp only [h, Bool.true_and]
  next h => simp only [Bool.not_eq_true] at h; simp only [h, Bool.false_and, Bool.false_eq_true, if_false]

theorem frameInputs_mute : (frameInputs l mp cp pv s).mute = { s.mute with
    room := if chairPressActs s l cp then !s.mute.room else s.mute.room } := by
  simp only [frameInputs, State.addNoticeIf_mute, State.setPod_mute, State.mapSrcs_mute]

theorem frameInputs_pod (m : PodLink) : (frameInputs l mp cp pv s).pods[m] =
    if m = l then { s.pods[l] with privacy := pv } else s.pods[m] := by
  simp only [frameInputs, State.addNoticeIf_pods, State.mapSrcs_pods, State.setPod_pods]
  by_cases h : m = l
  · subst h
    simp
  · have : l.val ≠ m.val := fun e => h (Fin.ext e.symm)
    simp [this, h]

theorem frameInputs_rest : { frameInputs l mp cp pv s with
    srcs := s.srcs, mute := s.mute, pods := s.pods, notice := s.notice } = s := by
  simp only [frameInputs, State.addNoticeIf, State.addNotice, State.setPod, State.mapSrcs]
  split <;> split <;> rfl

theorem frameInputs_attention (law : AttentionLaw s) : AttentionLaw (frameInputs l mp cp pv s) := by
  refine addNoticeIf_attention (addNoticeIf_attention ?_ _ _) _ _
  rw [AttentionLaw, State.setPod_notice]
  simp only [State.mapSrcs_notice]
  exact law

/-- Inputs changed and nothing else is calm. -/
theorem calm_of_inputs {s t : State}
    (rest : { t with srcs := s.srcs, mute := s.mute, pods := s.pods, notice := s.notice } = s)
    (attention : AttentionLaw s → AttentionLaw t)
    (srcs : ∀ i : SrcSlot, ∃ g m v, t.srcs[i] = { s.srcs[i] with groups := g, userMute := m, privacy := v })
    (pods : ∀ l : PodLink, PodRecordLaw s.pods[l] → PodRecordLaw t.pods[l]) : Calm s t where
  attention := attention
  srcs i := by
    obtain ⟨g, m, v, e⟩ := srcs i
    rw [e]
    exact calmSrc_inputs _ _ _ _ _
  feeds := by
    have e : t.feeds = s.feeds := (congrArg State.feeds rest :)
    rw [e]
    exact .refl _
  floor := by
    have e : t.floor = s.floor := (congrArg State.floor rest :)
    rw [e]
  pods := pods
  ports p := by
    have e : t.ports = s.ports := (congrArg State.ports rest :)
    rw [e]
    exact id
  params := params_of_banks (congrArg State.banks rest :)
  bank := bankLaw_of_same (congrArg State.banks rest :)
  window := windowLaw_of_same (congrArg State.banks rest :)
  xpRamp _ := xpRampLaw_of_same (congrArg State.banks rest :) (congrArg State.xpRamps rest :)

theorem podRecordLaw_privacy {p : Pod} (law : PodRecordLaw p) (v : Bool) : PodRecordLaw { p with privacy := v } :=
  ⟨law.goodRun, law.badRun, law.depth, law.elements, law.presync, law.holding, law.counters⟩

theorem frameInputs_calm : Calm s (frameInputs l mp cp pv s) :=
  calm_of_inputs (frameInputs_rest l mp cp pv s) (frameInputs_attention l mp cp pv s)
    (fun i => ⟨_, _, _, frameInputs_src l mp cp pv s i⟩) fun m law => by
      rw [frameInputs_pod]
      split
      next e => rw [← e]; exact podRecordLaw_privacy law pv
      next => exact law

theorem frameInputs_due {s : State} (law : MuteLaw s) :
    MutesDue (frameAffects l mp cp pv s) (frameInputs l mp cp pv s) := fun i => by
  obtain ⟨derived, free, mirrored⟩ := law i
  have src := frameInputs_src l mp cp pv s i
  have use : (frameInputs l mp cp pv s).srcs[i].inUse = s.srcs[i].inUse := inUse_of_state (by rw [src])
  have effMute : (frameInputs l mp cp pv s).srcs[i].effMute = s.srcs[i].effMute := by rw [src]
  have origin : (frameInputs l mp cp pv s).srcs[i].origin = s.srcs[i].origin := by rw [src]
  rw [use, effMute, origin]
  refine ⟨fun used other => ?derived, free, fun used m e from_pod => ?mirrored⟩
  case derived =>
    simp only [frameAffects, Bool.or_eq_false_iff, Bool.and_eq_false_iff, bne_eq_false_iff_eq] at other
    obtain ⟨pod, chair⟩ := other
    rw [derived used, src, frameInputs_mute]
    unfold deriveMute Source.isDelegate
    dsimp only
    have userMute : (if s.srcs[i].onPod l && (mutePressActs s l mp && s.srcs[i].isActive) then mutePressValue s l
        else s.srcs[i].userMute) = s.srcs[i].userMute := by
      split
      next h =>
        simp only [Bool.and_eq_true] at h
        obtain ⟨onPod, acts, active⟩ := h
        simp_all
      next => rfl
    have privacy : (if s.srcs[i].onPod l && ((pv != s.pods[l].privacy) && s.srcs[i].inUse) then pv
        else s.srcs[i].privacy) = s.srcs[i].privacy := by
      split
      next h =>
        simp only [Bool.and_eq_true, bne_iff_ne] at h
        obtain ⟨onPod, differs, -⟩ := h
        simp_all
      next => rfl
    rw [userMute, privacy]
    congr 1
    obtain noChair | noDelegate := chair
    · rw [noChair]; rfl
    · rw [Source.isDelegate] at noDelegate
      rw [noDelegate, Bool.and_false, Bool.and_false]
  case mirrored =>
    rw [frameInputs_pod, src]
    dsimp only
    have held := mirrored used m e from_pod
    have onPod : s.srcs[i].onPod l = decide (m = l) := by
      rw [Source.onPod, from_pod]
      rfl
    rw [onPod]
    by_cases same : m = l
    · subst same
      rw [if_pos rfl]
      by_cases differs : pv = s.pods[m].privacy <;> simp [differs, used, held, -Fin.getElem_fin]
    · rw [if_neg same]
      simp [same, held, -Fin.getElem_fin]

theorem frameIntake_all : AllKept s (frameIntake l mp cp pv s) := by
  rw [frameIntake_eq]
  exact intake_all (frameInputs_calm l mp cp pv s) (frameInputs_due l mp cp pv)

end frame

end Sys2Proof.Machine
end

section
/-! What every command and event keeps of the laws, put together from what its operations keep, and the settling of O55 to
O60. -/

namespace Sys2Proof.Machine

variable {s t u v : State} {i j : SrcSlot} {r : Reply}

/-! ### Packets (R182 to R191) -/

theorem quiet_ctl (c : ControlLink) : Quiet s { s with ctl := c } := Aside.quiet { attention := id }

theorem openPacket_quiet (s : State) : Quiet s (openPacket s) := by
  refine Aside.quiet ⟨fun law => ?_, by simp, by simp, by simp, by simp, by simp, by simp, by simp, by simp⟩
  unfold openPacket
  split
  · exact law
  · exact withSet_attention _ _
  · exact law
  · exact law

theorem owe_quiet (code : Byte) (wanted : Bool) (r : Reply) (s : State) : Quiet s (owe code wanted r s) := by
  unfold owe
  split
  · exact quiet_ctl _
  · exact quiet_ctl _

/-- The laws are kept by whatever a command's own checks and effect leave. -/
def TakenKept (s : State) (k : Taken) : Prop := ∀ r v, k = .taken r v → AllKept s v

theorem takenKept_refused {k : ErrKind} : TakenKept s (.refused k) := fun _ _ => nofun

theorem takenKept_taken (h : AllKept s v) : TakenKept s (.taken r v) := fun _ _ e => by cases e; exact h

theorem settle_all {k : Taken} (code : Byte) (wanted : Bool) (h : TakenKept s k) : AllKept s (settle code wanted s k) := by
  cases k with
  | refused k => exact (quiet_ctl _).kept.trans (owe_quiet code wanted .plain (s.addError k)).kept
  | taken r v => exact (h r v rfl).trans (owe_quiet code wanted r v).kept

theorem hostPacket_all (code : Byte) {take : State → Taken} (h : ∀ u, TakenKept u (take u)) (s : State) :
    AllKept s (hostPacket code take s) := by
  unfold hostPacket
  split
  · exact .refl s
  · exact (openPacket_quiet s).kept.trans (settle_all code false (h _))

/-! ### The commands of sources (chapters 1 and 3) -/

theorem activeSrc_ok {slot : Byte} (h : activeSrc slot s = .ok i) : s.srcs[i].isActive = true := by
  unfold activeSrc at h
  split at h
  · cases h
  · split at h
    · cases h
    · cases h
    · cases h
      exact isActive_iff.mpr ‹_›

theorem takeSrcAttach_all (slot : Byte) (chair : Bool) (origin : BitVec 7) (trim : Word) (groups : Groups) (s : State) :
    TakenKept s (takeSrcAttach slot chair origin trim groups s) := by
  unfold takeSrcAttach
  split
  next i o _ _ =>
    split
    next => exact takenKept_refused
    next c _ =>
      split
      next => exact takenKept_refused
      next free =>
        split
        next => exact takenKept_refused
        next unheld => exact takenKept_taken (attach_all (Bool.not_eq_true _ ▸ free) (Bool.not_eq_true _ ▸ unheld))
  next => exact takenKept_refused

/-- The removal of one source with the service that follows (R69). -/
theorem removal_event (law : MembershipLaw s) (i : SrcSlot) :
    FloorEvent s (serviceIf (removeSource i s).2 (removeSource i s).1) := by
  have removed := (removeSource_work law.places i).event law (fun _ => False.elim)
  exact removed.trans (serviceIf_event _ removed.membership)

theorem removal_outside (law : MembershipLaw s) (i : SrcSlot) :
    ¬ Inside (serviceIf (removeSource i s).2 (removeSource i s).1) i := fun inside => by
  have removed := removeSource_work law.places i
  exact ((serviceIf_work _ removed.places).inside i inside).elim (removeSource_outside law.places i) id

theorem takeSrcRetire_all (slot : Byte) (s : State) : TakenKept s (takeSrcRetire slot s) := by
  unfold takeSrcRetire
  split
  next => exact takenKept_refused
  next i found =>
    have frame := (removeSource_frame i s).trans (serviceIf_frame (removeSource i s).2 _)
    have event := floorEvent_all frame fun law => removal_event law i
    have active : (finishEvent s (serviceIf (removeSource i s).2 (removeSource i s).1)).srcs[i].isActive = true := by
      rw [isActive_iff, finishEvent_src_frame, frame.srcs i]
      exact isActive_iff.mp (activeSrc_ok found)
    refine takenKept_taken (AllKept.of_lawful (event.toPlainKept.trans (retireSource_plain active))
      (fun law => retireSource_muteLaw active (event.mute law))
      fun law => event.trans (retireSource_all active fun _ inside => ?_))
    rw [Inside, finishEvent_floor] at inside
    exact removal_outside law i inside

theorem takeSrcTrim_all (slot trim : Byte) (s : State) : TakenKept s (takeSrcTrim slot trim s) := by
  unfold takeSrcTrim
  split
  · exact takenKept_refused
  · exact takenKept_taken (trim_all _)

theorem takeSrcGroups_all (slot : Byte) (groups : Groups) (s : State) : TakenKept s (takeSrcGroups slot groups s) := by
  unfold takeSrcGroups
  split
  · exact takenKept_refused
  · exact takenKept_taken (srcInputs_all groups _)

theorem takeSrcMute_all (slot : Byte) (on : Bool) (s : State) : TakenKept s (takeSrcMute slot on s) := by
  unfold takeSrcMute
  split
  · exact takenKept_refused
  · exact takenKept_taken (srcInputs_all _ on)

theorem takeGrpMute_all (group : Byte) (on : Bool) (s : State) : TakenKept s (takeGrpMute group on s) := by
  unfold takeGrpMute
  split
  · exact takenKept_refused
  · split
    · exact takenKept_taken (.refl s)
    · exact takenKept_taken (grpMute_all _ on)

theorem takeRoomMute_all (on : Bool) (s : State) : TakenKept s (takeRoomMute on s) := by
  unfold takeRoomMute
  split
  · exact takenKept_taken (.refl s)
  · exact takenKept_taken (roomMute_all on)

theorem takeFloorReset_all (s : State) : TakenKept s (takeFloorReset s) := by
  rw [FloorReset.takeFloorReset_eq]
  exact takenKept_taken (floorReset_all s)

/-! ### The commands of feeds (chapter 5) -/

theorem feedKept_retarget {x y : Feed} (master : GainIndex y.master) (gain : y.gain = x.gain) (clips : y.clips = x.clips)
    (bound : y.inUse = true → x.inUse = true ∧ y.dest = x.dest) : FeedKept x (retargetFeed y) where
  gain law := ⟨(gain ▸ law.1 : GainUnitLaw y.gain).hand (by unfold feedTarget; split <;> [exact .off; exact master]), master⟩
  ramp _ law := (gain ▸ law : GainUnitRampLaw y.gain).hand _
  clips law := (by rw [← clips] at law; exact law)
  bound := bound

theorem feedKept_retire (x : Feed) (h : x.inUse = true) :
    FeedKept x { x with state := .retiring, gain := x.gain.rampTo off } :=
  ⟨fun law => ⟨law.1.rampTo .off, law.2⟩, fun _ _ => .rampTo _ _, id, fun _ => ⟨h, rfl⟩⟩

theorem feedKept_free (x : Feed) : FeedKept x (.free x.clips) := ⟨fun _ => ⟨.free, .off⟩, fun _ _ => .free, id, nofun⟩

theorem freeFeed_all (f : FeedSlot) (s : State) : AllKept s (freeFeed f s) := (quiet_setFeed (feedKept_free _)).kept

theorem destHeld_false {d : Destination} (h : destHeld s d = false) (f : FeedSlot) (use : s.feeds[f].inUse = true) :
    s.feeds[f].dest ≠ some d := fun same => by
  have held : destHeld s d = true :=
    List.any_eq_true.mpr ⟨f, List.mem_finRange f, by rw [use, same]; exact beq_self_eq_true _⟩
  rw [h] at held
  cases held

theorem setFeed_at (s : State) (f g : FeedSlot) (x : Feed) :
    (s.setFeed f x).feeds[g] = if g = f then x else s.feeds[g] := by
  split
  next h => rw [h, State.setFeed_same]
  next h => exact State.setFeed_other s x h

/-- A feed attached to a destination nobody holds (R87, R88). -/
theorem feedAttach_all {f : FeedSlot} {x : Feed} {d : Destination} (unheld : destHeld s d = false)
    (dest : x.dest = some d) (clips : x.clips = 0) (gain : x.gain = .free) (master : GainIndex x.master) :
    AllKept s (s.setFeed f (retargetFeed x)) := by
  have own : FeedKept { Feed.free 0 with dest := x.dest, state := x.state } (retargetFeed x) :=
    feedKept_retarget master gain clips fun h => ⟨h, rfl⟩
  refine (quiet_feeds ⟨fun law g => ?gain, fun _ law g => ?ramp, fun law g => ?clips, fun law g h => ?apart⟩).kept
  case gain =>
    change GainUnitLaw (s.setFeed f (retargetFeed x)).feeds[g].gain ∧ GainIndex (s.setFeed f (retargetFeed x)).feeds[g].master
    rw [setFeed_at]
    split
    · exact own.gain ⟨.free, .off⟩
    · exact law g
  case ramp =>
    change GainUnitRampLaw (s.setFeed f (retargetFeed x)).feeds[g].gain
    rw [setFeed_at]
    split
    · exact own.ramp .free .free
    · exact law g
  case clips =>
    change (s.setFeed f (retargetFeed x)).feeds[g].clips ≤ 65535
    rw [setFeed_at]
    split
    · exact own.clips (Nat.zero_le _)
    · exact law g
  case apart =>
    change (s.setFeed f (retargetFeed x)).feeds[g].inUse = true → (s.setFeed f (retargetFeed x)).feeds[h].inUse = true →
      (s.setFeed f (retargetFeed x)).feeds[g].dest.isSome = true →
      (s.setFeed f (retargetFeed x)).feeds[g].dest = (s.setFeed f (retargetFeed x)).feeds[h].dest → g = h
    rw [setFeed_at, setFeed_at]
    split <;> split
    next eg eh => exact fun _ _ _ _ => eg.trans eh.symm
    next => exact fun _ use _ same => absurd (same.symm.trans dest) (destHeld_false unheld h use)
    next => exact fun use _ _ same => absurd (same.trans dest) (destHeld_false unheld g use)
    next => exact law g h

theorem takeFeedAttach_all (slot dest : Byte) (master : Word) (excluded : Groups) (s : State) :
    TakenKept s (takeFeedAttach slot dest master excluded s) := by
  unfold takeFeedAttach
  split
  next f d _ _ =>
    split
    next => exact takenKept_refused
    next =>
      split
      next => exact takenKept_refused
      next unheld =>
        exact takenKept_taken (feedAttach_all (Bool.not_eq_true _ ▸ unheld) rfl rfl rfl (clampInt_mem (by decide) _))
  next => exact takenKept_refused

theorem activeFeed_ok {slot : Byte} {f : FeedSlot} (h : activeFeed slot s = .ok f) : s.feeds[f].inUse = true := by
  unfold activeFeed at h
  split at h
  · cases h
  · split at h
    · cases h
    · cases h
    · next active =>
      cases h
      rw [Feed.inUse, active]
      rfl

theorem takeFeedRetire_all (slot : Byte) (s : State) : TakenKept s (takeFeedRetire slot s) := by
  unfold takeFeedRetire
  split
  next => exact takenKept_refused
  next f found =>
    split
    · exact takenKept_taken (freeFeed_all _ s)
    · exact takenKept_taken (quiet_setFeed (feedKept_retire _ (activeFeed_ok found))).kept

theorem takeFeedLevel_all (slot : Byte) (master : Word) (s : State) : TakenKept s (takeFeedLevel slot master s) := by
  unfold takeFeedLevel
  split
  · exact takenKept_refused
  · refine takenKept_taken (quiet_setFeed ?_).kept
    exact feedKept_retarget (clampInt_mem (by decide) _) rfl rfl fun h => ⟨h, rfl⟩

theorem takeFeedExclude_all (slot : Byte) (groups : Groups) (s : State) : TakenKept s (takeFeedExclude slot groups s) := by
  unfold takeFeedExclude
  split
  · exact takenKept_refused
  · refine takenKept_taken (quiet_setFeed ?_).kept
    exact ⟨id, fun _ => id, id, fun h => ⟨h, rfl⟩⟩

theorem takeFeedMute_all (slot : Byte) (on : Bool) (s : State) : TakenKept s (takeFeedMute slot on s) := by
  unfold takeFeedMute
  split
  · exact takenKept_refused
  · refine takenKept_taken (quiet_setFeed ?_).kept
    refine ⟨fun law => ?_, fun _ law => ?_, id, fun h => ⟨h, rfl⟩⟩
    · refine ⟨law.1.hand ?_, law.2⟩
      unfold feedTarget
      split <;> [exact .off; exact law.2]
    · exact law.hand _

/-! ### The commands of the banks (chapter 7) -/

/-- In SETTLED no crosspoint ramp stands, whatever the banks become (R128). -/
theorem xpRampLaw_settled (settled : s.banks.swap = .settled) (law : XpRampLaw s) (b : BankStore) :
    XpRampLaw { s with banks := b } := fun f i r hr => by
  have ramping := (law f i r hr).ramping
  rw [settled] at ramping
  cases ramping

theorem setEdit_all {x : Bank} (settled : s.banks.swap = .settled) (ok : BankLaw s → BankOk x) :
    Quiet s { s with banks := s.banks.setEdit x } :=
  quiet_banks (by rw [setEdit_opBank]; rfl) (fun law => bankLaw_setEdit law (ok law))
    (fun law => by
      rw [WindowLaw]
      simp only [setEdit_window, setEdit_cursor]
      exact law)
    fun law => xpRampLaw_settled settled law _

theorem takeParamSet_all (pairs : List (Word × Word)) (s : State) : TakenKept s (takeParamSet pairs s) := by
  unfold takeParamSet
  split
  next => exact takenKept_refused
  next =>
    split
    next => exact takenKept_refused
    next settled =>
      split
      next => exact takenKept_refused
      next ps _ =>
        refine takenKept_taken (setEdit_all (not_not.mp settled) fun law => ?_).kept
        exact ⟨writeParams_law ps (law _).1, (law (otherBank s.banks.operating)).2⟩

theorem takeBankSwap_all (s : State) : TakenKept s (takeBankSwap s) := by
  unfold takeBankSwap
  split
  next settled =>
    refine takenKept_taken (Quiet.kept ?_)
    exact quiet_banks rfl (fun law => law) (fun law => law) fun law => xpRampLaw_settled settled law _
  next => exact takenKept_refused

theorem takeBankCopy_all (s : State) : TakenKept s (takeBankCopy s) := by
  unfold takeBankCopy
  split
  next settled => exact takenKept_taken (setEdit_all settled fun law => law _).kept
  next => exact takenKept_refused

/-- The window and the cursor replaced, the banks left as they are. -/
theorem cursor_all {w : Window} {c : Nat} (h : WindowLaw s → w.feedStart ≤ w.feedEnd ∧ w.srcStart ≤ w.srcEnd ∧
    c < w.walk.length) : AllKept s { s with banks := { s.banks with window := w, cursor := c } } := by
  refine Quiet.kept (quiet_banks rfl (fun law => law) h fun law f i r hr => ?_)
  obtain ⟨ramping, start, target, differ, duration, done⟩ := law f i r hr
  exact ⟨ramping, start, target, differ, duration, done⟩

theorem takeXpWindow_all (fs fe ss se : Byte) (order : Word) (fr sr : Bool) (s : State) :
    TakenKept s (takeXpWindow fs fe ss se order fr sr s) := by
  unfold takeXpWindow
  split
  next =>
    split
    next ordered =>
      exact takenKept_taken (cursor_all fun _ => ⟨ordered.1, ordered.2, Walk.walk_length_pos ordered.1 ordered.2⟩)
    next => exact takenKept_refused
  next => exact takenKept_refused

theorem takeXpRead_all (start : Nat) (count : Word) (s : State) : TakenKept s (takeXpRead start count s) := by
  unfold takeXpRead
  split
  · exact takenKept_refused
  · exact takenKept_taken (cursor_all fun law => ⟨law.1, law.2.1, Nat.mod_lt _ (Nat.zero_lt_of_lt law.2.2)⟩)

theorem writeWalk_all {start : Nat} (ws : List Word) (settled : s.banks.swap = .settled)
    (within : WindowLaw s → start < s.banks.window.walk.length) : AllKept s (writeWalk start ws s) := by
  have values (law : BankLaw s) : BankOk { s.banks.editBank with
      xp := (ws.foldl (writeStep s.banks.window.walk) (s.banks.editBank.xp, start)).1 } :=
    ⟨(law _).1, writeSteps_mem _ ws (law (otherBank s.banks.operating)).2⟩
  refine (quiet_banks ?_ (fun law n => ?_) (fun law => ?_) fun law => xpRampLaw_settled settled law _).kept
  · change ((s.banks.setEdit _).opBank).params = _
    rw [setEdit_opBank]
    rfl
  · exact bankLaw_setEdit law (values law) n
  · have cursor := writeSteps_cursor (a := (s.banks.editBank.xp, start)) ws (within law)
    rw [WindowLaw]
    dsimp only
    rw [setEdit_window]
    exact ⟨law.1, law.2.1, cursor⟩

theorem takeXpWrite_all {start : Nat} (ws : List Word) (s : State)
    (within : WindowLaw s → start < s.banks.window.walk.length) : TakenKept s (takeXpWrite start ws s) := by
  unfold takeXpWrite
  split
  next => exact takenKept_refused
  next =>
    split
    next => exact takenKept_refused
    next settled => exact takenKept_taken (writeWalk_all ws (not_not.mp settled) within)

theorem windowLaw_walk (law : WindowLaw s) : 0 < s.banks.window.walk.length := Nat.zero_lt_of_lt law.2.2

/-! ### The other commands -/

theorem takePodSetup_all (link depth : Byte) (s : State) : TakenKept s (takePodSetup link depth s) := by
  unfold takePodSetup
  split
  next => exact takenKept_refused
  next =>
    split
    next two_or_three =>
      refine takenKept_taken (Quiet.kept ?_)
      refine quiet_setPod (fun law => ?_) rfl
      exact ⟨law.goodRun, law.badRun, two_or_three, law.elements, law.presync, law.holding, law.counters⟩
    next => exact takenKept_refused

theorem takeNoteGet_all (s : State) : TakenKept s (takeNoteGet s) := by
  refine takenKept_taken (Aside.quiet { attention := fun _ => ?_ }).kept
  exact withSet_attention _ _

theorem takeNoteMask_all (mask : Byte) (s : State) : TakenKept s (takeNoteMask mask s) := by
  refine takenKept_taken (Aside.quiet { attention := fun _ => ?_ }).kept
  exact Notices.withMask_attention _ _

theorem clearCounters_all (t : CountTarget) (s : State) : AllKept s (clearCounters s t) := by
  have zero := Nat.zero_le 65535
  cases t with
  | podLink l =>
    refine Quiet.kept ?_
    refine quiet_setPod (fun law => ?_) rfl
    exact ⟨law.goodRun, law.badRun, law.depth, law.elements, law.presync, law.holding, zero, zero, zero⟩
  | farPort p =>
    refine Quiet.kept ?_
    refine quiet_setPort fun law => ?_
    exact ⟨law.input, law.output, law.priming, law.down, law.up, zero, zero, zero, zero, zero⟩
  | feed f =>
    refine Quiet.kept ?_
    refine quiet_setFeed ?_
    exact ⟨id, fun _ => id, fun _ => zero, fun h => ⟨h, rfl⟩⟩

/-- What every host command's own checks and effect keep. -/
theorem takeCommand_all (c : HostCmd) (s : State) : TakenKept s (takeCommand c s) := by
  have read {k : Taken} (h : ∀ r v, k = .taken r v → v = s) : TakenKept s k := fun r v e => h r v e ▸ .refl s
  cases c with
  | srcAttach slot chair origin trim groups => exact takeSrcAttach_all slot chair origin trim groups s
  | srcRetire slot => exact takeSrcRetire_all slot s
  | srcTrim slot trim => exact takeSrcTrim_all slot trim s
  | srcGroups slot groups => exact takeSrcGroups_all slot groups s
  | srcMute slot on => exact takeSrcMute_all slot on s
  | grpMute group on => exact takeGrpMute_all group on s
  | roomMute on => exact takeRoomMute_all on s
  | floorReset => exact takeFloorReset_all s
  | feedAttach slot dest master excluded => exact takeFeedAttach_all slot dest master excluded s
  | feedRetire slot => exact takeFeedRetire_all slot s
  | feedLevel slot master => exact takeFeedLevel_all slot master s
  | feedMute slot on => exact takeFeedMute_all slot on s
  | feedExclude slot groups => exact takeFeedExclude_all slot groups s
  | bankSwap => exact takeBankSwap_all s
  | bankCopy => exact takeBankCopy_all s
  | paramSet pairs => exact takeParamSet_all pairs s
  | xpWindow fs fe ss se order fr sr => exact takeXpWindow_all fs fe ss se order fr sr s
  | xpPut words => exact takeXpWrite_all words s windowLaw_walk
  | xpPutNext words => exact takeXpWrite_all words s fun law => law.2.2
  | xpTake count => exact takeXpRead_all 0 count s
  | xpTakeNext count => exact takeXpRead_all s.banks.cursor count s
  | podSetup link depth => exact takePodSetup_all link depth s
  | noteGet => exact takeNoteGet_all s
  | noteMask mask => exact takeNoteMask_all mask s
  | engineReset => exact takenKept_taken (engineReset_all s)
  | muteGet | floorGet | bankGet => exact takenKept_taken (.refl s)
  | srcGet slot | feedGet slot | paramGet bank | podGet link | portGet port | countGet kind number =>
    refine read fun r v e => ?_
    simp only [takeCommand, takeSrcGet, takeFeedGet, takeParamGet, takePodGet, takePortGet, takeCountGet] at e
    split at e <;> cases e
    rfl

end Sys2Proof.Machine
end

section
/-! What the events keep of the laws, and with them every step: the settling of O3 and O55 to O60. -/

namespace Sys2Proof.Machine

variable {s t u v : State} {i j : SrcSlot}

/-! ### Pod links (chapter 8) -/

theorem setPod_setPod (s : State) (l : PodLink) (x y : Pod) : (s.setPod l x).setPod l y = s.setPod l y := by
  simp only [State.setPod, Vector.set_set]

theorem goodFrame_all {l : PodLink} {h : PodHeader} {audio : Vector Byte 1152} (sync : s.pods[l].framing = .sync)
    (good : h.good = true) : AllKept s (goodFrame l h audio s) := by
  refine AllKept.trans ?_ (frameIntake_all l _ _ _ _)
  refine Quiet.kept ?_
  refine quiet_setPod (fun law => ?_) rfl
  exact ⟨law.goodRun, Nat.zero_le _, law.depth, count_of_good good, law.presync, fun out => absurd sync out,
    raise_le _ _, law.counters.2⟩

/-- The removal of several sources with the service that follows (R69, R74). -/
theorem removals_event (law : MembershipLaw s) (is : List SrcSlot) :
    FloorEvent s (serviceIf (removeSources is s).2 (removeSources is s).1) := by
  have removed := (removeSources_work law.places is).event law (fun _ => False.elim)
  exact removed.trans (serviceIf_event _ removed.membership)

/-- A link record as the loss of SYNC leaves it (R159). -/
def lostPod (p : Pod) : Pod :=
  { p with
    framing := .hunt
    goodRun := 0
    badRun := 0
    holding := none
    place := nextPlace p.place
    syncLosses := raise p.syncLosses 1 }

/-- The loss of SYNC up to the removal of its sources from the floor: record, POD_LINK, Level Monitor (R34, R159). -/
def syncLost (l : PodLink) (s : State) : State :=
  ((s.setPod l (lostPod s.pods[l])).addNotice .podLink).mapSrcs fun _ x =>
    if x.inUse && x.onPod l then resetLevel x else x

/-- The ACTIVE sources of a pod. -/
def podActive (l : PodLink) (s : State) : List SrcSlot :=
  srcSlots.filter fun i => s.srcs[i].isActive && s.srcs[i].onPod l

theorem loseSync_eq (l : PodLink) (s : State) : loseSync l s = finishEvent (syncLost l s)
    (serviceIf (removeSources (podActive l (syncLost l s)) (syncLost l s)).2
      (removeSources (podActive l (syncLost l s)) (syncLost l s)).1) := rfl

/-- The link record of a bad frame (R158). -/
def badPod (p : Pod) : Pod :=
  { p with holding := none, headerErrors := raise p.headerErrors 1, badRun := p.badRun + 1 }

theorem badFrame_eq (l : PodLink) (s : State) : badFrame l s =
    if 4 ≤ s.pods[l].badRun + 1 then loseSync l (s.setPod l (badPod s.pods[l])) else s.setPod l (badPod s.pods[l]) := rfl

theorem syncLost_setPod (l : PodLink) (s : State) (x : Pod) : syncLost l (s.setPod l x) =
    ((s.setPod l (lostPod x)).addNotice .podLink).mapSrcs fun _ x => if x.inUse && x.onPod l then resetLevel x else x := by
  rw [syncLost, State.setPod_same, setPod_setPod]

theorem syncLost_all (l : PodLink) (s : State) : AllKept s (syncLost l (s.setPod l (badPod s.pods[l]))) := by
  rw [syncLost_setPod]
  refine (Quiet.kept ?record).trans ((quiet_addNotice .podLink).kept.trans (quiet_mapSrcs fun i => ?level).kept)
  case record =>
    refine quiet_setPod (fun law => ?_) rfl
    exact ⟨Nat.zero_le _, Nat.zero_le _, law.depth, law.elements, nofun, fun _ => rfl, law.counters.1, raise_le _ _,
      raise_le _ _⟩
  case level =>
    split
    · exact resetLevel_quiet _ _
    · exact .refl _ _

theorem badFrame_all (l : PodLink) (s : State) : AllKept s (badFrame l s) := by
  rw [badFrame_eq]
  split
  next =>
    rw [loseSync_eq]
    exact (syncLost_all l s).trans (floorEvent_all ((removeSources_frame _ _).trans (serviceIf_frame _ _))
      fun law => removals_event law _)
  next below =>
    refine Quiet.kept ?_
    refine quiet_setPod (fun law => ?_) rfl
    exact ⟨law.goodRun, by dsimp only [badPod]; omega, law.depth, law.elements, law.presync, fun _ => rfl, law.counters.1,
      raise_le _ _, law.counters.2.2⟩

theorem huntMatch_all {l : PodLink} {k : Nat} {h : PodHeader} (good : h.good = true) (hunt : s.pods[l].framing = .hunt) :
    AllKept s (huntMatch l k h s) := by
  refine Quiet.kept ?_
  refine quiet_setPod (fun law => ?_) rfl
  exact ⟨Nat.le_of_ble_eq_true rfl, law.badRun, law.depth, count_of_good good, fun _ => Nat.lt_of_sub_eq_succ rfl,
    fun _ => law.holding (by rw [hunt]; nofun), law.counters⟩

/-- The header a search finds is good (R151). -/
theorem searchHeader_good {stream : List Byte} {k : Nat} {h : PodHeader} (found : searchHeader stream = some (k, h)) :
    h.good = true := by
  induction stream generalizing k with
  | nil => cases found
  | cons b0 rest ih =>
    by_cases short : (b0 :: rest).length < 4
    · rw [searchHeader_short short] at found
      cases found
    · obtain ⟨b1, b2, b3, more, rfl⟩ : ∃ b1 b2 b3 more, rest = b1 :: b2 :: b3 :: more := by
        match rest, short with
        | b1 :: b2 :: b3 :: more, _ => exact ⟨b1, b2, b3, more, rfl⟩
        | [], short | [_], short | [_, _], short => exact absurd (by simp) short
      rw [searchHeader_step] at found
      split at found
      next good =>
        cases found
        exact good
      next =>
        obtain ⟨⟨k', h'⟩, deeper, e⟩ := Option.map_eq_some_iff.mp found
        cases e
        exact ih deeper

theorem judgePresync_all {l : PodLink} {h : PodHeader} {audio : Vector Byte 1152}
    (presync : s.pods[l].framing = .presync) : AllKept s (judgePresync l h audio s) := by
  unfold judgePresync
  dsimp only
  split
  next good =>
    split
    next =>
      unfold enterSync
      rw [State.setPod_same, setPod_setPod]
      refine AllKept.trans ?record (goodFrame_all ?sync good)
      case record =>
        refine (Quiet.kept ?_).trans (quiet_addNotice .podLink).kept
        refine quiet_setPod (fun law => ?_) rfl
        exact ⟨Nat.zero_le _, Nat.zero_le _, law.depth, count_of_good good, nofun, fun out => absurd rfl out, law.counters⟩
      case sync =>
        rw [State.addNotice_pods, State.setPod_same]
    next below =>
      refine Quiet.kept ?_
      refine quiet_setPod (fun law => ?_) rfl
      have depth := law.depth
      exact ⟨by dsimp only; omega, law.badRun, law.depth, count_of_good good, fun _ => by dsimp only; omega,
        fun _ => law.holding (by rw [presync]; nofun), law.counters⟩
  next =>
    refine Quiet.kept ?_
    refine quiet_setPod (fun law => ?_) rfl
    exact ⟨Nat.zero_le _, law.badRun, law.depth, law.elements, nofun, fun _ => law.holding (by rw [presync]; nofun),
      law.counters⟩

/-! ### Far-end ports and the mix block (chapters 5, 6, 9) -/

theorem movePorts_all {f : FarPort → Port → Port × Bool} (h : ∀ p : FarPort, PortRecordLaw s.ports[p] →
    PortRecordLaw (f p s.ports[p]).1) : AllKept s (movePorts f s) := by
  refine (Quiet.kept (quiet_ports fun p law => ?_)).trans (quiet_addNoticeIf _ .slip).kept
  have moved : (Vector.ofFn fun p => (f p s.ports[p]).1)[p] = (f p s.ports[p]).1 := by simp
  rw [moved]
  exact h p law

theorem codecPulse_all (p : FarPort) (x : Sample) (s : State) : AllKept s (codecPulse p x s) := by
  unfold codecPulse
  dsimp only
  split
  · exact (quiet_setPort (clockReturn_law · x)).kept
  · exact (quiet_setPort (pulse_law · x)).kept.trans (quiet_addNoticeIf _ .slip).kept

theorem clockLoss_all (p : FarPort) (s : State) :
    AllKept s ((s.setPort p s.ports[p].judgeIdle.1).addNoticeIf s.ports[p].judgeIdle.2 .slip) := by
  refine (quiet_setPort fun law => ?_).kept.trans (quiet_addNoticeIf _ .slip).kept
  by_cases down : s.ports[p].state = .down
  · rw [Port.judgeIdle, if_neg fun h => h.1 down]
    exact law
  · exact judgeIdle_law (n := s.ports[p].idle) law down (law.up down).le

theorem giveOutputs_all (o : BlockOutputs) (s : State) : AllKept s (giveOutputs o s) := by
  have frames : Quiet s { s with
      pods := Vector.ofFn fun l => { s.pods[l] with sent := some (s.pods[l].head.frame o.pods[l]) } } :=
    quiet_pods fun l => by
      have sent : (Vector.ofFn fun l : PodLink => { s.pods[l] with sent := some (s.pods[l].head.frame o.pods[l]) })[l]
          = { s.pods[l] with sent := some (s.pods[l].head.frame o.pods[l]) } := by simp
      rw [sent]
      exact ⟨fun law => ⟨law.goodRun, law.badRun, law.depth, law.elements, law.presync, law.holding, law.counters⟩, rfl⟩
  unfold giveOutputs
  refine AllKept.trans ?_ (movePorts_all fun p law => write_law law _)
  refine frames.kept.trans (Quiet.kept ?_)
  exact Aside.quiet { attention := id }

theorem feedsFormed_all (s : State) : AllKept s (feedsFormed s) := by
  unfold feedsFormed
  split
  · exact (quiet_mapFeeds fun f => ⟨id, fun _ => id, fun _ => raise_le _ _, fun h => ⟨h, rfl⟩⟩).kept.trans
      ((quiet_addNoticeIf _ .clip).kept.trans (giveOutputs_all _ _))
  · split
    · exact giveOutputs_all _ s
    · exact .refl s

/-- Crosspoint ramps replaced, each by itself with another number of blocks done, or removed. -/
theorem quiet_xpRamps {m : Matrix (Option XpRamp)}
    (h : ∀ (f : FeedSlot) (i : SrcSlot) (r : XpRamp), m[f][i] = some r → ∃ q, s.xpRamps[f][i] = some q ∧
      r = { q with done := r.done } ∧ (q.done ≤ q.duration → r.done ≤ q.duration)) :
    Quiet s { s with xpRamps := m } :=
  { Quiet.refl s with
    xpRamp := fun _ law f i r hr => by
      obtain ⟨q, hq, e, done⟩ := h f i r hr
      obtain ⟨ramping, start, target, differ, duration, q_done⟩ := law f i q hq
      rw [e]
      exact ⟨ramping, start, target, differ, duration, done q_done⟩ }

theorem xpStep_eq (q : XpRamp) : q.step = { q with done := q.step.done } ∧
    (q.done ≤ q.duration → q.step.done ≤ q.duration) := by
  unfold XpRamp.step
  split
  next more => exact ⟨rfl, fun _ => more⟩
  next => exact ⟨rfl, id⟩

theorem xpFinish_eq {o : Option XpRamp} {r : XpRamp} (h : XpRamp.finish o = some r) : o = some r := by
  unfold XpRamp.finish at h
  split at h
  · split at h
    · cases h
    · exact h
  · cases h

theorem stepRamps_all (s : State) : AllKept s (stepRamps s) := by
  have srcs := (quiet_mapSrcs (s := s) (f := fun _ x => { x with gain := x.gain.step }) fun i => quietSrc_step s.params s.srcs[i]).kept
  have feeds := (quiet_mapFeeds (s := s.mapSrcs fun _ x => { x with gain := x.gain.step })
    (g := fun _ x => { x with gain := x.gain.step })
    fun f => ⟨fun law => ⟨law.1.step, law.2⟩, fun _ law => law.step, id, fun h => ⟨h, rfl⟩⟩).kept
  unfold stepRamps
  refine srcs.trans (feeds.trans (Quiet.kept (quiet_xpRamps fun f i r hr => ?_)))
  rw [matrix_ofFn_at] at hr
  obtain ⟨q, hq, rfl⟩ := Option.map_eq_some_iff.mp hr
  rw [State.mapFeeds_xpRamps, State.mapSrcs_xpRamps]
  exact ⟨q, hq, xpStep_eq q⟩

theorem deliver_all (aux : Vector Block 8) (s : State) : AllKept s (deliver aux s) := by
  have given := (quiet_mapSrcs (s := s)
    (f := fun _ x => if x.inUse then { x with inBlock := x.origin.map (blockFrom s aux) } else x) fun i => by
      split
      · exact ⟨⟨⟨id, id, fun _ => id, fun _ _ => id⟩, rfl, rfl⟩, rfl, rfl, rfl⟩
      · exact .refl _ _).kept
  have emptied (u : State) : Quiet u { u with pods := Vector.ofFn fun l => { u.pods[l] with holding := none } } :=
    quiet_pods fun l => by
      have holding : (Vector.ofFn fun l : PodLink => { u.pods[l] with holding := none })[l]
          = { u.pods[l] with holding := none } := by simp
      rw [holding]
      exact ⟨fun law => ⟨law.goodRun, law.badRun, law.depth, law.elements, law.presync, fun _ => rfl, law.counters⟩, rfl⟩
  unfold deliver
  exact given.trans ((emptied _).kept.trans (movePorts_all fun _ => deliver_law))

theorem readBlock_all (s : State) : AllKept s (readBlock s) := by
  have heads : Quiet s { s with pods := Vector.ofFn fun l => { s.pods[l] with head := outHead s l } } :=
    quiet_pods fun l => by
      have head : (Vector.ofFn fun l : PodLink => { s.pods[l] with head := outHead s l })[l]
          = { s.pods[l] with head := outHead s l } := by simp
      rw [head]
      exact ⟨fun law => ⟨law.goodRun, law.badRun, law.depth, law.elements, law.presync, law.holding, law.counters⟩, rfl⟩
  unfold readBlock
  refine heads.kept.trans (Quiet.kept ?_)
  exact Aside.quiet { attention := id }

theorem stampService_all (s : State) : AllKept s (stampService s) := by
  unfold stampService
  split
  · refine floorEvent_all ((expireStamps_frame s).trans (pendingService_frame _)) fun law => ?_
    have expired := expireStamps_work law.places
    exact (expired.trans (pendingService_work expired.places)).event law fun _ => False.elim
  · exact .refl s

theorem startBlock_all (aux : Vector Block 8) (s : State) : AllKept s (startBlock aux s) := by
  have advanced : Quiet s { s with floor := { s.floor with block := s.floor.block + 1 } } :=
    Aside.quiet { attention := id }
  have work (u : State) : AllKept u (startWork u) := by
    unfold startWork
    split
    · exact swapEffect_all u
    · exact stampService_all u
  unfold startBlock
  exact advanced.kept.trans ((work _).trans ((movePorts_all fun _ => watch_law).trans ((deliver_all aux _).trans
    ((stepRamps_all _).trans (readBlock_all _)))))

theorem crosspointRampsEnd_all (s : State) : AllKept s (crosspointRampsEnd s) := by
  have finished : Quiet s { s with xpRamps := Matrix.ofFn fun f i => XpRamp.finish s.xpRamps[f][i] } :=
    quiet_xpRamps fun f i r hr => by
      rw [matrix_ofFn_at] at hr
      exact ⟨r, xpFinish_eq hr, rfl, id⟩
  unfold crosspointRampsEnd
  dsimp only
  split
  next none_left =>
    refine finished.kept.trans (AllKept.trans (Quiet.kept ?_) (quiet_addNotice .swapDone).kept)
    refine quiet_banks rfl (fun law => law) (fun law => law) fun _ f i r hr => ?_
    have is_none := List.all_eq_true.mp (List.all_eq_true.mp none_left f (List.mem_finRange f)) i (List.mem_finRange i)
    change (Matrix.ofFn fun f i => XpRamp.finish s.xpRamps[f][i])[f][i] = some r at hr
    rw [hr] at is_none
    cases is_none
  next => exact finished.kept

theorem rampEnd_all (owner : RampOwner) (s : State) (h : exec (.rampEnd owner) s = .next t) : AllKept s t := by
  cases owner with
  | source i =>
    cases h
    exact (quiet_setSrc (quietSrc_finish _ _)).kept
  | feed f =>
    cases h
    refine Quiet.kept ?_
    refine quiet_setFeed ?_
    exact ⟨fun law => ⟨law.1.finish, law.2⟩, fun gain law => law.finish gain, id, fun h => ⟨h, rfl⟩⟩
  | crosspoint f i =>
    cases h
    refine Quiet.kept (quiet_xpRamps fun g j r hr => ?_)
    rw [matrix_put_at] at hr
    split at hr
    next e =>
      obtain ⟨rfl, rfl⟩ := e
      exact ⟨r, xpFinish_eq hr, rfl, id⟩
    next => exact ⟨r, hr, rfl, id⟩

/-! ### Measurements (R19) -/

theorem measure_all (i : SrcSlot) (b : Block) (s : State) : AllKept s (measure i b s) := by
  have quiet := measureLevel_quiet (p := s.params) (levelOfSum_le (sumSquares b)) s.srcs[i] none
  have gain : (measureLevel s.params (blockLevel b) s.srcs[i]).gain = s.srcs[i].gain := by rw [measureLevel_frame]
  have src (c : Bool) (j : SrcSlot) : ((s.setSrc i { measureLevel s.params (blockLevel b) s.srcs[i] with
      inBlock := none }).addNoticeIf c .talkMuted).srcs[j] = if j = i then
        { measureLevel s.params (blockLevel b) s.srcs[i] with inBlock := none } else s.srcs[j] := by
    rw [State.addNoticeIf_srcs, setSrc_at]
  have written (c : Bool) : Written s ((s.setSrc i { measureLevel s.params (blockLevel b) s.srcs[i] with
      inBlock := none }).addNoticeIf c .talkMuted) :=
    { rest := by cases c <;> rfl
      attention := fun law => addNoticeIf_attention (s := s.setSrc i _) law c _
      frame := fun j => by
        rw [src]
        split
        next e => subst e; rw [measureLevel_frame]
        next => rfl
      kept := fun j => by
        rw [src]
        split
        next e => subst e; exact quiet.toSrcKept
        next => exact .refl _ _ }
  have mute (c : Bool) (j : SrcSlot) : ((s.setSrc i { measureLevel s.params (blockLevel b) s.srcs[i] with
      inBlock := none }).addNoticeIf c .talkMuted).srcs[j].effMute = s.srcs[j].effMute := by
    rw [src]
    split
    next e => subst e; rw [measureLevel_frame]
    next => rfl
  unfold measure
  dsimp only
  generalize ((measureLevel s.params (blockLevel b) s.srcs[i]).alert && !s.srcs[i].alert) = c
  specialize written c
  specialize mute c
  generalize (s.setSrc i { measureLevel s.params (blockLevel b) s.srcs[i] with inBlock := none }).addNoticeIf c
    .talkMuted = w at written mute
  have frame := floorHandover_frame i w
  refine (written.handled frame (floorHandover i w).freeCount fun law => ?_).all fun j => ?_
  · have lawful : MembershipLaw w := law.of_same (by rw [written.floor]) (by rw [written.floor]) (by rw [written.floor])
      (fun j => by rw [written.frame]) (fun j => by rw [written.frame]) (fun j => by rw [written.frame]) mute
    exact (floorHandover_event lawful i).parts
  · change (floorHandover i w).srcs[j].effMute = _
    rw [frame.srcs j]
    exact mute j

/-! ### Every command and event -/

theorem judgePacket_all (wanted : Bool) (code : Byte) (body : PacketBody) (s : State) :
    AllKept s (judgePacket wanted code body s) := by
  unfold judgePacket
  refine settle_all code wanted ?_
  split
  · exact takeCommand_all _ s
  · exact takenKept_refused

theorem acceptHeader_all (d : BitVec 32) (s : State) : AllKept s (acceptHeader d s) := by
  unfold acceptHeader
  dsimp only
  split
  · exact (quiet_ctl _).kept
  · exact judgePacket_all _ _ _ s

theorem judgeHeaderBytes_all (b0 b1 b2 b3 b4 : Byte) (s : State) : AllKept s (judgeHeaderBytes b0 b1 b2 b3 b4 s) := by
  unfold judgeHeaderBytes
  split
  · exact acceptHeader_all _ s
  · exact (quiet_ctl _).kept.trans (acceptHeader_all _ _)
  · exact (quiet_ctl _).kept

theorem judgePayload_all (wanted : Bool) (code : Byte) (words : List Word) (check : Word) (s : State) :
    AllKept s (judgePayload wanted code words check s) := by
  unfold judgePayload
  split
  · exact judgePacket_all _ _ _ s
  · exact (quiet_ctl _).kept.trans (owe_quiet _ _ _ _).kept

theorem turnAround_all (s : State) : AllKept s (turnAround s) := by
  unfold turnAround
  split
  · exact (quiet_ctl _).kept
  · exact (quiet_ctl _).kept
  · exact (quiet_ctl _).kept
  · exact .refl s

theorem carryOut_all (a : Answer) (r : Reply) (s : State) : AllKept s (carryOut a r s) := by
  unfold carryOut
  split
  · split
    · exact clearCounters_all _ s
    · exact .refl s
  · exact .refl s
  · exact (quiet_ctl _).kept

theorem answerSent_all (as : List Answer) (r : Reply) (s : State) : AllKept s (answerSent as r s) := by
  cases as with
  | nil => exact (quiet_ctl _).kept
  | cons a rest =>
    obtain ⟨-, e⟩ | ⟨-, e⟩ := answerSent_cons a rest r s <;> rw [e]
    · exact (carryOut_all a r s).trans (quiet_ctl _).kept
    · exact (carryOut_all a r s).trans (quiet_ctl _).kept

/-- A host command's row is its packet (R186). -/
theorem exec_hostInstr (c : HostCmd) (s : State) : exec (hostInstr c) s = .next (hostPacket c.code (takeCommand c) s) := by
  cases c <;> rfl

theorem hostInstr_all (c : HostCmd) (s : State) (h : exec (hostInstr c) s = .next t) : AllKept s t := by
  rw [exec_hostInstr] at h
  cases h
  exact hostPacket_all _ (takeCommand_all c) s

theorem AllKept.of_next (k : AllKept s u) (h : (Host.Outcome.next u : Host.Outcome State Fault Refusal) = .next t) :
    AllKept s t := by
  cases h
  exact k

/-- Every command and event keeps every law. -/
theorem exec_all (c : Instr) (h : exec c s = .next t) : AllKept s t := by
  cases c with
  | srcAttach slot chair origin trim groups => exact hostInstr_all (.srcAttach slot chair origin trim groups) s h
  | srcRetire slot => exact hostInstr_all (.srcRetire slot) s h
  | srcTrim slot trim => exact hostInstr_all (.srcTrim slot trim) s h
  | srcGroups slot groups => exact hostInstr_all (.srcGroups slot groups) s h
  | srcGet slot => exact hostInstr_all (.srcGet slot) s h
  | srcMute slot on => exact hostInstr_all (.srcMute slot on) s h
  | grpMute group on => exact hostInstr_all (.grpMute group on) s h
  | roomMute on => exact hostInstr_all (.roomMute on) s h
  | muteGet => exact hostInstr_all .muteGet s h
  | floorGet => exact hostInstr_all .floorGet s h
  | floorReset => exact hostInstr_all .floorReset s h
  | feedAttach slot dest master excluded => exact hostInstr_all (.feedAttach slot dest master excluded) s h
  | feedRetire slot => exact hostInstr_all (.feedRetire slot) s h
  | feedLevel slot master => exact hostInstr_all (.feedLevel slot master) s h
  | feedMute slot on => exact hostInstr_all (.feedMute slot on) s h
  | feedExclude slot groups => exact hostInstr_all (.feedExclude slot groups) s h
  | feedGet slot => exact hostInstr_all (.feedGet slot) s h
  | bankSwap => exact hostInstr_all .bankSwap s h
  | bankCopy => exact hostInstr_all .bankCopy s h
  | bankGet => exact hostInstr_all .bankGet s h
  | paramSet pairs => exact hostInstr_all (.paramSet pairs) s h
  | paramGet bank => exact hostInstr_all (.paramGet bank) s h
  | xpWindow fs fe ss se order fr sr => exact hostInstr_all (.xpWindow fs fe ss se order fr sr) s h
  | xpPut words => exact hostInstr_all (.xpPut words) s h
  | xpPutNext words => exact hostInstr_all (.xpPutNext words) s h
  | xpTake count => exact hostInstr_all (.xpTake count) s h
  | xpTakeNext count => exact hostInstr_all (.xpTakeNext count) s h
  | podSetup link depth => exact hostInstr_all (.podSetup link depth) s h
  | podGet link => exact hostInstr_all (.podGet link) s h
  | portGet port => exact hostInstr_all (.portGet port) s h
  | noteGet => exact hostInstr_all .noteGet s h
  | noteMask mask => exact hostInstr_all (.noteMask mask) s h
  | countGet kind number => exact hostInstr_all (.countGet kind number) s h
  | engineReset => exact hostInstr_all .engineReset s h
  | powerOnReset => exact (powerOn_all s).of_next h
  | packetStart => cases h; exact (openPacket_quiet s).kept
  | headerComplete b0 b1 b2 b3 b4 =>
    cases h
    split
    · exact judgeHeaderBytes_all _ _ _ _ _ s
    · exact .refl s
  | payloadComplete words check =>
    cases h
    split
    · split
      · exact judgePayload_all _ _ _ _ s
      · exact .refl s
    · exact .refl s
  | turnaround => exact (turnAround_all s).of_next h
  | answerSent =>
    cases h
    split
    · exact answerSent_all _ _ s
    · exact .refl s
  | mixBlockStart aux => exact (startBlock_all aux s).of_next h
  | clockLoss port => exact (clockLoss_all port s).of_next h
  | swapEffect =>
    cases h
    split
    · exact swapEffect_all s
    · exact .refl s
  | stampExpiry => exact (stampService_all s).of_next h
  | measurement slot =>
    cases h
    split
    · split
      · exact measure_all _ _ s
      · exact .refl s
    · exact .refl s
  | noiseFloorCreep slot =>
    cases h
    split
    next acts =>
      simp only [Bool.and_eq_true, decide_eq_true_eq] at acts
      exact (quiet_setSrc (creepRise_quiet acts.2)).kept
    next => exact .refl s
  | alert slot =>
    cases h
    split
    · exact (quiet_setSrc (judgeRise_quiet _ _)).kept.trans (quiet_addNotice .talkMuted).kept
    · exact .refl s
  | holdExpiry slot =>
    cases h
    split
    next acts =>
      simp only [Bool.and_eq_true, beq_iff_eq] at acts
      obtain ⟨⟨active, cls⟩, hold⟩ := acts
      refine floorEvent_all ((expireHold_frame slot s).trans (serviceIf_frame _ _)) fun law => expiry_event law ?_
      exact (law.places.mem_list_iff ⟨active, cls⟩).mpr (by rw [State.floorState] at hold; rw [hold]; rfl)
    next => exact .refl s
  | rampEnd owner => exact rampEnd_all owner s h
  | sourceRetirementCompletion slot =>
    cases h
    split
    next acts =>
      simp only [Bool.and_eq_true, beq_iff_eq] at acts
      refine freeSource_all fun law => law.outside_of_inactive ?_
      rw [Source.isActive, acts.1]
      rfl
    next => exact .refl s
  | feedRetirementCompletion slot =>
    cases h
    split
    · exact freeFeed_all slot s
    · exact .refl s
  | crosspointRampsEnd =>
    cases h
    split
    · exact crosspointRampsEnd_all s
    · exact .refl s
  | feedsFormed => exact (feedsFormed_all s).of_next h
  | huntMatch link searched header =>
    cases h
    split
    next hunt =>
      split
      next found => exact huntMatch_all (searchHeader_good found) hunt
      next => exact .refl s
    next => exact .refl s
  | presyncJudgement link header audio =>
    cases h
    split
    · exact judgePresync_all ‹_›
    · exact .refl s
  | goodFrameInSync link header audio =>
    cases h
    split
    next acts => exact goodFrame_all acts.1 acts.2
    next => exact .refl s
  | badFrameInSync link header =>
    cases h
    split
    · exact badFrame_all link s
    · exact .refl s
  | codecPulse port sample => exact (codecPulse_all port sample s).of_next h

/-- Every step keeps every law. -/
theorem step_all (h : step s = .next t) : AllKept s t := by
  unfold step at h
  split at h
  next => cases h; exact .refl s
  next c rest _ =>
    have popped : Quiet s { s with pending := rest } := Aside.quiet { attention := id }
    exact popped.kept.trans (exec_all c h)

end Sys2Proof.Machine
end

section
/-! The settling of O3 and of the laws that every step keeps, O55 to O60. -/

namespace Sys2Proof.Machine.StepLaws

/-- Settles O3: the state after reset has every slot FREE and every record at its power-on value. -/
theorem resetMeetsEveryLaw : Obligations.ResetMeetsEveryLaw := by
  unfold Obligations.ResetMeetsEveryLaw
  have blank := reset_blank
  have record : RecordLaw State.reset := by
    refine ⟨fun l => ?_, fun p => ?_, fun f => ?_⟩
    · have at_reset : State.reset.pods[l] = .reset := Vector.getElem_replicate l.isLt
      rw [at_reset]; exact podRecordLaw_reset
    · have at_reset : State.reset.ports[p] = .reset := Vector.getElem_replicate p.isLt
      rw [at_reset]; exact portRecordLaw_reset
    · rw [blank.feeds]; exact Nat.zero_le _
  exact ⟨attentionLaw_reset rfl, blank.level, blank.bank, blank.gain, blank.binding, record, blank.mute, blank.floor,
    blank.target, blank.window, blank.monitor, blank.hold, blank.ramp, blank.xpRamp⟩

/-- Settles O55, by what every step keeps. -/
theorem attentionLevelBindingAndRecordLawsAreKept : Obligations.AttentionLevelBindingAndRecordLawsAreKept := by
  unfold Obligations.AttentionLevelBindingAndRecordLawsAreKept
  exact ⟨fun _ _ law h => (step_all h).attention law, fun _ _ law h => (step_all h).level law,
    fun _ _ law h => (step_all h).binding law, fun _ _ law h => (step_all h).record law⟩

/-- Settles O56, by what every step keeps. -/
theorem bankAndGainLawsAreKept : Obligations.BankAndGainLawsAreKept := by
  unfold Obligations.BankAndGainLawsAreKept
  exact ⟨fun _ _ law h => (step_all h).bank law, fun _ _ law h => (step_all h).gain law,
    fun _ _ banks law h => (step_all h).xpRamp banks law⟩

/-- Settles O57, by what every step keeps. -/
theorem countCursorAndRampLawsAreKept : Obligations.CountCursorAndRampLawsAreKept := by
  unfold Obligations.CountCursorAndRampLawsAreKept
  exact ⟨fun _ _ law h => (step_all h).window law, fun _ _ banks law h => (step_all h).monitor banks law,
    fun _ _ floor law h => (step_all h).hold floor.membership law, fun _ _ gain law h => (step_all h).ramp gain law⟩

/-- Settles O58, by what every step keeps. -/
theorem muteLawIsKept : Obligations.MuteLawIsKept := by
  unfold Obligations.MuteLawIsKept
  exact fun _ _ law h => (step_all h).mute law

/-- Settles O59, by what every step keeps. -/
theorem floorLawIsKept : Obligations.FloorLawIsKept := by
  unfold Obligations.FloorLawIsKept
  exact fun _ _ banks law h => (step_all h).floor banks law

/-- Settles O60, by what every step keeps. -/
theorem targetLawIsKept : Obligations.TargetLawIsKept := by
  unfold Obligations.TargetLawIsKept
  exact fun _ _ floor law h => (step_all h).target floor.membership law

end Sys2Proof.Machine.StepLaws
end

section
/-! Proofs for O1, O2 and O4: the queue's front is taken (O1), every command and event answers a next state that leaves
the queue (O2), and power-on reset leaves the power-on values (O4). The queue is one more field that the frames of the
shared operations leave; the rules below say so operation by operation. -/

namespace Sys2Proof.Machine.Queue

variable {s t u : State} {i : SrcSlot} {f : FeedSlot}

/-- Settles O1: the two cases of the queue. -/
theorem stepTakesTheFrontOfTheQueue : Obligations.StepTakesTheFrontOfTheQueue := by
  unfold Obligations.StepTakesTheFrontOfTheQueue
  refine ⟨fun c rest s h => ?front, fun s h => ?idle⟩
  case front => simp only [step, h]
  case idle => simp only [step, h]

/-! ### The shared operations leave the queue -/

theorem floorFrame_pending (h : FloorFrame s t) : t.pending = s.pending :=
  (congrArg State.pending h.rest :)

theorem finishEvent_pending (s t : State) : (finishEvent s t).pending = t.pending := by
  simp only [finishEvent, noteFloor, State.mapSrcs_pending, State.addNoticeIf_pending]

theorem deriveMutes_pending (affected : SrcSlot → Bool) (s : State) : (deriveMutes affected s).pending = s.pending :=
  (congrArg State.pending (deriveMutes_rest s affected) :)

theorem movePorts_pending (g : FarPort → Port → Port × Bool) (s : State) : (movePorts g s).pending = s.pending :=
  (congrArg State.pending (movePorts_rest s g) :)

theorem retargetFloor_pending (s : State) : (retargetFloor s).pending = s.pending := by
  simp only [retargetFloor, State.mapSrcs_pending]

theorem noteFloor_pending (s t : State) : (noteFloor s t).pending = t.pending := by
  simp only [noteFloor, State.addNoticeIf_pending]

theorem retireSource_pending (i : SrcSlot) (s : State) : (retireSource i s).pending = s.pending := by
  unfold retireSource
  dsimp only
  split <;> rfl

theorem clearFloor_pending (s : State) : (clearFloor s).pending = s.pending := by
  simp only [clearFloor, State.mapSrcs_pending]

theorem clearCounters_pending (s : State) (target : CountTarget) : (clearCounters s target).pending = s.pending := by
  cases target <;> rfl

theorem engineReset_pending (s : State) : (engineReset s).pending = s.pending :=
  (congrArg State.pending (cutBlock_rest s) :)

theorem frameIntake_pending (l : PodLink) (mutes chairs priv : Bool) (s : State) :
    (frameIntake l mutes chairs priv s).pending = s.pending := by
  rw [frameIntake_eq, deriveMutes_pending]
  exact (congrArg State.pending (frameInputs_rest l mutes chairs priv s) :)

theorem removal_pending (i : SrcSlot) (s : State) :
    (serviceIf (removeSource i s).2 (removeSource i s).1).pending = s.pending :=
  floorFrame_pending ((removeSource_frame i s).trans (serviceIf_frame _ _))

/-! ### Host commands leave the queue -/

/-- What a command that is taken leaves for its answer and of the state; a refused one has no effect (R186). -/
def Leaves (P : Reply → State → Prop) : Taken → Prop
  | .refused _ => True
  | .taken r t => P r t

section
variable {P : Reply → State → Prop}

theorem leaves_refused {k : ErrKind} : Leaves P (.refused k) := trivial

theorem leaves_activeSrc {slot : Byte} {g : SrcSlot → Taken} (h : ∀ i, Leaves P (g i)) :
    Leaves P (match activeSrc slot s with
      | .error k => .refused k
      | .ok i => g i) := by
  split
  · exact leaves_refused
  · exact h _

theorem leaves_activeFeed {slot : Byte} {g : FeedSlot → Taken} (h : ∀ f, Leaves P (g f)) :
    Leaves P (match activeFeed slot s with
      | .error k => .refused k
      | .ok f => g f) := by
  split
  · exact leaves_refused
  · exact h _

theorem leaves_ite {p : Prop} [Decidable p] {a b : Taken} (ha : Leaves P a) (hb : Leaves P b) :
    Leaves P (if p then a else b) := by
  split
  · exact ha
  · exact hb

theorem Leaves.imp {Q : Reply → State → Prop} (h : ∀ r t, P r t → Q r t) : ∀ {taken : Taken}, Leaves P taken → Leaves Q taken
  | .refused _, _ => trivial
  | .taken r t, held => h r t held

end

/-- A command that leaves the queue. -/
def QueueKept (s : State) : Taken → Prop := Leaves fun _ t => t.pending = s.pending

/-- A write: it leaves nothing for an answer, and leaves the queue. -/
def Writes (s : State) : Taken → Prop := Leaves fun r t => r = .plain ∧ t.pending = s.pending

theorem Writes.queue {taken : Taken} (h : Writes s taken) : QueueKept s taken := h.imp fun _ _ held => held.2

theorem writes_write (h : t.pending = s.pending) : Writes s (.write t) := ⟨rfl, h⟩

/-- The commands of the Source Table, the Mute Logic and the Floor Controller. -/
theorem takeSource_writes (s : State) :
    (∀ slot chair origin trim groups, Writes s (takeSrcAttach slot chair origin trim groups s)) ∧
    (∀ slot, Writes s (takeSrcRetire slot s)) ∧ (∀ slot v, Writes s (takeSrcTrim slot v s)) ∧
    (∀ slot g, Writes s (takeSrcGroups slot g s)) ∧ (∀ slot on, Writes s (takeSrcMute slot on s)) ∧
    (∀ g on, Writes s (takeGrpMute g on s)) ∧ (∀ on, Writes s (takeRoomMute on s)) ∧
    Writes s (takeFloorReset s) := by
  refine ⟨fun slot chair origin trim groups => ?attach, fun slot => leaves_activeSrc fun i => ?retire,
    fun slot v => leaves_activeSrc fun i => writes_write rfl, fun slot g => leaves_activeSrc fun i => ?groups,
    fun slot on => leaves_activeSrc fun i => ?mute, fun g on => ?group, fun on => ?room, ?reset⟩
  case attach =>
    unfold takeSrcAttach
    split
    · split
      · exact leaves_refused
      · exact leaves_ite leaves_refused (leaves_ite leaves_refused (writes_write rfl))
    · exact leaves_refused
  case retire =>
    exact writes_write ((retireSource_pending i _).trans ((finishEvent_pending s _).trans (removal_pending i s)))
  case groups => exact writes_write (deriveMutes_pending _ _)
  case mute => exact writes_write (deriveMutes_pending _ _)
  case group =>
    unfold takeGrpMute
    split
    · exact leaves_refused
    · exact leaves_ite (writes_write rfl) (writes_write (deriveMutes_pending _ _))
  case room => exact leaves_ite (writes_write rfl) (writes_write (deriveMutes_pending _ _))
  case reset =>
    exact writes_write ((retargetFloor_pending _).trans ((noteFloor_pending s _).trans (clearFloor_pending s)))

/-- The commands of the Feed Table. -/
theorem takeFeed_writes (s : State) :
    (∀ slot dest master excluded, Writes s (takeFeedAttach slot dest master excluded s)) ∧
    (∀ slot, Writes s (takeFeedRetire slot s)) ∧ (∀ slot v, Writes s (takeFeedLevel slot v s)) ∧
    (∀ slot on, Writes s (takeFeedMute slot on s)) ∧ ∀ slot g, Writes s (takeFeedExclude slot g s) := by
  refine ⟨fun slot dest master excluded => ?attach,
    fun slot => leaves_activeFeed fun f => leaves_ite (writes_write rfl) (writes_write rfl),
    fun slot v => leaves_activeFeed fun f => writes_write rfl,
    fun slot on => leaves_activeFeed fun f => writes_write rfl,
    fun slot g => leaves_activeFeed fun f => writes_write rfl⟩
  unfold takeFeedAttach
  split
  · exact leaves_ite leaves_refused (leaves_ite leaves_refused (writes_write rfl))
  · exact leaves_refused

/-- The commands of the Bank Store and the matrix window, POD.SETUP and NOTE.MASK. -/
theorem takeBank_writes (s : State) :
    Writes s (takeBankSwap s) ∧ Writes s (takeBankCopy s) ∧ (∀ pairs, Writes s (takeParamSet pairs s)) ∧
    (∀ fs fe ss se order fr sr, Writes s (takeXpWindow fs fe ss se order fr sr s)) ∧
    (∀ start words, Writes s (takeXpWrite start words s)) ∧ (∀ link depth, Writes s (takePodSetup link depth s)) ∧
    ∀ mask, Writes s (takeNoteMask mask s) := by
  refine ⟨leaves_ite (writes_write rfl) leaves_refused, leaves_ite (writes_write rfl) leaves_refused,
    fun pairs => leaves_ite leaves_refused (leaves_ite leaves_refused ?params),
    fun fs fe ss se order fr sr => ?window,
    fun start words => leaves_ite leaves_refused (leaves_ite leaves_refused (writes_write rfl)),
    fun link depth => ?setup, fun mask => writes_write rfl⟩
  case params =>
    split
    · exact leaves_refused
    · exact writes_write rfl
  case window =>
    unfold takeXpWindow
    split
    · exact leaves_ite (writes_write rfl) leaves_refused
    · exact leaves_refused
  case setup =>
    unfold takePodSetup
    split
    · exact leaves_refused
    · exact leaves_ite (writes_write rfl) leaves_refused

/-- The reads. -/
theorem takeRead_queue (s : State) :
    (∀ slot, QueueKept s (takeSrcGet slot s)) ∧ (∀ slot, QueueKept s (takeFeedGet slot s)) ∧
    (∀ bank, QueueKept s (takeParamGet bank s)) ∧ (∀ link, QueueKept s (takePodGet link s)) ∧
    (∀ port, QueueKept s (takePortGet port s)) ∧ (∀ kind number, QueueKept s (takeCountGet kind number s)) ∧
    ∀ start count, QueueKept s (takeXpRead start count s) := by
  refine ⟨fun slot => ?_, fun slot => ?_, fun bank => ?_, fun link => ?_, fun port => ?_, fun kind number => ?_,
    fun start count => leaves_ite leaves_refused rfl⟩
  all_goals
    simp only [takeSrcGet, takeFeedGet, takeParamGet, takePodGet, takePortGet, takeCountGet]
    split
    · exact leaves_refused
    · rfl

/-- A host command that is neither a read nor ENGINE.RESET is a write. -/
theorem takeCommand_writes {c : HostCmd} (write : readCode c.code = false) (ne : c ≠ .engineReset) (s : State) :
    Writes s (takeCommand c s) := by
  obtain ⟨attach, retire, trim, groups, mute, group, room, reset⟩ := takeSource_writes s
  obtain ⟨feedAttach, feedRetire, level, feedMute, exclude⟩ := takeFeed_writes s
  obtain ⟨swap, copy, params, window, put, setup, noteMask⟩ := takeBank_writes s
  cases c with
  | srcAttach slot chair origin v g => exact attach slot chair origin v g
  | srcRetire slot => exact retire slot
  | srcTrim slot v => exact trim slot v
  | srcGroups slot g => exact groups slot g
  | srcMute slot on => exact mute slot on
  | grpMute g on => exact group g on
  | roomMute on => exact room on
  | floorReset => exact reset
  | feedAttach slot dest master excluded => exact feedAttach slot dest master excluded
  | feedRetire slot => exact feedRetire slot
  | feedLevel slot v => exact level slot v
  | feedMute slot on => exact feedMute slot on
  | feedExclude slot g => exact exclude slot g
  | bankSwap => exact swap
  | bankCopy => exact copy
  | paramSet pairs => exact params pairs
  | xpWindow fs fe ss se order fr sr => exact window fs fe ss se order fr sr
  | xpPut words => exact put _ words
  | xpPutNext words => exact put _ words
  | podSetup link depth => exact setup link depth
  | noteMask mask => exact noteMask mask
  | engineReset => exact absurd rfl ne
  | _ => cases write

/-- Every host command leaves the queue. -/
theorem takeCommand_queue (c : HostCmd) (s : State) : QueueKept s (takeCommand c s) := by
  obtain ⟨srcGet, feedGet, paramGet, podGet, portGet, countGet, take⟩ := takeRead_queue s
  cases c with
  | xpTake count => exact take _ count
  | xpTakeNext count => exact take _ count
  | srcGet slot => exact srcGet slot
  | feedGet slot => exact feedGet slot
  | paramGet bank => exact paramGet bank
  | podGet link => exact podGet link
  | portGet port => exact portGet port
  | countGet kind number => exact countGet kind number
  | muteGet => rfl
  | floorGet => rfl
  | bankGet => rfl
  | noteGet => rfl
  | engineReset => exact engineReset_pending s
  | _ =>
    refine Writes.queue (takeCommand_writes ?_ ?_ s)
    · rfl
    · nofun

/-! ### The control link leaves the queue -/

theorem owe_pending (code : Byte) (wanted : Bool) (r : Reply) (s : State) : (owe code wanted r s).pending = s.pending := by
  unfold owe
  split <;> rfl

theorem settle_pending (code : Byte) (wanted : Bool) {taken : Taken} (h : QueueKept s taken) :
    (settle code wanted s taken).pending = s.pending := by
  cases taken with
  | refused k => exact owe_pending ..
  | taken r t => exact (owe_pending ..).trans h

theorem hostPacket_pending (c : HostCmd) (s : State) :
    (hostPacket c.code (takeCommand c) s).pending = s.pending := by
  unfold hostPacket
  split
  · rfl
  · exact (settle_pending _ _ (takeCommand_queue c _)).trans (openPacket_pending s)

theorem judgePacket_pending (wanted : Bool) (code : Byte) (body : PacketBody) (s : State) :
    (judgePacket wanted code body s).pending = s.pending := by
  unfold judgePacket
  refine settle_pending _ _ ?_
  split
  · exact takeCommand_queue _ s
  · exact leaves_refused

theorem acceptHeader_pending (d : BitVec 32) (s : State) : (acceptHeader d s).pending = s.pending := by
  unfold acceptHeader
  dsimp only
  split
  · rfl
  · exact judgePacket_pending ..

theorem judgeHeaderBytes_pending (b0 b1 b2 b3 b4 : Byte) (s : State) :
    (judgeHeaderBytes b0 b1 b2 b3 b4 s).pending = s.pending := by
  unfold judgeHeaderBytes
  split
  · exact acceptHeader_pending ..
  · exact acceptHeader_pending ..
  · rfl

theorem judgePayload_pending (wanted : Bool) (code : Byte) (words : List Word) (check : Word) (s : State) :
    (judgePayload wanted code words check s).pending = s.pending := by
  unfold judgePayload
  split
  · exact judgePacket_pending ..
  · exact owe_pending ..

theorem turnAround_pending (s : State) : (turnAround s).pending = s.pending := by
  unfold turnAround
  split <;> rfl

theorem answerSent_pending (as : List Answer) (r : Reply) (s : State) : (answerSent as r s).pending = s.pending := by
  have carried (a : Answer) : (carryOut a r s).pending = s.pending := (congrArg State.pending (carryOut_rest a r s) :)
  cases as with
  | nil => rfl
  | cons a rest => obtain ⟨-, e⟩ | ⟨-, e⟩ := answerSent_cons a rest r s <;> rw [e] <;> exact carried a

/-! ### Pod links, far-end ports and the mix block leave the queue -/

theorem goodFrame_pending (l : PodLink) (h : PodHeader) (audio : Vector Byte 1152) (s : State) :
    (goodFrame l h audio s).pending = s.pending := frameIntake_pending ..

theorem judgePresync_pending (l : PodLink) (h : PodHeader) (audio : Vector Byte 1152) (s : State) :
    (judgePresync l h audio s).pending = s.pending := by
  unfold judgePresync
  dsimp only
  split
  · split
    · exact goodFrame_pending ..
    · rfl
  · rfl

theorem badFrame_pending (l : PodLink) (s : State) : (badFrame l s).pending = s.pending := by
  rw [badFrame_eq]
  split
  · rw [loseSync_eq, finishEvent_pending]
    refine (floorFrame_pending ((removeSources_frame _ _).trans (serviceIf_frame _ _))).trans ?_
    simp only [syncLost, State.mapSrcs_pending, State.addNotice_pending, State.setPod_pending]
  · rfl

theorem codecPulse_pending (p : FarPort) (x : Sample) (s : State) : (codecPulse p x s).pending = s.pending := by
  unfold codecPulse
  dsimp only
  split
  · rfl
  · exact State.addNoticeIf_pending ..

theorem giveOutputs_pending (o : BlockOutputs) (s : State) : (giveOutputs o s).pending = s.pending :=
  (congrArg State.pending (giveOutputs_rest s o) :)

theorem feedsFormed_pending (s : State) : (feedsFormed s).pending = s.pending := by
  unfold feedsFormed
  split
  · exact formFeeds_pending ..
  · split
    · exact giveOutputs_pending ..
    · rfl

theorem swapEffect_pending (s : State) : (swapEffect s).pending = s.pending := by
  have rest := swapEffect_rest s
  generalize swapEffect s = t at rest ⊢
  exact (congrArg State.pending rest :)

theorem stampService_pending (s : State) : (stampService s).pending = s.pending := by
  unfold stampService
  split
  · refine (finishEvent_pending _ _).trans ?_
    exact floorFrame_pending ((expireStamps_frame s).trans (pendingService_frame _))
  · rfl

theorem startWork_pending (s : State) : (startWork s).pending = s.pending := by
  unfold startWork
  split
  · exact swapEffect_pending s
  · exact stampService_pending s

theorem deliver_pending (aux : Vector Block 8) (s : State) : (deliver aux s).pending = s.pending := by
  refine (movePorts_pending _ _).trans ?_
  simp only [State.mapSrcs_pending]

theorem stepRamps_pending (s : State) : (stepRamps s).pending = s.pending := by
  simp only [stepRamps, State.mapFeeds_pending, State.mapSrcs_pending]

theorem startBlock_pending (aux : Vector Block 8) (s : State) : (startBlock aux s).pending = s.pending := by
  have read (u : State) : (readBlock u).pending = u.pending := rfl
  unfold startBlock
  rw [read, stepRamps_pending, deliver_pending, movePorts_pending, startWork_pending]

theorem measure_pending (i : SrcSlot) (b : Block) (s : State) : (measure i b s).pending = s.pending := by
  refine (finishEvent_pending _ _).trans ((floorFrame_pending (floorHandover_frame i _)).trans ?_)
  exact State.addNoticeIf_pending ..

theorem holdExpiry_pending (i : SrcSlot) (s : State) : (holdExpiry i s).pending = s.pending := by
  refine (finishEvent_pending _ _).trans ?_
  exact floorFrame_pending ((expireHold_frame i s).trans (serviceIf_frame _ _))

theorem crosspointRampsEnd_pending (s : State) : (crosspointRampsEnd s).pending = s.pending := by
  unfold crosspointRampsEnd
  dsimp only
  split <;> rfl

/-! ### Every command and event -/

/-- A next state with the queue as it was. -/
theorem answers {r : Host.Outcome State Fault Refusal} (e : r = .next t) (h : t.pending = s.pending) :
    ∃ t, r = .next t ∧ t.pending = s.pending := ⟨t, e, h⟩

theorem ite_pending {p : Prop} [Decidable p] (h : t.pending = s.pending) :
    (if p then t else s).pending = s.pending := by
  split
  · exact h
  · rfl

theorem hostInstr_answers (c : HostCmd) (s : State) : ∃ t, exec (hostInstr c) s = .next t ∧ t.pending = s.pending :=
  answers (exec_hostInstr c s) (hostPacket_pending c s)

/-- Settles O2, row by row: what each row answers, and what its operation leaves of the queue. -/
theorem everyCommandCompletesAndKeepsTheQueue : Obligations.EveryCommandCompletesAndKeepsTheQueue := by
  unfold Obligations.EveryCommandCompletesAndKeepsTheQueue
  intro c s
  cases c with
  | srcAttach slot chair origin trim groups => exact hostInstr_answers (.srcAttach slot chair origin trim groups) s
  | srcRetire slot => exact hostInstr_answers (.srcRetire slot) s
  | srcTrim slot trim => exact hostInstr_answers (.srcTrim slot trim) s
  | srcGroups slot groups => exact hostInstr_answers (.srcGroups slot groups) s
  | srcGet slot => exact hostInstr_answers (.srcGet slot) s
  | srcMute slot on => exact hostInstr_answers (.srcMute slot on) s
  | grpMute group on => exact hostInstr_answers (.grpMute group on) s
  | roomMute on => exact hostInstr_answers (.roomMute on) s
  | muteGet => exact hostInstr_answers .muteGet s
  | floorGet => exact hostInstr_answers .floorGet s
  | floorReset => exact hostInstr_answers .floorReset s
  | feedAttach slot dest master excluded => exact hostInstr_answers (.feedAttach slot dest master excluded) s
  | feedRetire slot => exact hostInstr_answers (.feedRetire slot) s
  | feedLevel slot master => exact hostInstr_answers (.feedLevel slot master) s
  | feedMute slot on => exact hostInstr_answers (.feedMute slot on) s
  | feedExclude slot groups => exact hostInstr_answers (.feedExclude slot groups) s
  | feedGet slot => exact hostInstr_answers (.feedGet slot) s
  | bankSwap => exact hostInstr_answers .bankSwap s
  | bankCopy => exact hostInstr_answers .bankCopy s
  | bankGet => exact hostInstr_answers .bankGet s
  | paramSet pairs => exact hostInstr_answers (.paramSet pairs) s
  | paramGet bank => exact hostInstr_answers (.paramGet bank) s
  | xpWindow fs fe ss se order fr sr => exact hostInstr_answers (.xpWindow fs fe ss se order fr sr) s
  | xpPut words => exact hostInstr_answers (.xpPut words) s
  | xpPutNext words => exact hostInstr_answers (.xpPutNext words) s
  | xpTake count => exact hostInstr_answers (.xpTake count) s
  | xpTakeNext count => exact hostInstr_answers (.xpTakeNext count) s
  | podSetup link depth => exact hostInstr_answers (.podSetup link depth) s
  | podGet link => exact hostInstr_answers (.podGet link) s
  | portGet port => exact hostInstr_answers (.portGet port) s
  | noteGet => exact hostInstr_answers .noteGet s
  | noteMask mask => exact hostInstr_answers (.noteMask mask) s
  | countGet kind number => exact hostInstr_answers (.countGet kind number) s
  | engineReset => exact hostInstr_answers .engineReset s
  | powerOnReset => exact ⟨_, rfl, rfl⟩
  | packetStart => exact answers (t := openPacket s) rfl (openPacket_pending s)
  | headerComplete b0 b1 b2 b3 b4 =>
    refine answers rfl ?_
    split
    · exact judgeHeaderBytes_pending ..
    · rfl
  | payloadComplete words check =>
    refine answers rfl ?_
    split
    · exact ite_pending (judgePayload_pending ..)
    · rfl
  | turnaround => exact answers (t := turnAround s) rfl (turnAround_pending s)
  | answerSent =>
    refine answers rfl ?_
    split
    · exact answerSent_pending ..
    · rfl
  | mixBlockStart aux => exact answers (t := startBlock aux s) rfl (startBlock_pending aux s)
  | clockLoss port => exact answers rfl (State.addNoticeIf_pending ..)
  | swapEffect => exact answers rfl (ite_pending (swapEffect_pending s))
  | stampExpiry => exact answers (t := stampService s) rfl (stampService_pending s)
  | measurement slot =>
    refine answers rfl ?_
    split
    · exact ite_pending (measure_pending ..)
    · rfl
  | noiseFloorCreep slot => exact answers rfl (ite_pending rfl)
  | alert slot => exact answers rfl (ite_pending rfl)
  | holdExpiry slot => exact answers rfl (ite_pending (holdExpiry_pending slot s))
  | rampEnd owner => cases owner <;> exact ⟨_, rfl, rfl⟩
  | sourceRetirementCompletion slot => exact answers rfl (ite_pending rfl)
  | feedRetirementCompletion slot => exact answers rfl (ite_pending rfl)
  | crosspointRampsEnd => exact answers rfl (ite_pending (crosspointRampsEnd_pending s))
  | feedsFormed => exact answers (t := feedsFormed s) rfl (feedsFormed_pending s)
  | huntMatch link searched header =>
    refine answers rfl (ite_pending ?_)
    split <;> rfl
  | presyncJudgement link header audio => exact answers rfl (ite_pending (judgePresync_pending link header audio s))
  | goodFrameInSync link header audio => exact answers rfl (ite_pending (goodFrame_pending link header audio s))
  | badFrameInSync link header => exact answers rfl (ite_pending (badFrame_pending link s))
  | codecPulse port sample => exact answers (t := codecPulse port sample s) rfl (codecPulse_pending port sample s)

/-! ### The power-on values (R199) -/

/-- Settles O4: State.reset is the state POWER_ON_RESET leaves, and each of its records is read off. -/
theorem powerOnResetLeavesThePowerOnValues : Obligations.PowerOnResetLeavesThePowerOnValues := by
  unfold Obligations.PowerOnResetLeavesThePowerOnValues
  refine ⟨rfl, fun s => ⟨_, rfl, rfl, ?_, ?_, ?_, rfl, fun i => ?src, fun f => ?feed, rfl, rfl, rfl, rfl, rfl, rfl, rfl,
    rfl, rfl, rfl, rfl, fun n => ?bank, fun f i => ?ramp, fun l => ?pod, fun p => ?port⟩⟩
  · intro k; cases k <;> rfl
  · intro k; cases k <;> rfl
  · intro k; cases k <;> rfl
  case src =>
    have free : State.reset.srcs[i] = .free := Vector.getElem_replicate i.isLt
    simp only [free]
    exact ⟨rfl, rfl, rfl, rfl, rfl, rfl, rfl, rfl, rfl, rfl, rfl, rfl, rfl, rfl, rfl, rfl⟩
  case feed =>
    have free : State.reset.feeds[f] = .free 0 := Vector.getElem_replicate f.isLt
    simp only [free]
    exact ⟨rfl, rfl, rfl, rfl, rfl, rfl, rfl⟩
  case bank =>
    have default : State.reset.banks.bank n = .default := by cases n <;> rfl
    refine ⟨congrArg Bank.params default, fun f i => ?_⟩
    exact (congrArg (fun b : Bank => b.xp[f][i]) default).trans (matrix_const_at ..)
  case ramp => exact matrix_const_at ..
  case pod =>
    have reset : State.reset.pods[l] = .reset := Vector.getElem_replicate l.isLt
    simp only [reset]
    exact ⟨rfl, rfl, rfl, rfl, rfl, rfl, rfl, rfl, rfl, rfl⟩
  case port =>
    have reset : State.reset.ports[p] = .reset := Vector.getElem_replicate p.isLt
    simp only [reset]
    exact ⟨rfl, rfl, rfl, rfl, rfl, rfl, rfl, rfl, rfl, rfl, rfl, rfl, rfl⟩

end Sys2Proof.Machine.Queue
end

section
/-! Proofs for O6 and O15: the checks of chapter 11. A cyclic check is a register that takes one bit after another; the
header check is linear, so a received header is judged by the difference to the nearest one sent, and every single and
double error by the codeword positions of its bits (R202, R203, R208). -/

namespace Sys2Proof

/-! ### Lists of equal pieces (R200) -/

/-- Pieces of one length laid end to end: position r of piece q. -/
theorem getElem?_flatMap_pieces {α β : Type} {g : α → List β} {n : Nat} (size : ∀ x, (g x).length = n) {l : List α}
    {q r : Nat} (hr : r < n) : (l.flatMap g)[n * q + r]? = l[q]?.bind fun x => (g x)[r]? := by
  induction l generalizing q with
  | nil => rfl
  | cons x rest ih =>
    rw [List.flatMap_cons]
    cases q with
    | zero =>
      rw [List.getElem?_append_left (by rw [size]; omega)]
      simp
    | succ q =>
      have past : n * (q + 1) + r = n * q + r + n := by rw [Nat.mul_succ]; omega
      rw [List.getElem?_append_right (by rw [size]; omega), size, past, Nat.add_sub_cancel, ih]
      simp

theorem length_flatMap_pieces {α β : Type} {g : α → List β} {n : Nat} (size : ∀ x, (g x).length = n) (l : List α) :
    (l.flatMap g).length = n * l.length := by
  induction l with
  | nil => simp
  | cons x rest ih => rw [List.flatMap_cons, List.length_append, size, ih, List.length_cons, Nat.mul_succ, Nat.add_comm]

theorem byteBits_length (b : Byte) : (byteBits b).length = 8 := rfl

/-- Bit j of a byte on the line is its bit 7 - j (R200). -/
theorem byteBits_at (b : Byte) {j : Nat} (h : j < 8) : (byteBits b)[j]? = some (b.getLsbD (7 - j)) := by
  have all : ∀ j, j < 8 → (byteBits b)[j]? = some (b.getLsbD (7 - j)) := by
    simp only [Nat.forall_lt_succ_right, Nat.not_lt_zero]
    exact ⟨⟨⟨⟨⟨⟨⟨⟨nofun, rfl⟩, rfl⟩, rfl⟩, rfl⟩, rfl⟩, rfl⟩, rfl⟩, rfl⟩
  exact all j h

/-- The bits of a word as its bytes carry them. -/
def wordBits (w : Word) : List Bool := byteBits (hiByte w) ++ byteBits (loByte w)

theorem wordBits_length (w : Word) : (wordBits w).length = 16 := rfl

theorem wordBits_at (w : Word) {j : Nat} (h : j < 16) : (wordBits w)[j]? = some (w.getLsbD (15 - j)) := by
  unfold wordBits
  by_cases high : j < 8
  · rw [List.getElem?_append_left (by rw [byteBits_length]; exact high), byteBits_at _ high]
    simp only [hiByte, BitVec.getLsbD_extractLsb', show 7 - j < 8 by omega, show 8 + (7 - j) = 15 - j by omega,
      decide_true, Bool.true_and]
  · rw [List.getElem?_append_right (by rw [byteBits_length]; omega), byteBits_length, byteBits_at _ (by omega)]
    simp only [loByte, BitVec.getLsbD_extractLsb', show 7 - (j - 8) < 8 by omega,
      show 0 + (7 - (j - 8)) = 15 - j by omega, decide_true, Bool.true_and]

theorem lineBits_wordBytes (ws : List Word) : lineBits (wordBytes ws) = ws.flatMap wordBits := by
  unfold lineBits wordBytes wordBits
  rw [List.flatMap_assoc]
  simp

/-! ### Cyclic checks (R203, R208) -/

section
variable {n : Nat} {generator init : BitVec n}

theorem crcBit_eq (generator reg : BitVec n) (b : Bool) :
    crcBit generator reg b = (reg <<< 1) ^^^ (if reg.msb ≠ b then generator else 0) := by
  unfold crcBit
  cases reg.msb <;> cases b <;> simp

theorem foldl_crcByte (generator init : BitVec n) (bytes : List Byte) :
    bytes.foldl (crcByte generator) init = (lineBits bytes).foldl (crcBit generator) init := by
  induction bytes generalizing init with
  | nil => rfl
  | cons b rest ih =>
    have line : lineBits (b :: rest) = byteBits b ++ lineBits rest := by simp [lineBits]
    rw [List.foldl_cons, ih, line, List.foldl_append, crcByte]

/-- What a check's register holds after the first k bits of its input. -/
def register (generator init : BitVec n) (bits : List Bool) (k : Nat) : BitVec n :=
  (bits.take k).foldl (crcBit generator) init

theorem register_all (bits : List Bool) :
    register generator init bits bits.length = bits.foldl (crcBit generator) init := by
  rw [register, List.take_length]

theorem register_step {bits : List Bool} {k : Nat} {b : Bool} (h : bits[k]? = some b) :
    register generator init bits (k + 1) = (register generator init bits k <<< 1)
      ^^^ (if (register generator init bits k).msb ≠ b then generator else 0) := by
  rw [register, List.take_add_one, h, List.foldl_append, ← crcBit_eq]
  rfl

end

/-! ### Exclusive-or over a list of positions -/

/-- The exclusive-or of a flag over a list of positions. -/
def parityOver (l : List Nat) (g : Nat → Bool) : Bool := l.foldl (fun acc i => acc ^^ g i) false

theorem foldl_xor (l : List Nat) (g : Nat → Bool) (b : Bool) :
    l.foldl (fun acc i => acc ^^ g i) b = (b ^^ parityOver l g) := by
  induction l generalizing b with
  | nil => simp [parityOver]
  | cons i rest ih =>
    have first : parityOver (i :: rest) g = (g i ^^ parityOver rest g) := by
      rw [parityOver, List.foldl_cons, ih, Bool.false_xor]
    rw [List.foldl_cons, ih, first, Bool.xor_assoc]

theorem parityOver_cons (i : Nat) (l : List Nat) (g : Nat → Bool) :
    parityOver (i :: l) g = (g i ^^ parityOver l g) := by
  rw [parityOver, List.foldl_cons, foldl_xor, Bool.false_xor]

theorem parityOver_xor (l : List Nat) (g h : Nat → Bool) :
    parityOver l (fun i => g i ^^ h i) = (parityOver l g ^^ parityOver l h) := by
  induction l with
  | nil => rfl
  | cons i rest ih =>
    rw [parityOver_cons, parityOver_cons, parityOver_cons, ih]
    cases g i <;> cases h i <;> cases parityOver rest g <;> cases parityOver rest h <;> rfl

theorem parityOver_congr {l : List Nat} {g h : Nat → Bool} (same : ∀ i ∈ l, g i = h i) :
    parityOver l g = parityOver l h := by
  induction l with
  | nil => rfl
  | cons i rest ih =>
    rw [parityOver_cons, parityOver_cons, same i List.mem_cons_self, ih fun j hj => same j (List.mem_cons_of_mem _ hj)]

theorem parityOver_range_succ (n : Nat) (g : Nat → Bool) :
    parityOver (List.range (n + 1)) g = (parityOver (List.range n) g ^^ g n) := by
  rw [parityOver, List.range_succ, List.foldl_append]
  rfl

/-- The exclusive-or is on exactly when an odd number of positions are. -/
theorem parityOver_iff_odd (l : List Nat) (g : Nat → Bool) : parityOver l g = true ↔ l.countP g % 2 = 1 := by
  induction l with
  | nil => simp [parityOver]
  | cons i rest ih =>
    rw [parityOver_cons, List.countP_cons]
    cases g i
    · simpa using ih
    · rw [Bool.true_xor, Bool.not_eq_true', ← Bool.not_eq_true, ih, if_pos rfl]
      omega

/-! ### The header check is linear (R202) -/

theorem positionCheck_xor (c d : BitVec 32) (k : Nat) :
    positionCheck (c ^^^ d) k = (positionCheck c k ^^ positionCheck d k) := by
  refine Eq.trans ?_ (parityOver_xor (List.range 32) _ _)
  refine congrArg (parityOver (List.range 32)) (funext fun i => ?_)
  rw [BitVec.getLsbD_xor, Bool.and_xor_distrib_left]

theorem contentParity_xor (c d : BitVec 32) : contentParity (c ^^^ d) = (contentParity c ^^ contentParity d) := by
  refine Eq.trans ?_ (parityOver_xor (List.range 32) _ _)
  exact congrArg (parityOver (List.range 32)) (funext fun i => BitVec.getLsbD_xor)

theorem xor_six (b : Bool) (p : Nat → Bool) :
    (b ^^ parityOver (List.range 6) p) = (b ^^ p 0 ^^ p 1 ^^ p 2 ^^ p 3 ^^ p 4 ^^ p 5) :=
  (foldl_xor (List.range 6) p b).symm

/-- Check bit c6: the exclusive-or of the content and of the other check bits. -/
def topCheck (d : BitVec 32) : Bool := contentParity d ^^ parityOver (List.range 6) (positionCheck d)

theorem topCheck_xor (c d : BitVec 32) : topCheck (c ^^^ d) = (topCheck c ^^ topCheck d) := by
  have checks : parityOver (List.range 6) (positionCheck (c ^^^ d))
      = (parityOver (List.range 6) (positionCheck c) ^^ parityOver (List.range 6) (positionCheck d)) := by
    rw [← parityOver_xor]
    exact congrArg (parityOver (List.range 6)) (funext fun k => positionCheck_xor c d k)
  rw [topCheck, topCheck, topCheck, checks, contentParity_xor]
  cases contentParity c <;> cases contentParity d <;> simp

/-- Seven flags as a byte, the first its lowest bit. -/
def flagsByte (b0 b1 b2 b3 b4 b5 b6 : Bool) : Byte :=
  BitVec.ofNat 8 (b0.toNat + 2 * b1.toNat + 4 * b2.toNat + 8 * b3.toNat + 16 * b4.toNat + 32 * b5.toNat
    + 64 * b6.toNat)

theorem flagsByte_bits : ∀ b0 b1 b2 b3 b4 b5 b6 : Bool, ∀ j < 8,
    (flagsByte b0 b1 b2 b3 b4 b5 b6).getLsbD j = [b0, b1, b2, b3, b4, b5, b6].getD j false := by decide

/-- The bits of a header's check byte. -/
def checkBits (d : BitVec 32) : List Bool :=
  [positionCheck d 0, positionCheck d 1, positionCheck d 2, positionCheck d 3, positionCheck d 4, positionCheck d 5,
    topCheck d]

theorem headerCheck_bit (d : BitVec 32) {j : Nat} (h : j < 8) :
    (headerCheck d).getLsbD j = (checkBits d).getD j false := by
  have top : topCheck d = (contentParity d ^^ positionCheck d 0 ^^ positionCheck d 1 ^^ positionCheck d 2
      ^^ positionCheck d 3 ^^ positionCheck d 4 ^^ positionCheck d 5) :=
    xor_six _ _
  rw [checkBits, top]
  exact flagsByte_bits _ _ _ _ _ _ _ j h

theorem headerCheck_position (d : BitVec 32) {k : Nat} (h : k < 6) : (headerCheck d).getLsbD k = positionCheck d k := by
  rw [headerCheck_bit d (by omega)]
  match k, h with
  | 0, _ | 1, _ | 2, _ | 3, _ | 4, _ | 5, _ => rfl

theorem checkBits_xor (c d : BitVec 32) (j : Nat) : (checkBits (c ^^^ d)).getD j false
    = ((checkBits c).getD j false ^^ (checkBits d).getD j false) := by
  unfold checkBits
  simp only [positionCheck_xor, topCheck_xor]
  match j with
  | 0 | 1 | 2 | 3 | 4 | 5 | 6 => rfl
  | _ + 7 => rfl

theorem headerCheck_xor (c d : BitVec 32) : headerCheck (c ^^^ d) = headerCheck c ^^^ headerCheck d := by
  refine BitVec.eq_of_getLsbD_eq fun j hj => ?_
  rw [BitVec.getLsbD_xor, headerCheck_bit _ hj, headerCheck_bit _ hj, headerCheck_bit _ hj, checkBits_xor]

/-! ### The judgement by syndrome and parity (R202) -/

/-- A number put together from its lower bits. -/
theorem foldl_bits (x m : Nat) :
    (List.range m).foldl (fun acc k => acc + (x.testBit k).toNat * 2 ^ k) 0 = x % 2 ^ m := by
  induction m with
  | zero => simp [Nat.mod_one]
  | succ m ih => 
    rw [List.range_succ, List.foldl_append, ih, Nat.mod_pow_succ, ← Nat.toNat_testBit, Nat.mul_comm]
    rfl

/-- The syndrome is the difference of the check bits 5 to 0. -/
theorem syndrome_eq (d : BitVec 32) (c : Byte) : syndrome d c = ((c ^^^ headerCheck d).extractLsb' 0 6).toNat := by
  rw [← Nat.mod_eq_of_lt (BitVec.isLt _), ← foldl_bits, syndrome]
  refine List.foldl_ext _ _ _ fun acc k hk => ?_
  have hk := List.mem_range.mp hk
  rw [BitVec.testBit_toNat, BitVec.getLsbD_extractLsb', BitVec.getLsbD_xor, Nat.zero_add, headerCheck_position d hk, decide_eq_true hk,
    Bool.true_and, Bool.xor_comm]

/-- The parity of the 39 bits as the number of those that are on. -/
theorem receivedParity_iff (d : BitVec 32) (c : Byte) : receivedParity d c = true ↔
    ((List.range 32).countP d.getLsbD + (List.range 7).countP c.getLsbD) % 2 = 1 := by
  have content := parityOver_iff_odd (List.range 32) d.getLsbD
  have check := parityOver_iff_odd (List.range 7) c.getLsbD
  rw [receivedParity, foldl_xor]
  change (parityOver (List.range 32) d.getLsbD ^^ _) = true ↔ _
  cases hd : parityOver (List.range 32) d.getLsbD <;> cases hc : parityOver (List.range 7) c.getLsbD <;>
    simp only [hd, hc, Bool.false_eq_true, false_iff, true_iff] at content check <;> simp <;> omega

/-- What a syndrome and a parity show of a content (the table of R202). -/
def verdict (d : BitVec 32) (s : Nat) : Bool → HeaderJudgement
  | false => if s = 0 then .correct else .failed
  | true =>
    if s = 0 ∨ s = 1 ∨ s = 2 ∨ s = 4 ∨ s = 8 ∨ s = 16 ∨ s = 32 then .corrected d
    else match contentPositions.idxOf? s with
      | some i => .corrected (d ^^^ BitVec.twoPow 32 i)
      | none => .failed

theorem judgeHeader_eq (d : BitVec 32) (c : Byte) : judgeHeader d c = verdict d (syndrome d c) (receivedParity d c) := by
  unfold judgeHeader verdict
  generalize syndrome d c = s
  generalize receivedParity d c = p
  cases p <;> rfl

theorem verdict_even {d : BitVec 32} {s : Nat} (h : s ≠ 0) : verdict d s false = .failed := if_neg h

/-- The syndromes that a flipped check bit, or none, leaves. -/
theorem verdict_check {d : BitVec 32} {s : Nat} (h : s ∈ [0, 1, 2, 4, 8, 16, 32]) : verdict d s true = .corrected d := by
  simp only [List.mem_cons, List.not_mem_nil, or_false] at h
  exact if_pos h

/-- The syndrome that is a content bit's position. -/
theorem verdict_content {d : BitVec 32} {i : Nat} (h : i < 32) :
    verdict d (contentPositions.getD i 0) true = .corrected (d ^^^ BitVec.twoPow 32 i) := by
  have found : ∀ i < 32, contentPositions.idxOf? (contentPositions.getD i 0) = some i := by decide
  have named : ∀ i < 32, ¬ (contentPositions.getD i 0 = 0 ∨ contentPositions.getD i 0 = 1 ∨
      contentPositions.getD i 0 = 2 ∨ contentPositions.getD i 0 = 4 ∨ contentPositions.getD i 0 = 8 ∨
      contentPositions.getD i 0 = 16 ∨ contentPositions.getD i 0 = 32) := by decide
  rw [verdict, if_neg (named i h), found i h]

/-- A syndrome past every position. -/
theorem verdict_past {d : BitVec 32} {s : Nat} (h : 39 ≤ s) : verdict d s true = .failed := by
  have below : ∀ p ∈ contentPositions, p < 39 := by decide
  have absent : contentPositions.idxOf? s = none := by
    rw [List.idxOf?_eq_none_iff]
    exact fun found => by have := below s found; omega
  rw [verdict, if_neg (by omega), absent]

/-! ### Errors judged (R202) -/

/-- The judgement of a content sent with its check sees the errors alone. -/
theorem syndrome_shift (d e : BitVec 32) (f : Byte) : syndrome (d ^^^ e) (headerCheck d ^^^ f) = syndrome e f := by
  have difference : headerCheck d ^^^ f ^^^ (headerCheck d ^^^ headerCheck e) = f ^^^ headerCheck e := by
    refine BitVec.eq_of_getLsbD_eq fun j _ => ?_
    simp only [BitVec.getLsbD_xor]
    cases (headerCheck d).getLsbD j <;> cases f.getLsbD j <;> cases (headerCheck e).getLsbD j <;> rfl
  rw [syndrome_eq, syndrome_eq, headerCheck_xor, difference]

theorem receivedParity_eq (d : BitVec 32) (c : Byte) :
    receivedParity d c = (contentParity d ^^ parityOver (List.range 7) c.getLsbD) := foldl_xor ..

theorem parityOver_seven_xor (c f : Byte) : parityOver (List.range 7) (c ^^^ f).getLsbD
    = (parityOver (List.range 7) c.getLsbD ^^ parityOver (List.range 7) f.getLsbD) := by
  rw [← parityOver_xor]
  exact congrArg (parityOver (List.range 7)) (funext fun k => BitVec.getLsbD_xor)

/-- A content and its check have an even number of bits on. -/
theorem receivedParity_sent (d : BitVec 32) : receivedParity d (headerCheck d) = false := by
  have six : ∀ k ∈ List.range 6, (headerCheck d).getLsbD k = positionCheck d k :=
    fun k hk => headerCheck_position d (List.mem_range.mp hk)
  have seven : parityOver (List.range 7) (headerCheck d).getLsbD
      = (parityOver (List.range 6) (positionCheck d) ^^ topCheck d) := by
    rw [parityOver_range_succ, parityOver_congr six, headerCheck_bit d (by decide)]
    rfl
  rw [receivedParity_eq, seven, topCheck]
  cases contentParity d <;> cases parityOver (List.range 6) (positionCheck d) <;> rfl

theorem receivedParity_shift (d e : BitVec 32) (f : Byte) :
    receivedParity (d ^^^ e) (headerCheck d ^^^ f) = receivedParity e f := by
  have sent := receivedParity_sent d
  rw [receivedParity_eq] at sent
  rw [receivedParity_eq, receivedParity_eq, contentParity_xor, parityOver_seven_xor]
  revert sent
  cases contentParity d <;> cases parityOver (List.range 7) (headerCheck d).getLsbD <;> simp

/-- A received header is judged as the errors are, by their difference from what was sent. -/
theorem judgeHeader_errors (d e : BitVec 32) (f : Byte) :
    judgeHeader (d ^^^ e) (headerCheck d ^^^ f) = verdict (d ^^^ e) (syndrome e f) (receivedParity e f) := by
  rw [judgeHeader_eq, syndrome_shift, receivedParity_shift]

/-- The check is not read above its bit 6. -/
theorem syndrome_check_xor (e : BitVec 32) (f g : Byte) (low : ∀ k < 6, g.getLsbD k = false) :
    syndrome e (f ^^^ g) = syndrome e f := by
  unfold syndrome
  refine List.foldl_ext _ _ _ fun acc k hk => ?_
  rw [BitVec.getLsbD_xor, low k (List.mem_range.mp hk), Bool.xor_false]

theorem receivedParity_check_xor (e : BitVec 32) (f g : Byte) :
    receivedParity e (f ^^^ g) = (receivedParity e f ^^ parityOver (List.range 7) g.getLsbD) := by
  rw [receivedParity_eq, receivedParity_eq, parityOver_seven_xor, Bool.xor_assoc]

theorem receivedParity_content_xor (e e' : BitVec 32) (f : Byte) :
    receivedParity (e ^^^ e') f = (receivedParity e f ^^ contentParity e') := by
  rw [receivedParity_eq, receivedParity_eq, contentParity_xor]
  cases contentParity e <;> cases contentParity e' <;> simp

/-- One content bit: its position, and an odd parity. -/
theorem content_bit {i : Nat} (h : i < 32) :
    syndrome (BitVec.twoPow 32 i) 0 = contentPositions.getD i 0 ∧ contentParity (BitVec.twoPow 32 i) = true := by
  have all : ∀ i < 32, syndrome (BitVec.twoPow 32 i) 0 = contentPositions.getD i 0 ∧
      contentParity (BitVec.twoPow 32 i) = true := by decide +kernel
  exact all i h

/-- One check bit: a syndrome that names no content bit, and an odd parity. -/
theorem check_bit {k : Nat} (h : k < 7) :
    syndrome 0 (BitVec.twoPow 8 k) ∈ [0, 1, 2, 4, 8, 16, 32] ∧
      parityOver (List.range 7) (BitVec.twoPow 8 k).getLsbD = true := by
  have all : ∀ k < 7, syndrome 0 (BitVec.twoPow 8 k) ∈ [0, 1, 2, 4, 8, 16, 32] ∧
      parityOver (List.range 7) (BitVec.twoPow 8 k).getLsbD = true := by decide +kernel
  exact all k h

/-- Two errors have the difference of their syndromes. -/
theorem syndrome_xor (e e' : BitVec 32) (f f' : Byte) :
    syndrome (e ^^^ e') (f ^^^ f') = syndrome e f ^^^ syndrome e' f' := by
  have parts : f ^^^ f' ^^^ (headerCheck e ^^^ headerCheck e') = (f ^^^ headerCheck e) ^^^ (f' ^^^ headerCheck e') := by
    refine BitVec.eq_of_getLsbD_eq fun j _ => ?_
    simp only [BitVec.getLsbD_xor]
    cases f.getLsbD j <;> cases f'.getLsbD j <;> cases (headerCheck e).getLsbD j <;>
      cases (headerCheck e').getLsbD j <;> rfl
  rw [syndrome_eq, syndrome_eq, syndrome_eq, headerCheck_xor, parts, BitVec.extractLsb'_xor, BitVec.toNat_xor]

theorem syndrome_xor_ne_zero {e e' : BitVec 32} {f f' : Byte} (h : syndrome e f ≠ syndrome e' f') :
    syndrome (e ^^^ e') (f ^^^ f') ≠ 0 := by
  rw [syndrome_xor]
  exact fun same => h (Nat.xor_eq_zero_iff.mp same)

theorem contentPositions_ne {i j : Nat} (hij : i < j) (hj : j < 32) :
    contentPositions.getD i 0 ≠ contentPositions.getD j 0 := by
  have all : ∀ j < 32, ∀ i < j, contentPositions.getD i 0 ≠ contentPositions.getD j 0 := by decide +kernel
  exact all j hj i hij

theorem contentPosition_named {i : Nat} (h : i < 32) : contentPositions.getD i 0 ∉ [0, 1, 2, 4, 8, 16, 32] := by
  have all : ∀ i < 32, contentPositions.getD i 0 ∉ [0, 1, 2, 4, 8, 16, 32] := by decide
  exact all i h

theorem checkSyndromes_ne {j k : Nat} (hjk : j < k) (hk : k < 7) :
    syndrome 0 (BitVec.twoPow 8 j) ≠ syndrome 0 (BitVec.twoPow 8 k) := by
  have all : ∀ k < 7, ∀ j < k, syndrome 0 (BitVec.twoPow 8 j) ≠ syndrome 0 (BitVec.twoPow 8 k) := by decide +kernel
  exact all k hk j hjk

/-- An error in the content alone. -/
theorem judgeHeader_content (d e : BitVec 32) :
    judgeHeader (d ^^^ e) (headerCheck d) = verdict (d ^^^ e) (syndrome e 0) (receivedParity e 0) := by
  have h := judgeHeader_errors d e 0
  rwa [show headerCheck d ^^^ 0 = headerCheck d from BitVec.xor_zero] at h

/-- An error in the check byte alone. -/
theorem judgeHeader_check (d : BitVec 32) (f : Byte) :
    judgeHeader d (headerCheck d ^^^ f) = verdict d (syndrome 0 f) (receivedParity 0 f) := by
  have h := judgeHeader_errors d 0 f
  rwa [show d ^^^ 0 = d from BitVec.xor_zero] at h

theorem receivedParity_content (e : BitVec 32) : receivedParity e 0 = contentParity e := by
  rw [receivedParity_eq]
  exact Bool.xor_false _

theorem receivedParity_check (f : Byte) : receivedParity 0 f = parityOver (List.range 7) f.getLsbD := by
  rw [receivedParity_eq]
  exact Bool.false_xor _

/-- A header received as it was sent. -/
theorem judgeHeader_sent (d : BitVec 32) : judgeHeader d (headerCheck d) = .correct := by
  have even : receivedParity d (headerCheck d) = false := receivedParity_sent d
  have zero : syndrome d (headerCheck d) = 0 := by rw [syndrome_eq, BitVec.xor_self]; rfl
  rw [judgeHeader_eq, even, zero]
  rfl

/-- Bit 7 of the check byte is not read. -/
theorem judgeHeader_unread (d : BitVec 32) (c : Byte) : judgeHeader d (c ^^^ BitVec.twoPow 8 7) = judgeHeader d c := by
  have low : ∀ k < 7, (BitVec.twoPow 8 7).getLsbD k = false := by decide
  have none_on : parityOver (List.range 7) (BitVec.twoPow 8 7).getLsbD = false := by decide
  rw [judgeHeader_eq, judgeHeader_eq, syndrome_check_xor d c _ fun k hk => low k (by omega), receivedParity_check_xor,
    none_on, Bool.xor_false]

theorem judgeHeader_one_content (d : BitVec 32) {i : Nat} (h : i < 32) :
    judgeHeader (d ^^^ BitVec.twoPow 32 i) (headerCheck d) = .corrected d := by
  obtain ⟨position, odd⟩ := content_bit h
  rw [judgeHeader_content, receivedParity_content, odd, position, verdict_content h, BitVec.xor_assoc, BitVec.xor_self,
    BitVec.xor_zero]

theorem judgeHeader_one_check (d : BitVec 32) {k : Nat} (h : k < 7) :
    judgeHeader d (headerCheck d ^^^ BitVec.twoPow 8 k) = .corrected d := by
  obtain ⟨power, odd⟩ := check_bit h
  rw [judgeHeader_check, receivedParity_check, odd, verdict_check power]

theorem judgeHeader_two_content (d : BitVec 32) {i j : Nat} (hij : i < j) (hj : j < 32) :
    judgeHeader (d ^^^ BitVec.twoPow 32 i ^^^ BitVec.twoPow 32 j) (headerCheck d) = .failed := by
  obtain ⟨here, odd⟩ := content_bit (show i < 32 by omega)
  obtain ⟨there, odd'⟩ := content_bit hj
  have differ : syndrome (BitVec.twoPow 32 i ^^^ BitVec.twoPow 32 j) (0 ^^^ 0) ≠ 0 :=
    syndrome_xor_ne_zero (by rw [here, there]; exact contentPositions_ne hij hj)
  rw [BitVec.xor_assoc, judgeHeader_content, receivedParity_content, contentParity_xor, odd, odd']
  exact verdict_even differ

theorem judgeHeader_content_and_check (d : BitVec 32) {i k : Nat} (hi : i < 32) (hk : k < 7) :
    judgeHeader (d ^^^ BitVec.twoPow 32 i) (headerCheck d ^^^ BitVec.twoPow 8 k) = .failed := by
  obtain ⟨here, odd⟩ := content_bit hi
  obtain ⟨power, odd'⟩ := check_bit hk
  have differ : syndrome (BitVec.twoPow 32 i ^^^ 0) (0 ^^^ BitVec.twoPow 8 k) ≠ 0 :=
    syndrome_xor_ne_zero (by rw [here]; exact fun same => contentPosition_named hi (same ▸ power))
  have parity : receivedParity (BitVec.twoPow 32 i) (BitVec.twoPow 8 k) = false := by
    rw [receivedParity_eq, odd, odd']
    rfl
  rw [judgeHeader_errors, parity]
  rw [show BitVec.twoPow 32 i ^^^ 0 = BitVec.twoPow 32 i from BitVec.xor_zero,
    show 0 ^^^ BitVec.twoPow 8 k = BitVec.twoPow 8 k from BitVec.zero_xor] at differ
  exact verdict_even differ

theorem judgeHeader_two_check (d : BitVec 32) {j k : Nat} (hjk : j < k) (hk : k < 7) :
    judgeHeader d (headerCheck d ^^^ BitVec.twoPow 8 j ^^^ BitVec.twoPow 8 k) = .failed := by
  have odd := (check_bit (show j < 7 by omega)).2
  have odd' := (check_bit hk).2
  have differ : syndrome (0 ^^^ 0) (BitVec.twoPow 8 j ^^^ BitVec.twoPow 8 k) ≠ 0 :=
    syndrome_xor_ne_zero (checkSyndromes_ne hjk hk)
  rw [BitVec.xor_assoc, judgeHeader_check, receivedParity_check, parityOver_seven_xor, odd, odd']
  exact verdict_even differ

theorem headerCheck_twoPow {i : Nat} (h : i < 32) :
    ((headerCheck (BitVec.twoPow 32 i)).extractLsb' 0 6).toNat = contentPositions.getD i 0 := by
  rw [← (content_bit h).1, syndrome_eq, show 0 ^^^ headerCheck (BitVec.twoPow 32 i) = _ from BitVec.zero_xor]

namespace Checks

/-- Settles O6: the single and double errors by their positions, and the judgement by the table. -/
theorem headerCheckCorrectsOneErrorAndRefusesTwo : Obligations.HeaderCheckCorrectsOneErrorAndRefusesTwo := by
  unfold Obligations.HeaderCheckCorrectsOneErrorAndRefusesTwo
  refine ⟨fun d => ⟨judgeHeader_sent d, judgeHeader_unread d, fun i => judgeHeader_one_content d,
    fun k => judgeHeader_one_check d, fun i j => judgeHeader_two_content d, fun i k => judgeHeader_content_and_check d,
    fun j k => judgeHeader_two_check d⟩, fun d c syn ones hsyn hones => ?table⟩
  have judged : judgeHeader d c = verdict d syn (receivedParity d c) := by rw [judgeHeader_eq, syndrome_eq, hsyn]
  have odd (h : ones % 2 = 1) : receivedParity d c = true := (receivedParity_iff d c).mpr (hones ▸ h)
  have even (h : ones % 2 = 0) : receivedParity d c = false := by
    rw [← Bool.not_eq_true, receivedParity_iff, ← hones]
    omega
  refine ⟨fun zero h => ?_, fun power h => ?_, fun i hi at_bit h => ?_, fun past h => ?_, fun differ h => ?_⟩
  · rw [judged, even h, zero]; rfl
  · rw [judged, odd h, verdict_check power]
  · rw [judged, odd h, at_bit, headerCheck_twoPow hi, verdict_content hi]
  · rw [judged, odd h, verdict_past past]
  · rw [judged, even h, verdict_even differ]

theorem crc16_eq (words : List Word) : crc16 words = register 0x1021 0xFFFF (words.flatMap wordBits) (16 * words.length) := by
  rw [crc16, foldl_crcByte, lineBits_wordBytes, ← length_flatMap_pieces wordBits_length, register_all]

theorem crc8_eq (bytes : List Byte) : crc8 bytes = register 0x07 0 (lineBits bytes) (8 * bytes.length) := by
  have size : 8 * bytes.length = (lineBits bytes).length := (length_flatMap_pieces byteBits_length bytes).symm
  rw [crc8, foldl_crcByte, size, register_all]

theorem wordBits_bit {words : List Word} {k : Nat} (h : k < 16 * words.length) :
    (words.flatMap wordBits)[k]? = some ((words.getD (k / 16) 0).getLsbD (15 - k % 16)) := by
  have place : k / 16 < words.length := Nat.div_lt_of_lt_mul h
  have bit := getElem?_flatMap_pieces wordBits_length (l := words) (q := k / 16) (Nat.mod_lt k (by decide : 0 < 16))
  rw [Nat.div_add_mod] at bit
  rw [bit, List.getElem?_eq_getElem place, List.getD_eq_getElem _ _ place]
  exact wordBits_at _ (Nat.mod_lt k (by decide))

theorem lineBits_bit {bytes : List Byte} {k : Nat} (h : k < 8 * bytes.length) :
    (lineBits bytes)[k]? = some ((bytes.getD (k / 8) 0).getLsbD (7 - k % 8)) := by
  have place : k / 8 < bytes.length := Nat.div_lt_of_lt_mul h
  have bit := getElem?_flatMap_pieces byteBits_length (l := bytes) (q := k / 8) (Nat.mod_lt k (by decide : 0 < 8))
  rw [Nat.div_add_mod] at bit
  rw [lineBits, bit, List.getElem?_eq_getElem place, List.getD_eq_getElem _ _ place]
  exact byteBits_at _ (Nat.mod_lt k (by decide))

/-- Settles O15: the registers after k bits, and the header check by its linearity and its values at single bits. -/
theorem checksAreTheirGeneratorsAndPositions : Obligations.ChecksAreTheirGeneratorsAndPositions := by
  unfold Obligations.ChecksAreTheirGeneratorsAndPositions
  refine ⟨fun words => ⟨_, rfl, crc16_eq words, fun k hk => ?crc16⟩, fun bytes => ⟨_, rfl, crc8_eq bytes, fun k hk => ?crc8⟩,
    headerCheck_xor, fun d => headerCheck_bit d (by decide), fun i hi => ?position⟩
  case crc16 => rw [register_step (wordBits_bit hk), BitVec.msb_eq_getLsbD_last]
  case crc8 => rw [register_step (lineBits_bit hk), BitVec.msb_eq_getLsbD_last]
  case position =>
    have named : ∀ i < 32, contentPositions[i]? = some (contentPositions.getD i 0) := by decide
    have low : ∀ i < 32, (headerCheck (BitVec.twoPow 32 i)).toNat % 64 = contentPositions.getD i 0 := by decide +kernel
    have odd : ∀ i < 32, ((List.range 7).countP fun k => (headerCheck (BitVec.twoPow 32 i)).getLsbD k) % 2 = 1 := by
      decide +kernel
    exact ⟨_, named i hi, low i hi, odd i hi⟩

end Checks

end Sys2Proof
end

section
/-! Proofs for O10: the codes and the packing of the host commands' parameters, and reading them back (R204). -/

namespace Sys2Proof

/-! ### Words and bytes (R200) -/

@[simp] theorem hiByte_wordOf (hi lo : Byte) : hiByte (wordOf hi lo) = hi := by
  refine BitVec.eq_of_getLsbD_eq fun j hj => ?_
  simp only [hiByte, wordOf, BitVec.getLsbD_extractLsb', BitVec.getLsbD_append, hj, decide_true, Bool.true_and,
    show ¬ 8 + j < 8 by omega, if_false, Nat.add_sub_cancel_left]

@[simp] theorem loByte_wordOf (hi lo : Byte) : loByte (wordOf hi lo) = lo := by
  refine BitVec.eq_of_getLsbD_eq fun j hj => ?_
  simp only [loByte, wordOf, BitVec.getLsbD_extractLsb', BitVec.getLsbD_append, hj, decide_true, Bool.true_and,
    Nat.zero_add, if_true]

@[simp] theorem wordOf_bytes (w : Word) : wordOf (hiByte w) (loByte w) = w := by
  refine BitVec.eq_of_getLsbD_eq fun j hj => ?_
  by_cases low : j < 8
  · simp only [hiByte, loByte, wordOf, BitVec.getLsbD_extractLsb', BitVec.getLsbD_append, low, decide_true,
      Bool.true_and, Nat.zero_add, if_true]
  · simp only [hiByte, loByte, wordOf, BitVec.getLsbD_extractLsb', BitVec.getLsbD_append, low, if_false,
      show j - 8 < 8 by omega, decide_true, Bool.true_and, show 8 + (j - 8) = j by omega]

@[simp] theorem flagByte_bit (b : Bool) : (flagByte b).getLsbD 0 = b := by cases b <;> rfl

/-- The low byte of SRC.ATTACH's word 0: the chair flag above the origin. -/
theorem chairOrigin_chair (slot : Byte) (chair : Bool) (origin : BitVec 7) :
    (wordOf slot (BitVec.ofBool chair ++ origin)).getLsbD 7 = chair := by
  rw [wordOf, BitVec.getLsbD_append, if_pos (by decide), BitVec.getLsbD_append, if_neg (by decide)]
  cases chair <;> rfl

theorem chairOrigin_origin (slot : Byte) (chair : Bool) (origin : BitVec 7) :
    (wordOf slot (BitVec.ofBool chair ++ origin)).extractLsb' 0 7 = origin := by
  refine BitVec.eq_of_getLsbD_eq fun j hj => ?_
  rw [BitVec.getLsbD_extractLsb', wordOf, BitVec.getLsbD_append, if_pos (by omega), BitVec.getLsbD_append,
    if_pos (by omega), decide_eq_true hj, Bool.true_and, Nat.zero_add]

/-- The low byte of XP.WINDOW's word 3: the two reverse flags. -/
theorem reverseFlags (fr sr : Bool) : (wordOf 0 (flagByte fr + 2 * flagByte sr)).getLsbD 0 = fr ∧
    (wordOf 0 (flagByte fr + 2 * flagByte sr)).getLsbD 1 = sr := by
  cases fr <;> cases sr <;> decide

/-! ### Pairs (R126) -/

theorem wordPairs_pairWords (pairs : List (Word × Word)) : wordPairs (pairWords pairs) = some pairs := by
  induction pairs with
  | nil => rfl
  | cons p rest ih =>
    obtain ⟨i, v⟩ := p
    rw [pairWords, wordPairs, ih]
    rfl

theorem pairWords_eq (pairs : List (Word × Word)) : pairWords pairs = pairs.flatMap fun p => [p.1, p.2] := by
  induction pairs with
  | nil => rfl
  | cons p rest ih =>
    obtain ⟨i, v⟩ := p
    rw [pairWords, ih]
    rfl

/-! ### Codes (R204) -/

/-- The commands' codes are the known ones. -/
theorem knownCode_code (c : HostCmd) : knownCode c.code = true := by cases c <;> rfl

/-- A command for every code, in the order of the tables. -/
def exemplars : List HostCmd :=
  [.srcRetire 0, .srcTrim 0 0, .srcGet 0, .srcMute 0 false, .grpMute 0 false, .roomMute false, .muteGet, .floorGet,
    .floorReset, .feedRetire 0, .feedMute 0 false, .feedGet 0, .bankSwap, .bankCopy, .bankGet, .paramGet 0, .xpTake 0,
    .xpTakeNext 0, .podSetup 0 0, .podGet 0, .portGet 0, .noteGet, .noteMask 0, .countGet 0 0, .engineReset,
    .srcAttach 0 false 0 0 0, .srcGroups 0 0, .feedAttach 0 0 0 0, .feedLevel 0 0, .feedExclude 0 0, .paramSet [],
    .xpWindow 0 0 0 0 0 false false, .xpPut [], .xpPutNext []]

theorem exemplars_code : exemplars.map (fun c => c.code.toNat) = shortCodes ++ longCodes := rfl

theorem code_of_known {code : Byte} (known : knownCode code = true) : ∃ c : HostCmd, c.code = code := by
  have listed : code.toNat ∈ shortCodes ++ longCodes := by
    rw [knownCode, Bool.or_eq_true, List.contains_iff_mem, List.contains_iff_mem] at known
    exact List.mem_append.mpr known
  rw [← exemplars_code] at listed
  obtain ⟨c, -, e⟩ := List.mem_map.mp listed
  exact ⟨c, BitVec.eq_of_toNat_eq e⟩

theorem decodePacket_unknown {code : Byte} {body : PacketBody} (unknown : knownCode code = false) :
    decodePacket code body = .error .unknownCmd := by
  exact if_neg (by rw [unknown]; exact Bool.false_ne_true)

theorem decodePacket_short {c : HostCmd} {code p1 p2 : Byte} (known : knownCode code = true)
    (h : decodeShort code p1 p2 = some c) : decodePacket code (.short p1 p2) = .ok c := by
  rw [decodePacket, if_pos known, h]

theorem decodePacket_long {c : HostCmd} {code : Byte} {ws : List Word} (known : knownCode code = true)
    (h : decodeLong code ws = some c) : decodePacket code (.long ws) = .ok c := by
  rw [decodePacket, if_pos known, h]

/-! ### Reading back -/

theorem decodeLong_words {code : Byte} {ws : List Word} {c : HostCmd} (lo : 1 ≤ ws.length) (hi : ws.length ≤ 256)
    (h : code = 0x39 ∧ c = .xpPut ws ∨ code = 0x3A ∧ c = .xpPutNext ws) : decodeLong code ws = some c := by
  obtain ⟨rfl, rfl⟩ | ⟨rfl, rfl⟩ := h
  · exact if_neg (by omega)
  · exact if_neg (by omega)

theorem decodeLong_pairs {pairs : List (Word × Word)} (lo : 1 ≤ pairs.length) (hi : pairs.length ≤ 128) :
    decodeLong 0x33 (pairWords pairs) = some (.paramSet pairs) := by
  have size := Laws.WordCounts.pairWords_length pairs
  have taken : decodeLong 0x33 (pairWords pairs) = (wordPairs (pairWords pairs)).map .paramSet := if_neg (by omega)
  rw [taken, wordPairs_pairWords]
  rfl

/-- Reading the packing back is the identity (R204). -/
theorem decodePacket_body (c : HostCmd) (wf : c.wf = true) : decodePacket c.code c.body = .ok c := by
  have known := knownCode_code c
  cases c with
  | srcAttach slot chair origin trim groups =>
    refine decodePacket_long known (congrArg some ?_)
    rw [hiByte_wordOf, chairOrigin_chair, chairOrigin_origin]
  | srcGroups slot groups => exact decodePacket_long known (congrArg some (by rw [loByte_wordOf]))
  | feedAttach slot dest master excluded =>
    exact decodePacket_long known (congrArg some (by rw [hiByte_wordOf, loByte_wordOf]))
  | feedLevel slot master => exact decodePacket_long known (congrArg some (by rw [loByte_wordOf]))
  | feedExclude slot groups => exact decodePacket_long known (congrArg some (by rw [loByte_wordOf]))
  | paramSet pairs =>
    simp only [HostCmd.wf, Bool.and_eq_true, decide_eq_true_eq] at wf
    exact decodePacket_long known (decodeLong_pairs wf.1 wf.2)
  | xpWindow fs fe ss se order fr sr =>
    refine decodePacket_long known (congrArg some ?_)
    rw [hiByte_wordOf, loByte_wordOf, hiByte_wordOf, loByte_wordOf, (reverseFlags fr sr).1, (reverseFlags fr sr).2]
  | xpPut words =>
    simp only [HostCmd.wf, Bool.and_eq_true, decide_eq_true_eq] at wf
    exact decodePacket_long known (decodeLong_words wf.1 wf.2 (.inl ⟨rfl, rfl⟩))
  | xpPutNext words =>
    simp only [HostCmd.wf, Bool.and_eq_true, decide_eq_true_eq] at wf
    exact decodePacket_long known (decodeLong_words wf.1 wf.2 (.inr ⟨rfl, rfl⟩))
  | srcMute slot on => exact decodePacket_short known (congrArg some (by rw [flagByte_bit]))
  | grpMute group on => exact decodePacket_short known (congrArg some (by rw [flagByte_bit]))
  | roomMute on => exact decodePacket_short known (congrArg some (by rw [flagByte_bit]))
  | feedMute slot on => exact decodePacket_short known (congrArg some (by rw [flagByte_bit]))
  | xpTake count => exact decodePacket_short known (congrArg some (by rw [wordOf_bytes]))
  | xpTakeNext count => exact decodePacket_short known (congrArg some (by rw [wordOf_bytes]))
  | _ => exact decodePacket_short known rfl

theorem bytes_append (p1 p2 : Byte) : hiByte (p1 ++ p2) = p1 ∧ loByte (p1 ++ p2) = p2 :=
  ⟨hiByte_wordOf p1 p2, loByte_wordOf p1 p2⟩

namespace Packing

/-- Settles O10: the reading back, the codes of no command, and the table of codes and fields. -/
theorem packetBodyReadsBackItsCommand : Obligations.PacketBodyReadsBackItsCommand := by
  unfold Obligations.PacketBodyReadsBackItsCommand
  refine ⟨decodePacket_body, fun code body none_has => decodePacket_unknown ?unknown,
    fun c slot => ⟨0, ?_, ?_, ?_, ?_, ?_, ?_, ?_⟩, fun c p1 p2 => ⟨?_, ?_, ?_, ?mask, ?take, ?takeNext⟩,
    fun c slot on => ⟨flagByte on, 0, flagByte_bit on, ?_, ?_, ?_, ?_⟩, ?plain,
    fun slot chair origin trim groups => ⟨_, rfl, rfl, hiByte_wordOf .., chairOrigin_chair .., chairOrigin_origin ..⟩,
    fun c slot value => ⟨wordOf 0 slot, loByte_wordOf .., ?_, ?_, ?_⟩,
    fun slot dest master excluded => ⟨_, rfl, rfl, hiByte_wordOf .., loByte_wordOf ..⟩,
    fun fs fe ss se order fr sr => ⟨_, _, _, rfl, rfl, hiByte_wordOf .., loByte_wordOf .., hiByte_wordOf ..,
      loByte_wordOf .., (reverseFlags fr sr).1, (reverseFlags fr sr).2⟩,
    fun pairs => ⟨rfl, congrArg PacketBody.long (pairWords_eq pairs)⟩, fun ws => ⟨rfl, rfl, rfl, rfl⟩⟩
  case unknown =>
    rw [← Bool.not_eq_true]
    exact fun known => let ⟨c, e⟩ := code_of_known known; none_has c e
  case plain =>
    refine ⟨rfl, rfl, rfl, rfl, rfl, rfl, rfl, rfl, fun c listed => ?_⟩
    simp only [List.mem_cons, List.not_mem_nil, or_false] at listed
    obtain rfl | rfl | rfl | rfl | rfl | rfl | rfl | rfl := listed <;> exact ⟨_, _, rfl⟩
  case mask =>
    rintro rfl
    exact ⟨rfl, _, rfl⟩
  case take =>
    rintro rfl
    exact ⟨rfl, by rw [HostCmd.body, (bytes_append p1 p2).1, (bytes_append p1 p2).2]⟩
  case takeNext =>
    rintro rfl
    exact ⟨rfl, by rw [HostCmd.body, (bytes_append p1 p2).1, (bytes_append p1 p2).2]⟩
  all_goals
    rintro rfl
    exact ⟨rfl, rfl⟩

end Packing

end Sys2Proof
end

section
/-! Proofs for O5, O7, O8, O11 and O14: the packet start, the header and the payload judged, the turnaround and the
sending of the answers (chapter 10). -/

namespace Sys2Proof.Machine

variable {s : State} {code : Byte} {wanted : Bool} {k : ErrKind}

/-! ### Packet starts (R182) -/

theorem openPacket_listening (h : s.ctl.rx = .idle ∨ s.ctl.rx = .header ∨ s.ctl.rx = .discard) :
    openPacket s = { s with ctl := { rx := .header, errors := s.ctl.errors } } := by
  unfold openPacket
  obtain h | h | h := h <;> rw [h]

theorem openPacket_payload {n : Nat} (h : s.ctl.rx = .payload wanted code n) :
    openPacket s = { s with ctl := { rx := .header, errors := s.ctl.errors.add .length } } := by
  unfold openPacket
  rw [h]
  rfl

theorem openPacket_answering {as : List Answer} {r : Reply} (h : s.ctl.rx = .answering as r) : openPacket s = s := by
  unfold openPacket
  rw [h]

theorem turnAround_answering {as : List Answer} {r : Reply} (h : s.ctl.rx = .answering as r) : turnAround s = s := by
  unfold turnAround
  rw [h]

/-! ### Header and payload bytes (R184, R185) -/

theorem exec_headerComplete (h : s.ctl.rx = .header) (b0 b1 b2 b3 b4 : Byte) :
    exec (.headerComplete b0 b1 b2 b3 b4) s = .next (judgeHeaderBytes b0 b1 b2 b3 b4 s) := by
  change execHeaderComplete b0 b1 b2 b3 b4 s = _
  rw [execHeaderComplete, h]

theorem exec_headerComplete_other (h : s.ctl.rx ≠ .header) (b0 b1 b2 b3 b4 : Byte) :
    exec (.headerComplete b0 b1 b2 b3 b4) s = .next s := by
  change execHeaderComplete b0 b1 b2 b3 b4 s = _
  unfold execHeaderComplete
  split
  · exact absurd ‹_› h
  · rfl

theorem exec_payloadComplete {words : List Word} (h : s.ctl.rx = .payload wanted code words.length) (check : Word) :
    exec (.payloadComplete words check) s = .next (judgePayload wanted code words check s) := by
  change execPayloadComplete words check s = _
  rw [execPayloadComplete, h]
  exact congrArg Host.Outcome.next (if_pos rfl)

theorem exec_payloadComplete_other {words : List Word} (h : ∀ wanted code, s.ctl.rx ≠ .payload wanted code words.length)
    (check : Word) : exec (.payloadComplete words check) s = .next s := by
  change execPayloadComplete words check s = _
  unfold execPayloadComplete
  split
  next wanted code count hrx => exact congrArg Host.Outcome.next (if_neg fun same => h wanted code (by rw [same]; exact hrx))
  next => rfl

namespace PacketLink

/-- Settles O5: each receive state by the packet start's own case. -/
theorem packetStartInEachReceiveState : Obligations.PacketStartInEachReceiveState := by
  unfold Obligations.PacketStartInEachReceiveState
  refine fun s => ⟨fun h => congrArg Host.Outcome.next (openPacket_listening h),
    fun wanted code n h => congrArg Host.Outcome.next (openPacket_payload h), fun code r h => ?owed, fun as r h => ?answering⟩
  case owed =>
    have notice := Notices.openPacket_returns h
    have errors : (openPacket s).ctl.errors = if r.engineReset then .none else s.ctl.errors := by
      rw [openPacket_owed h]
      rfl
    refine ⟨openPacket s, rfl, by rw [openPacket_owed h], fun keeps => by rw [errors, keeps]; rfl,
      fun reset k => by rw [errors, reset]; cases k <;> rfl, fun k => ?_, FloorReset.openPacket_mask s, ?_,
      by rw [openPacket_owed h]; rfl⟩
    · rw [notice]
      exact Notices.union_has _ _ k
    · rw [AttentionLaw, notice]
      exact withSet_attention _ _
  case answering =>
    refine ⟨congrArg _ (openPacket_answering h), congrArg _ (turnAround_answering h),
      fun b0 b1 b2 b3 b4 => exec_headerComplete_other (by rw [h]; nofun) b0 b1 b2 b3 b4,
      fun words check => exec_payloadComplete_other (by rw [h]; nofun) check, fun c => ?_⟩
    rw [exec_hostInstr, hostPacket_answering h]

end PacketLink

/-! ### The header's fields (R201) -/

theorem headerContent_bit (b0 b1 b2 b3 : Byte) {j : Nat} (h : j < 8) :
    (headerContent b0 b1 b2 b3).getLsbD (24 + j) = b0.getLsbD j ∧ (headerContent b0 b1 b2 b3).getLsbD (16 + j) = b1.getLsbD j ∧
      (headerContent b0 b1 b2 b3).getLsbD (8 + j) = b2.getLsbD j ∧ (headerContent b0 b1 b2 b3).getLsbD j = b3.getLsbD j := by
  unfold headerContent
  simp only [BitVec.getLsbD_append, h, if_true, show ¬ 24 + j < 8 by omega, show ¬ 16 + j < 8 by omega,
    show ¬ 8 + j < 8 by omega, if_false, show 24 + j - 8 = 16 + j by omega, show 16 + j - 8 = 8 + j by omega,
    show 8 + j - 8 = j by omega, and_self]

/-- The fields of a header's bytes. -/
theorem ofContent_headerContent (b0 b1 b2 b3 : Byte) :
    Header.ofContent (headerContent b0 b1 b2 b3) = ⟨b0.getLsbD 7, b0.getLsbD 6, b1, b2, b3⟩ := by
  have field (n : Nat) (b : Byte) (h : ∀ j < 8, (headerContent b0 b1 b2 b3).getLsbD (n + j) = b.getLsbD j) :
      (headerContent b0 b1 b2 b3).extractLsb' n 8 = b :=
    BitVec.eq_of_getLsbD_eq fun j hj => by rw [BitVec.getLsbD_extractLsb', decide_eq_true hj, Bool.true_and, h j hj]
  have second := field 16 b1 fun j hj => (headerContent_bit b0 b1 b2 b3 hj).2.1
  have third := field 8 b2 fun j hj => (headerContent_bit b0 b1 b2 b3 hj).2.2.1
  have last := field 0 b3 fun j hj => by rw [Nat.zero_add]; exact (headerContent_bit b0 b1 b2 b3 hj).2.2.2
  rw [Header.ofContent, second, third, last]
  exact congrArg₂ (fun long wanted => (⟨long, wanted, b1, b2, b3⟩ : Header))
    (headerContent_bit b0 b1 b2 b3 (j := 7) (by decide)).1 (headerContent_bit b0 b1 b2 b3 (j := 6) (by decide)).1

/-- A content is that of its own four bytes. -/
theorem headerContent_bytes (d : BitVec 32) : headerContent (d.extractLsb' 24 8) (d.extractLsb' 16 8)
    (d.extractLsb' 8 8) (d.extractLsb' 0 8) = d := by
  refine BitVec.eq_of_getLsbD_eq fun j hj => ?_
  have bit (n : Nat) (h : j - n < 8) (le : n ≤ j) : (d.extractLsb' n 8).getLsbD (j - n) = d.getLsbD j := by
    rw [BitVec.getLsbD_extractLsb', decide_eq_true h, Bool.true_and, Nat.add_sub_cancel' le]
  have at_place := fun n (h : j - n < 8) => headerContent_bit (d.extractLsb' 24 8) (d.extractLsb' 16 8) (d.extractLsb' 8 8)
    (d.extractLsb' 0 8) (j := j - n) h
  by_cases h24 : 24 ≤ j
  · have h := (at_place 24 (by omega)).1
    rwa [Nat.add_sub_cancel' h24, bit 24 (by omega) h24] at h
  by_cases h16 : 16 ≤ j
  · have h := (at_place 16 (by omega)).2.1
    rwa [Nat.add_sub_cancel' h16, bit 16 (by omega) h16] at h
  by_cases h8 : 8 ≤ j
  · have h := (at_place 8 (by omega)).2.2.1
    rwa [Nat.add_sub_cancel' h8, bit 8 (by omega) h8] at h
  · have h := (at_place 0 (by omega)).2.2.2
    rwa [bit 0 (by omega) (Nat.zero_le j)] at h

/-! ### A packet judged (R184, R186, R188) -/

theorem judgeHeaderBytes_correct {b0 b1 b2 b3 b4 : Byte} (h : judgeHeader (headerContent b0 b1 b2 b3) b4 = .correct) :
    judgeHeaderBytes b0 b1 b2 b3 b4 s = if b0.getLsbD 7 then
        { s with ctl := { s.ctl with rx := .payload (b0.getLsbD 6) b1 (b3.toNat + 1) } }
      else judgePacket (b0.getLsbD 6) b1 (.short b2 b3) s := by
  unfold judgeHeaderBytes
  rw [h]
  dsimp only
  rw [acceptHeader, ofContent_headerContent]
  rfl

theorem judgeHeaderBytes_corrected {b0 b1 b2 b3 b4 : Byte} {d : BitVec 32}
    (h : judgeHeader (headerContent b0 b1 b2 b3) b4 = .corrected d) :
    judgeHeaderBytes b0 b1 b2 b3 b4 s = acceptHeader d (s.addError .hdrCorrected) := by
  unfold judgeHeaderBytes
  rw [h]

theorem judgeHeaderBytes_failed {b0 b1 b2 b3 b4 : Byte} (h : judgeHeader (headerContent b0 b1 b2 b3) b4 = .failed) :
    judgeHeaderBytes b0 b1 b2 b3 b4 s = { s with ctl := { rx := .discard, errors := s.ctl.errors.add .hdrFailed } } := by
  unfold judgeHeaderBytes
  rw [h]
  rfl

theorem judgeHeaderBytes_content (d : BitVec 32) : judgeHeaderBytes (d.extractLsb' 24 8) (d.extractLsb' 16 8)
    (d.extractLsb' 8 8) (d.extractLsb' 0 8) (headerCheck d) s = acceptHeader d s := by
  unfold judgeHeaderBytes
  rw [headerContent_bytes, judgeHeader_sent]

/-- A packet refused, with an answer owed or not. -/
theorem owe_refused (code : Byte) (wanted : Bool) (k : ErrKind) (s : State) :
    owe code wanted .plain (s.addError k) = { s with ctl :=
      { rx := if wanted || readCode code then .owed code .plain else .idle, errors := s.ctl.errors.add k } } := by
  unfold owe
  cases wanted || readCode code <;> rfl

theorem judgePacket_refused {body : PacketBody} (h : decodePacket code body = .error k) :
    judgePacket wanted code body s = { s with ctl :=
      { rx := if wanted || readCode code then .owed code .plain else .idle, errors := s.ctl.errors.add k } } := by
  rw [judgePacket, h]
  exact owe_refused code wanted k s

/-! ### The lists of codes (R186, R188, R204) -/

/-- Every command's code, in ascending order. -/
def allCodes : List Nat :=
  [0x01, 0x02, 0x03, 0x04, 0x05, 0x06, 0x10, 0x11, 0x12, 0x18, 0x19, 0x20, 0x21, 0x22, 0x23, 0x24, 0x25, 0x30, 0x31,
    0x32, 0x33, 0x34, 0x38, 0x39, 0x3A, 0x3B, 0x3C, 0x40, 0x41, 0x48, 0x50, 0x51, 0x52, 0x5F]

theorem knownCode_iff : knownCode code = true ↔ code.toNat ∈ allCodes := by
  have listed : allCodes.Perm (shortCodes ++ longCodes) := by decide
  rw [listed.mem_iff, List.mem_append, knownCode, Bool.or_eq_true, List.contains_iff_mem, List.contains_iff_mem]

theorem knownCode_of_mem {codes : List Nat} (known : ∀ n ∈ codes, n ∈ allCodes) (h : code.toNat ∈ codes) :
    knownCode code = true := knownCode_iff.mpr (known _ h)

theorem readCode_iff : readCode code = true ↔
    code.toNat ∈ [0x05, 0x12, 0x18, 0x25, 0x32, 0x34, 0x3B, 0x3C, 0x41, 0x48, 0x50, 0x52] := by
  have listed : [0x05, 0x12, 0x18, 0x25, 0x32, 0x34, 0x3B, 0x3C, 0x41, 0x48, 0x50, 0x52].Perm
      [0x05, 0x25, 0x12, 0x18, 0x32, 0x34, 0x3B, 0x3C, 0x41, 0x48, 0x50, 0x52] := by decide
  rw [listed.mem_iff, readCode, List.contains_iff_mem]

theorem not_readCode {codes : List Nat} (h : code.toNat ∈ codes)
    (writes : ∀ n ∈ codes, n ∉ [0x05, 0x12, 0x18, 0x25, 0x32, 0x34, 0x3B, 0x3C, 0x41, 0x48, 0x50, 0x52]) :
    readCode code = false := by
  rw [← Bool.not_eq_true, readCode_iff]
  exact writes _ h

theorem not_readCode_of_unknown (h : code.toNat ∉ allCodes) : readCode code = false := by
  rw [← Bool.not_eq_true, readCode_iff]
  have known : ∀ n ∈ [0x05, 0x12, 0x18, 0x25, 0x32, 0x34, 0x3B, 0x3C, 0x41, 0x48, 0x50, 0x52], n ∈ allCodes := by decide
  exact fun read => h (known _ read)

theorem decodePacket_of_unknown (h : code.toNat ∉ allCodes) (body : PacketBody) :
    decodePacket code body = .error .unknownCmd := by
  refine decodePacket_unknown ?_
  rw [← Bool.not_eq_true, knownCode_iff]
  exact h

theorem decodePacket_short_length {p1 p2 : Byte} (known : knownCode code = true) (h : decodeShort code p1 p2 = none) :
    decodePacket code (.short p1 p2) = .error .length := by
  rw [decodePacket, if_pos known, h]

theorem decodePacket_long_length {ws : List Word} (known : knownCode code = true) (h : decodeLong code ws = none) :
    decodePacket code (.long ws) = .error .length := by
  rw [decodePacket, if_pos known, h]

/-- A long command's code in a short packet. -/
theorem decodeShort_longCode (h : code.toNat ∈ longCodes) (p1 p2 : Byte) : decodeShort code p1 p2 = none := by
  unfold decodeShort
  simp only [longCodes, List.mem_cons, List.not_mem_nil, or_false] at h
  obtain h | h | h | h | h | h | h | h | h := h <;> rw [h] <;> rfl

/-- A short command's code in a long packet. -/
theorem decodeLong_shortCode (h : code.toNat ∈ shortCodes) (ws : List Word) : decodeLong code ws = none := by
  unfold decodeLong
  have short : ∀ n ∈ shortCodes, n ∉ longCodes := by decide
  have other := short _ h
  simp only [longCodes, List.mem_cons, List.not_mem_nil, or_false] at other
  split <;> first | rfl | (exfalso; omega)

theorem decodeShort_unknown (h : code.toNat ∉ shortCodes) (p1 p2 : Byte) : decodeShort code p1 p2 = none := by
  unfold decodeShort
  split
  case h_26 => rfl
  all_goals
    rename_i e
    rw [e] at h
    exact absurd (by decide) h

/-- A short command reads the first parameter byte, the second, a flag of either, or neither, as its code says. -/
theorem decodeShort_unread {c2 c3 b2 b3 : Byte}
    (first : code.toNat ∈ [0x02, 0x03, 0x05, 0x06, 0x10, 0x21, 0x23, 0x25, 0x34, 0x3B, 0x3C, 0x40, 0x41, 0x48, 0x52] →
      c2 = b2)
    (second : code.toNat ∈ [0x03, 0x3B, 0x3C, 0x40, 0x51, 0x52] → c3 = b3)
    (flag : code.toNat ∈ [0x06, 0x10, 0x23] → c3.getLsbD 0 = b3.getLsbD 0)
    (room : code.toNat = 0x11 → c2.getLsbD 0 = b2.getLsbD 0) : decodeShort code c2 c3 = decodeShort code b2 b3 := by
  unfold decodeShort
  split
  case h_26 => rfl
  all_goals
    rename_i e
    simp only [e] at first second flag room
    simp_all

theorem decodePacket_unread {c2 c3 b2 b3 : Byte} (same : decodeShort code c2 c3 = decodeShort code b2 b3) :
    decodePacket code (.short c2 c3) = decodePacket code (.short b2 b3) := by
  unfold decodePacket
  dsimp only
  rw [same]

/-- A long command reads no more of its words than its parameters (R204). -/
theorem decodeLong_unread_high (h : code.toNat ∈ [0x04, 0x22, 0x24]) {v w : Word}
    (low : w.extractLsb' 0 8 = v.extractLsb' 0 8) (x : Word) : decodeLong code [w, x] = decodeLong code [v, x] := by
  have low : loByte w = loByte v := low
  simp only [List.mem_cons, List.not_mem_nil, or_false] at h
  unfold decodeLong
  obtain h | h | h := h <;> rw [h] <;> simp only [low]

theorem decodeLong_unread_flags (h : code.toNat = 0x38) {v w : Word} (zero : w.getLsbD 0 = v.getLsbD 0)
    (one : w.getLsbD 1 = v.getLsbD 1) (x y z : Word) : decodeLong code [x, y, z, w] = decodeLong code [x, y, z, v] := by
  unfold decodeLong
  rw [h]
  simp only [zero, one]

theorem judgePayload_long {words words' : List Word} (same : decodeLong code words' = decodeLong code words) :
    judgePayload wanted code words' (crc16 words') s = judgePayload wanted code words (crc16 words) s := by
  rw [judgePayload, judgePayload, if_pos rfl, if_pos rfl, judgePacket, judgePacket, decodePacket, decodePacket]
  simp only [same]

theorem decodeLong_not_three {words : List Word} (e : code.toNat = 0x01 ∨ code.toNat = 0x20) (bad : words.length ≠ 3) :
    decodeLong code words = none := by
  have code_eq : code = 0x01 ∨ code = 0x20 := e.imp BitVec.eq_of_toNat_eq BitVec.eq_of_toNat_eq
  match words, bad with
  | [_, _, _], bad => exact absurd rfl bad
  | [], _ | [_], _ | [_, _], _ | _ :: _ :: _ :: _ :: _, _ => obtain rfl | rfl := code_eq <;> rfl

theorem decodeLong_not_two {words : List Word} (e : code.toNat = 0x04 ∨ code.toNat = 0x22 ∨ code.toNat = 0x24)
    (bad : words.length ≠ 2) : decodeLong code words = none := by
  have code_eq : code = 0x04 ∨ code = 0x22 ∨ code = 0x24 :=
    e.imp BitVec.eq_of_toNat_eq (Or.imp BitVec.eq_of_toNat_eq BitVec.eq_of_toNat_eq)
  match words, bad with
  | [_, _], bad => exact absurd rfl bad
  | [], _ | [_], _ | _ :: _ :: _ :: _, _ => obtain rfl | rfl | rfl := code_eq <;> rfl

theorem decodeLong_not_four {words : List Word} (e : code.toNat = 0x38) (bad : words.length ≠ 4) :
    decodeLong code words = none := by
  obtain rfl : code = 0x38 := BitVec.eq_of_toNat_eq e
  match words, bad with
  | [_, _, _, _], bad => exact absurd rfl bad
  | [], _ | [_], _ | [_, _], _ | [_, _, _], _ | _ :: _ :: _ :: _ :: _ :: _, _ => rfl

/-- The word counts a long command refuses (section 10.7). -/
theorem decodeLong_count {words : List Word} (h : code.toNat ∈ [0x01, 0x20] ∧ words.length ≠ 3 ∨
    code.toNat ∈ [0x04, 0x22, 0x24] ∧ words.length ≠ 2 ∨ code.toNat = 0x38 ∧ words.length ≠ 4 ∨
    code.toNat = 0x33 ∧ (words.length % 2 = 1 ∨ words.length = 0 ∨ 256 < words.length) ∨
    code.toNat ∈ [0x39, 0x3A] ∧ (words.length = 0 ∨ 256 < words.length)) : decodeLong code words = none := by
  simp only [List.mem_cons, List.not_mem_nil, or_false] at h
  obtain ⟨e, bad⟩ | ⟨e, bad⟩ | ⟨e, bad⟩ | ⟨e, bad⟩ | ⟨e, bad⟩ := h
  · exact decodeLong_not_three e bad
  · exact decodeLong_not_two e bad
  · exact decodeLong_not_four e bad
  · obtain rfl : code = 0x33 := BitVec.eq_of_toNat_eq e
    obtain odd | out := bad
    · exact ParamWrites.decodeLong_paramSet_odd odd
    · exact if_pos out
  · obtain rfl | rfl : code = 0x39 ∨ code = 0x3A := e.imp BitVec.eq_of_toNat_eq BitVec.eq_of_toNat_eq
    · exact if_pos bad
    · exact if_pos bad

theorem longCode_of_count {n : Nat} (h : code.toNat ∈ [0x01, 0x20] ∧ n ≠ 3 ∨
    code.toNat ∈ [0x04, 0x22, 0x24] ∧ n ≠ 2 ∨ code.toNat = 0x38 ∧ n ≠ 4 ∨
    code.toNat = 0x33 ∧ (n % 2 = 1 ∨ n = 0 ∨ 256 < n) ∨
    code.toNat ∈ [0x39, 0x3A] ∧ (n = 0 ∨ 256 < n)) : code.toNat ∈ longCodes := by
  simp only [longCodes, List.mem_cons, List.not_mem_nil, or_false] at h ⊢
  omega

namespace PacketLink

/-- Settles O7: the judgement of the check, then of the code, then the bits a short command does not read. -/
theorem headerCompleteIsJudged : Obligations.HeaderCompleteIsJudged := by
  unfold Obligations.HeaderCompleteIsJudged
  refine fun s b0 b1 b2 b3 b4 => ⟨fun other => exec_headerComplete_other other .., fun header =>
    ⟨fun failed => ?_, fun d corrected => ?_, fun correct => ⟨fun long => ?_, fun short unknown => ?_,
      fun short long => ?_, fun short c0 c2 c3 c4 correct' short' wanted first second flag room => ?_⟩⟩⟩
  · rw [exec_headerComplete header, judgeHeaderBytes_failed failed]
  · rw [exec_headerComplete header, judgeHeaderBytes_corrected corrected, exec_headerComplete rfl, judgeHeaderBytes_content]
    exact congrArg (fun rx => Host.Outcome.next (acceptHeader d { s with
      ctl := { rx := rx, errors := s.ctl.errors.add .hdrCorrected } })) header
  · rw [exec_headerComplete header, judgeHeaderBytes_correct correct, if_pos long]
  · rw [exec_headerComplete header, judgeHeaderBytes_correct correct, short, if_neg Bool.false_ne_true,
      judgePacket_refused (decodePacket_of_unknown unknown _), not_readCode_of_unknown unknown, Bool.or_false]
  · have known : knownCode b1 = true := knownCode_of_mem (by decide) long
    rw [exec_headerComplete header, judgeHeaderBytes_correct correct, short, if_neg Bool.false_ne_true,
      judgePacket_refused (decodePacket_short_length known (decodeShort_longCode long b2 b3)),
      not_readCode long (by decide), Bool.or_false]
  · have same := decodePacket_unread (decodeShort_unread first second flag room)
    rw [exec_headerComplete header, exec_headerComplete header, judgeHeaderBytes_correct correct,
      judgeHeaderBytes_correct correct', short, short', wanted, if_neg Bool.false_ne_true, if_neg Bool.false_ne_true,
      judgePacket, judgePacket, same]

/-- Settles O8: the judgement of the check, then of the code and the word count, then the bits a long command does not
read. -/
theorem payloadCompleteIsJudged : Obligations.PayloadCompleteIsJudged := by
  unfold Obligations.PayloadCompleteIsJudged
  refine fun s words check => ⟨fun other => exec_payloadComplete_other other check, fun wanted code payload =>
    ⟨fun owed owes => ?_, fun agrees unknown => ?_, fun agrees => ⟨fun listed v w x e low => ?_,
      fun listed x y z v w e zero one => ?_⟩⟩⟩
  · have owed_eq : owed = (wanted || readCode code) := by
      rw [Bool.eq_iff_iff, owes, Bool.or_eq_true, readCode_iff]
    subst owed_eq
    refine ⟨fun differs => ?_, fun agrees bad => ?_⟩
    · rw [exec_payloadComplete payload, judgePayload, if_neg differs, owe_refused]
    · have refused : decodePacket code (.long words) = .error .length := by
        obtain short | count := bad
        · exact decodePacket_long_length (knownCode_of_mem (by decide) short) (decodeLong_shortCode short words)
        · exact decodePacket_long_length (knownCode_of_mem (codes := longCodes) (by decide) (longCode_of_count count))
            (decodeLong_count count)
      rw [exec_payloadComplete payload, judgePayload, if_pos agrees, judgePacket_refused refused]
  · rw [exec_payloadComplete payload, judgePayload, if_pos agrees,
      judgePacket_refused (decodePacket_of_unknown unknown _), not_readCode_of_unknown unknown, Bool.or_false]
  · subst e agrees
    rw [exec_payloadComplete payload, exec_payloadComplete (words := [w, x]) payload,
      judgePayload_long (decodeLong_unread_high listed low x)]
  · subst e agrees
    rw [exec_payloadComplete payload, exec_payloadComplete (words := [x, y, z, w]) payload,
      judgePayload_long (decodeLong_unread_flags listed zero one x y z)]

/-! ### Turnaround and answers (R189, R190, R196) -/

variable {r : Reply}

theorem answersFor_data {ws : List Word} (h : r.words = some ws) {e : ErrSet} (clean : e = .none) :
    answersFor code r e = [.data code ws] := by rw [answersFor, h]; exact if_pos clean

theorem answersFor_data_error {ws : List Word} (h : r.words = some ws) {e : ErrSet} (stands : e ≠ .none) :
    answersFor code r e = [.data code ws, .errorReport code e] := by rw [answersFor, h]; exact if_neg stands

theorem answersFor_ack (h : r.words = none) {e : ErrSet} (clean : e = .none) : answersFor code r e = [.ack code] := by
  rw [answersFor, h]; exact if_pos clean

theorem answersFor_error (h : r.words = none) {e : ErrSet} (stands : e ≠ .none) :
    answersFor code r e = [.errorReport code e] := by rw [answersFor, h]; exact if_neg stands

theorem exec_answerSent_other (h : hostOwnsLine s) : exec .answerSent s = .next s := by
  change execAnswerSent s = _
  unfold execAnswerSent
  split
  · exact absurd ‹_› (h _ _)
  · rfl

/-- An answer that clears no counter: what its sending leaves of the error set is all it carries out. -/
theorem carryOut_errors {a : Answer} {e : ErrSet} (h : (∃ code kinds, a = .errorReport code kinds) ∧ e = .none ∨
    (∃ code, a = .ack code) ∧ e = s.ctl.errors ∨ (∃ code ws, a = .data code ws) ∧ r.clears = none ∧ e = s.ctl.errors) :
    carryOut a r s = { s with ctl := { rx := s.ctl.rx, errors := e } } := by
  obtain ⟨⟨code, kinds, rfl⟩, rfl⟩ | ⟨⟨code, rfl⟩, rfl⟩ | ⟨⟨code, ws, rfl⟩, keeps, rfl⟩ := h
  · rfl
  · rfl
  · rw [carryOut, keeps]

/-- Settles O11: the answers of R189 at the turnaround, and the sending of each. -/
theorem turnaroundSendsTheOwedAnswers : Obligations.TurnaroundSendsTheOwedAnswers := by
  unfold Obligations.TurnaroundSendsTheOwedAnswers
  refine fun s => ⟨fun code r owed => ?owed, fun quiet => ?quiet, fun header => ?header, fun wanted code n payload => ?payload,
    fun a rest r errors answering kind => ?sent, exec_answerSent_other⟩
  case owed =>
    have begins : exec .turnaround s = .next { s with
        ctl := { s.ctl with rx := .answering (answersFor code r s.ctl.errors) r } } :=
      congrArg Host.Outcome.next (turnAround_owed owed)
    exact ⟨fun ws words clean => by rw [begins, answersFor_data words clean],
      fun ws words stands => by rw [begins, answersFor_data_error words stands],
      fun words clean => by rw [begins, answersFor_ack words clean],
      fun words stands => by rw [begins, answersFor_error words stands]⟩
  case quiet =>
    refine congrArg Host.Outcome.next ?_
    unfold turnAround
    obtain h | h := quiet <;> rw [h]
  case header =>
    refine congrArg Host.Outcome.next ?_
    unfold turnAround
    rw [header]
  case payload =>
    refine congrArg Host.Outcome.next ?_
    unfold turnAround
    rw [payload]
    rfl
  case sent =>
    rw [exec_answerSent answering]
    have carried := carryOut_errors kind
    refine ⟨fun more => ?_, fun last => ?_⟩
    · obtain ⟨none_left, -⟩ | ⟨-, sent⟩ := answerSent_cons a rest r s
      · exact absurd none_left more
      · rw [sent, carried]
    · subst last
      exact congrArg (fun t => Host.Outcome.next (handBack r t)) carried

/-! ### COUNT.GET (R196) -/

/-- The counters are read from records that a packet start leaves. -/
theorem counters_openPacket (target : CountTarget) (s : State) : counters (openPacket s) target = counters s target := by
  cases target <;> simp only [counters, openPacket_pods, openPacket_ports, openPacket_feeds]

theorem exec_countGet (ho : hostOwnsLine s) {kind number : Byte} {target : CountTarget}
    (named : countTargetOf kind number = some target) : exec (.countGet kind number) s = .next (answered 0x52
      { dataReply ((counters s target).map natWord) with clears := some target } s) := by
  have taken : takeCountGet kind number (openPacket s) = .taken
      { Reply.plain with words := some ((counters s target).map natWord), clears := some target } (openPacket s) := by
    rw [takeCountGet, named, ← counters_openPacket]
  exact congrArg Host.Outcome.next (hostPacket_read ho rfl taken)

theorem countTargetOf_out {kind number : Byte} (h : 3 ≤ kind.toNat ∨ kind = 0 ∧ 16 ≤ number.toNat ∨
    kind = 1 ∧ 8 ≤ number.toNat ∨ kind = 2 ∧ 32 ≤ number.toNat) : countTargetOf kind number = none := by
  obtain past | ⟨rfl, out⟩ | ⟨rfl, out⟩ | ⟨rfl, out⟩ := h
  · unfold countTargetOf
    split
    · omega
    · omega
    · omega
    · rfl
  · exact congrArg (Option.map CountTarget.podLink) (numberBelow_out out)
  · exact congrArg (Option.map CountTarget.farPort) (numberBelow_out out)
  · exact congrArg (Option.map CountTarget.feed) (numberBelow_out out)

theorem clearCounters_ctl (s : State) (c : ControlLink) (target : CountTarget) :
    clearCounters { s with ctl := c } target = { clearCounters s target with ctl := c } := by
  cases target <;> rfl

/-- The DATA of a COUNT.GET sent: its counters are cleared. -/
theorem firstAnswer_clears {ws : List Word} {target : CountTarget} (owed : s.ctl.rx = .owed code r)
    (words : r.words = some ws) (clears : r.clears = some target) (running : r.engineReset = false) :
    (s.ctl.errors = .none → runAll [.turnaround, .answerSent] s
      = .next { clearCounters s target with ctl := ⟨.idle, .none⟩ }) ∧
    (s.ctl.errors ≠ .none → runAll [.turnaround, .answerSent] s = .next { clearCounters s target with
      ctl := ⟨.answering [.errorReport code s.ctl.errors] r, s.ctl.errors⟩ }) := by
  rw [runAll_firstAnswer owed, turnAround_owed owed]
  have carried (c : ControlLink) : carryOut (.data code ws) r { s with ctl := c }
      = { clearCounters s target with ctl := c } := by
    rw [carryOut, clears]
    exact clearCounters_ctl s c target
  refine ⟨fun clean => ?_, fun stands => ?_⟩
  · rw [answersFor_data words clean, answerSent, carried, handBack, running]
    exact congrArg (fun e => Host.Outcome.next { clearCounters s target with ctl := ⟨.idle, e⟩ }) clean
  · rw [answersFor_data_error words stands, answerSent, carried]
    nofun

/-- The last answer, an ERROR REPORT, sent. -/
theorem exec_lastReport {t : State} {e : ErrSet} (running : r.engineReset = false)
    (h : t.ctl = ⟨.answering [.errorReport code e] r, e⟩) : exec .answerSent t = .next { t with ctl := ⟨.idle, .none⟩ } := by
  rw [exec_answerSent (congrArg ControlLink.rx h), answerSent, carryOut, handBack, running]
  rfl

/-- Settles O14: the counters read at the taking, and cleared at the sending. -/
theorem countGetReadsThenClears : Obligations.CountGetReadsThenClears := by
  unfold Obligations.CountGetReadsThenClears
  refine fun s => ⟨fun ho => ⟨fun l => ?pod, fun p => ?port, fun f => ?feed, fun kind number out => ?refused⟩,
    fun r ws owed words => ⟨⟨openPacket s, rfl, openPacket_pods s, openPacket_ports s, openPacket_feeds s⟩,
      fun running x cleared => ?sent⟩⟩
  case pod =>
    exact exec_countGet (kind := 0) (target := .podLink l) ho
      (congrArg (Option.map CountTarget.podLink) (numberBelow_byteOf l (by decide)))
  case port =>
    exact exec_countGet (kind := 1) (target := .farPort p) ho
      (congrArg (Option.map CountTarget.farPort) (numberBelow_byteOf p (by decide)))
  case feed =>
    exact exec_countGet (kind := 2) (target := .feed f) ho
      (congrArg (Option.map CountTarget.feed) (numberBelow_byteOf f (by decide)))
  case refused =>
    refine congrArg Host.Outcome.next (hostPacket_refusedRead ho rfl ?_)
    rw [takeCountGet, countTargetOf_out out]
  case sent =>
    obtain ⟨target, clears, rfl⟩ : ∃ target, r.clears = some target ∧ x = clearCounters s target := by
      obtain ⟨l, clears, e⟩ | ⟨p, clears, e⟩ | ⟨f, clears, e⟩ := cleared
      · exact ⟨_, clears, e⟩
      · exact ⟨_, clears, e⟩
      · exact ⟨_, clears, e⟩
    obtain ⟨clean, stands⟩ := firstAnswer_clears owed words clears running
    refine ⟨clean, fun some_stand c hc => ⟨?_, fun y hy => exec_lastReport running (hy.trans hc)⟩⟩
    rw [hc]
    exact stands some_stand

end PacketLink

end Sys2Proof.Machine
end

section
/-! Proofs for O9: a host command's packet, byte by byte, leaves what its row leaves. A long command's payload is judged
in PAYLOAD, where the row stands in HEADER; so it is shown first that no long command reads the Control Link Interface:
each operation answers the same state, with the interface it was given. -/

namespace Sys2Proof.Machine

variable {s t : State} {i : SrcSlot} (c : ControlLink)

/-- A state with another Control Link Interface. -/
def State.withCtl (s : State) (c : ControlLink) : State := { s with ctl := c }

/-! ### The floor's operations under another interface -/

theorem closeSource_withCtl : closeSource i (s.withCtl c) = (closeSource i s).withCtl c := rfl

theorem joinTail_withCtl : joinTail i (s.withCtl c) = (joinTail i s).withCtl c := rfl

theorem moveToHead_withCtl : moveToHead i (s.withCtl c) = (moveToHead i s).withCtl c := rfl

theorem evict_withCtl : evict i (s.withCtl c) = (evict i s).withCtl c := by
  by_cases opened : s.floorState i = some .opened
  · have there : evict i (s.withCtl c) = moveToHead i (s.withCtl c) := Admission.evict_opened opened
    rw [there, Admission.evict_opened (s := s) opened, moveToHead_withCtl]
  · have there : evict i (s.withCtl c) = closeSource i (s.withCtl c) := Admission.evict_closes opened
    rw [there, Admission.evict_closes (s := s) opened, closeSource_withCtl]

theorem admitSource_withCtl (e : Option SrcSlot) : admitSource i e (s.withCtl c) = (admitSource i e s).withCtl c := by
  cases e with
  | none => rfl
  | some j =>
    have evicted : admitSource i (some j) (s.withCtl c) = admitSource i none (evict j (s.withCtl c)) := rfl
    rw [evicted, evict_withCtl]
    rfl

theorem tryAdmit_withCtl : tryAdmit i (s.withCtl c) = (tryAdmit i s).map (·.withCtl c) := by
  have same : tryAdmit i (s.withCtl c) = if !s.srcs[i].isChair && windowExhausted s then none
      else if s.floor.list.length < s.params.maxOpen then some (admitSource i none (s.withCtl c))
      else match evictee s.srcs[i].isChair s with
        | some e => some (admitSource i (some e) (s.withCtl c))
        | none => none := rfl
  rw [same]
  unfold tryAdmit
  dsimp only
  split
  · rfl
  · split
    · exact congrArg some (admitSource_withCtl c none)
    · cases evictee s.srcs[i].isChair s with
      | none => rfl
      | some e => exact congrArg some (admitSource_withCtl c _)

theorem attempt_withCtl : attempt i (s.withCtl c) = (attempt i s).withCtl c := by
  unfold attempt
  rw [tryAdmit_withCtl]
  cases tryAdmit i s with
  | none => exact joinTail_withCtl c
  | some t => rfl

theorem serve_withCtl (fuel : Nat) (s : State) : serve fuel (s.withCtl c) = (serve fuel s).withCtl c := by
  induction fuel generalizing s with
  | zero => rfl
  | succ fuel ih =>
    have floor : (s.withCtl c).floor = s.floor := rfl
    unfold serve
    rw [floor]
    cases s.floor.queueHead with
    | none => rfl
    | some i =>
      dsimp only
      rw [tryAdmit_withCtl]
      cases tryAdmit i s with
      | none => rfl
      | some t => exact ih t

theorem serviceIf_withCtl (b : Bool) : serviceIf b (s.withCtl c) = (serviceIf b s).withCtl c := by
  cases b
  · rfl
  · exact serve_withCtl c _ s

theorem removeSource_withCtl :
    removeSource i (s.withCtl c) = ((removeSource i s).1.withCtl c, (removeSource i s).2) := by
  have same : removeSource i (s.withCtl c) = if s.floor.list.contains i then (closeSource i (s.withCtl c), true)
      else if s.floor.chairs.contains i || s.floor.delegates.contains i then (closeSource i (s.withCtl c), false)
      else (s.withCtl c, false) := rfl
  rw [same]
  unfold removeSource
  split
  · rfl
  · split <;> rfl

theorem handToFloor_withCtl (shorter : Bool) : handToFloor (s.withCtl c, shorter) i
    = ((handToFloor (s, shorter) i).1.withCtl c, (handToFloor (s, shorter) i).2) := by
  have src : (s.withCtl c).srcs = s.srcs := rfl
  unfold handToFloor
  dsimp only
  rw [src, removeSource_withCtl, attempt_withCtl]
  split
  · rfl
  · split <;> rfl

theorem handAll_withCtl (is : List SrcSlot) (shorter : Bool) (s : State) : is.foldl handToFloor (s.withCtl c, shorter)
    = ((is.foldl handToFloor (s, shorter)).1.withCtl c, (is.foldl handToFloor (s, shorter)).2) := by
  induction is generalizing s shorter with
  | nil => rfl
  | cons i rest ih => rw [List.foldl_cons, handToFloor_withCtl, ih, List.foldl_cons]

theorem addNoticeIf_withCtl (b : Bool) (k : NoticeKind) (s : State) :
    (s.withCtl c).addNoticeIf b k = (s.addNoticeIf b k).withCtl c := by
  cases b <;> rfl

theorem noteFloor_withCtl (s t : State) : noteFloor (s.withCtl c) (t.withCtl c) = (noteFloor s t).withCtl c :=
  addNoticeIf_withCtl c _ _ t

theorem finishEvent_withCtl (s t : State) : finishEvent (s.withCtl c) (t.withCtl c) = (finishEvent s t).withCtl c := by
  have hands : handedOn (s.withCtl c) (t.withCtl c) = handedOn s t := rfl
  have targets : retarget (t.withCtl c) = retarget t := rfl
  unfold finishEvent
  rw [hands, targets, noteFloor_withCtl]
  rfl

theorem mutesHanded_withCtl (affected : SrcSlot → Bool) (s : State) : mutesHanded affected (s.withCtl c)
    = ((mutesHanded affected s).1.withCtl c, (mutesHanded affected s).2) :=
  handAll_withCtl c (handedOrder affected s) false (mutesWritten s (muteChanges affected s))

theorem mutesServed_withCtl (affected : SrcSlot → Bool) (s : State) :
    mutesServed affected (s.withCtl c) = (mutesServed affected s).withCtl c := by
  unfold mutesServed
  rw [mutesHanded_withCtl, serviceIf_withCtl]

theorem deriveMutes_withCtl (affected : SrcSlot → Bool) (s : State) :
    deriveMutes affected (s.withCtl c) = (deriveMutes affected s).withCtl c := by
  by_cases changes : muteChanges affected s = []
  · have there : deriveMutes affected (s.withCtl c) = s.withCtl c := deriveMutes_nil changes
    rw [there, deriveMutes_nil changes]
  · have there : deriveMutes affected (s.withCtl c)
        = finishEvent (s.withCtl c) { mutesServed affected (s.withCtl c) with freeCount := s.freeCount + 1 } :=
      deriveMutes_eq changes
    rw [there, deriveMutes_eq changes, mutesServed_withCtl]
    exact finishEvent_withCtl c s { mutesServed affected s with freeCount := s.freeCount + 1 }

/-! ### The long commands under another interface -/

/-- What a command did, with another Control Link Interface. -/
def Taken.withCtl (c : ControlLink) : Taken → Taken
  | .refused k => .refused k
  | .taken r s => .taken r (s.withCtl c)

theorem Taken.withCtl_ite {p : Prop} [Decidable p] {t u : Taken} :
    (if p then t else u).withCtl c = if p then t.withCtl c else u.withCtl c := by
  split <;> rfl

theorem takeXpWrite_withCtl (start : Nat) (words : List Word) (s : State) :
    takeXpWrite start words (s.withCtl c) = (takeXpWrite start words s).withCtl c := by
  unfold takeXpWrite
  rw [Taken.withCtl_ite, Taken.withCtl_ite]
  rfl

/-- No long command reads the Control Link Interface. -/
theorem takeCommand_withCtl {cmd : HostCmd} {ws : List Word} (long : cmd.body = .long ws) (s : State) :
    takeCommand cmd (s.withCtl c) = (takeCommand cmd s).withCtl c := by
  cases cmd
  case srcAttach slot chair origin trim groups =>
    show takeSrcAttach slot chair origin trim groups (s.withCtl c)
      = (takeSrcAttach slot chair origin trim groups s).withCtl c
    unfold takeSrcAttach
    split
    · split
      · rfl
      · rw [Taken.withCtl_ite, Taken.withCtl_ite]
        rfl
    · rfl
  case srcGroups slot groups =>
    show takeSrcGroups slot groups (s.withCtl c) = (takeSrcGroups slot groups s).withCtl c
    have same : activeSrc slot (s.withCtl c) = activeSrc slot s := rfl
    unfold takeSrcGroups
    rw [same]
    split
    · rfl
    next i _ =>
      exact congrArg Taken.write (deriveMutes_withCtl c (· == i) (s.setSrc i { s.srcs[i] with groups := groups }))
  case feedAttach slot dest master excluded =>
    show takeFeedAttach slot dest master excluded (s.withCtl c) = (takeFeedAttach slot dest master excluded s).withCtl c
    unfold takeFeedAttach
    split
    · rw [Taken.withCtl_ite, Taken.withCtl_ite]
      rfl
    · rfl
  case feedLevel slot master =>
    show takeFeedLevel slot master (s.withCtl c) = (takeFeedLevel slot master s).withCtl c
    have same : activeFeed slot (s.withCtl c) = activeFeed slot s := rfl
    unfold takeFeedLevel
    rw [same]
    split <;> rfl
  case feedExclude slot groups =>
    show takeFeedExclude slot groups (s.withCtl c) = (takeFeedExclude slot groups s).withCtl c
    have same : activeFeed slot (s.withCtl c) = activeFeed slot s := rfl
    unfold takeFeedExclude
    rw [same]
    split <;> rfl
  case paramSet pairs => 
    show takeParamSet pairs (s.withCtl c) = (takeParamSet pairs s).withCtl c
    unfold takeParamSet
    rw [Taken.withCtl_ite, Taken.withCtl_ite]
    split
    · rfl
    · cases readPairs pairs <;> rfl
  case xpWindow fs fe ss se order fr sr =>
    show takeXpWindow fs fe ss se order fr sr (s.withCtl c) = (takeXpWindow fs fe ss se order fr sr s).withCtl c
    unfold takeXpWindow
    split
    · rw [Taken.withCtl_ite]
      rfl
    · rfl
  case xpPut words => exact takeXpWrite_withCtl c 0 words s
  case xpPutNext words => exact takeXpWrite_withCtl c s.banks.cursor words s
  all_goals cases long

/-- The judgement overwrites the receive state, so a long command is judged alike in HEADER and in PAYLOAD. -/
theorem settle_withCtl {cmd : HostCmd} {ws : List Word} (long : cmd.body = .long ws) {s : State}
    (errors : c.errors = s.ctl.errors) (code : Byte) (wanted : Bool) :
    settle code wanted (s.withCtl c) (takeCommand cmd (s.withCtl c)) = settle code wanted s (takeCommand cmd s) := by
  have kept : takeCommand cmd s = (takeCommand cmd s).withCtl s.ctl := takeCommand_withCtl s.ctl long s
  rw [takeCommand_withCtl c long, kept]
  obtain ⟨k⟩ | ⟨r, t⟩ := takeCommand cmd s <;>
    cases owed : wanted || readCode code <;>
    simp [settle, owe, owed, State.withCtl, State.addError, Taken.withCtl, errors]

/-! ### A host command's packet, byte by byte (R182 to R186) -/

theorem runAll_cons {i : Instr} {is : List Instr} {s t : State} (h : exec i s = .next t) :
    runAll (i :: is) s = runAll is t := by
  rw [runAll, h]

theorem judgePacket_body {cmd : HostCmd} (wf : cmd.wf = true) (wanted : Bool) (s : State) :
    judgePacket wanted cmd.code cmd.body s = settle cmd.code wanted s (takeCommand cmd s) := by
  rw [judgePacket, decodePacket_body cmd wf]

theorem runAll_packetOf {cmd : HostCmd} (wf : cmd.wf = true) {s : State} (owned : hostOwnsLine s) (wanted : Bool) :
    runAll (packetOf wanted cmd) s
      = .next (settle cmd.code wanted (openPacket s) (takeCommand cmd (openPacket s))) := by
  have start : exec .packetStart s = .next (openPacket s) := rfl
  have header := exec_headerComplete (openPacket_rx owned)
  cases body : cmd.body with
  | short p1 p2 =>
    have bit7 : (if wanted then (0x40 : Byte) else 0x00).getLsbD 7 = false := by cases wanted <;> rfl
    have bit6 : (if wanted then (0x40 : Byte) else 0x00).getLsbD 6 = wanted := by cases wanted <;> rfl
    simp only [packetOf, body, packetContent]
    rw [runAll_cons start, runAll_cons (header _ _ _ _ _), judgeHeaderBytes_correct (judgeHeader_sent _), bit7, bit6,
      ← body, if_neg Bool.false_ne_true, judgePacket_body wf]
    rfl
  | long ws =>
    have bit7 : (if wanted then (0xC0 : Byte) else 0x80).getLsbD 7 = true := by cases wanted <;> rfl
    have bit6 : (if wanted then (0xC0 : Byte) else 0x80).getLsbD 6 = wanted := by cases wanted <;> rfl
    obtain ⟨least, most⟩ := Laws.WordCounts.body_length cmd wf ws body
    have count : (BitVec.ofNat 8 (ws.length - 1)).toNat + 1 = ws.length := by
      rw [BitVec.toNat_ofNat]
      omega
    simp only [packetOf, body, packetContent]
    rw [runAll_cons start, runAll_cons (header _ _ _ _ _), judgeHeaderBytes_correct (judgeHeader_sent _), bit7, bit6,
      if_pos rfl, count, runAll_cons (exec_payloadComplete rfl _), judgePayload, if_pos rfl, ← body,
      judgePacket_body wf]
    exact congrArg Host.Outcome.next
      (settle_withCtl ⟨.payload wanted cmd.code ws.length, (openPacket s).ctl.errors⟩ body rfl _ _)

namespace PacketRows

/-- Settles O9: a row is its packet by `runAll_packetOf`; a read code owes its answer anyway, and a write leaves the
plain reply, so the flag alone decides what is owed. -/
theorem packetsOfACommandAreTheCommand : Obligations.PacketsOfACommandAreTheCommand := by
  unfold Obligations.PacketsOfACommandAreTheCommand
  intro c s wf owned
  rw [runAll_packetOf wf owned, runAll_packetOf wf owned, exec_hostInstr, hostPacket_owned owned]
  refine ⟨rfl, fun read => ?_, fun write ne => ⟨_, rfl, ?_⟩⟩
  · cases takeCommand c (openPacket s) <;> simp only [settle, owe, read, Bool.or_true]
  · have plain := Queue.takeCommand_writes write ne (openPacket s)
    cases taken : takeCommand c (openPacket s) with
    | refused k =>
      simp only [settle, owe, write, Bool.or_false, Bool.false_eq_true, if_true, if_false]
      rfl
    | taken r t =>
      rw [taken] at plain
      obtain ⟨rfl, -⟩ := plain
      simp only [settle, owe, write, Bool.or_false, if_true, Bool.false_eq_true, if_false]
      rfl

end PacketRows

end Sys2Proof.Machine
end

section
/-! Proofs for O22, O27 and O42: the commands and events that write one record and leave the floor alone. -/

namespace Sys2Proof.Machine

variable {s : State} {i : SrcSlot} {f : FeedSlot} {g : GainUnit} {x : Source}

/-- What a hand-over leaves of a gain unit (R105). -/
theorem GainUnit.hand_spec (g : GainUnit) (b : Int) : (g.hand b).current = g.current ∧ (g.hand b).target = b ∧
    ((g.hand b).target = g.target → g.hand b = g) ∧
    ((g.hand b).target ≠ g.target → (g.hand b).target = (g.hand b).current → (g.hand b).ramp = none) ∧
    ((g.hand b).target ≠ g.target → (g.hand b).target ≠ (g.hand b).current → (g.hand b).ramp
      = some ⟨(g.hand b).current, rampDuration ((g.hand b).target - (g.hand b).current).natAbs, 0⟩) := by
  rw [g.hand_current, g.hand_target]
  refine ⟨rfl, rfl, RampSteps.hand_of_eq_target, fun ht hc => ?_, fun ht hc => ?_⟩
  · rw [RampSteps.hand_of_eq_current ht hc]
  · rw [RampSteps.hand_of_ne ht hc]

/-- The floor classes are CHAIR and DELEGATE (R5). -/
theorem floorClass_iff_cls : x.floorClass = true ↔ x.cls = some .chair ∨ x.cls = some .delegate := by
  rw [floorClass_iff, Source.isChair, Source.isDelegate, beq_iff_eq, beq_iff_eq]

theorem gateAttenuation_eq (p : Params) (fs : Option FloorState) : gateAttenuation p fs
    = if fs = some .closed ∨ fs = some .pending then (p.closedAtten : Int) else 0 := by
  unfold gateAttenuation
  cases fs with
  | none => rfl
  | some v => cases v <;> rfl

theorem nomAttenuation_eq (p : Params) (n : Nat) (x : Source) : nomAttenuation p n x
    = if (x.cls = some .chair ∨ x.cls = some .delegate) ∧ p.nomOn then nom n else 0 := by
  simp only [nomAttenuation, Bool.and_eq_true, floorClass_iff_cls]

/-- The composition of R102 with its attenuations written out. -/
theorem composeTarget_eq (p : Params) (n : Nat) (x : Source) : composeTarget p n x =
    if x.effMute = true ∨ x.state ≠ .active then -192 else max (-192) (min 24 (x.trim
      - (if x.floorState = some .closed ∨ x.floorState = some .pending then (p.closedAtten : Int) else 0)
      - (if (x.cls = some .chair ∨ x.cls = some .delegate) ∧ p.nomOn then nom n else 0))) := by
  have silent : (x.effMute || !x.isActive) = true ↔ x.effMute = true ∨ x.state ≠ .active := by
    rw [Bool.or_eq_true, Bool.not_eq_true', ← Bool.not_eq_true, isActive_iff]
  rw [composeTarget, gateAttenuation_eq, nomAttenuation_eq]
  exact if_congr silent rfl rfl

namespace OneRecord

theorem activeSrc_active (h : s.srcs[i].state = .active) : activeSrc (byteOf i) s = .ok i := by
  simp only [activeSrc, numberBelow_byteOf i (by decide), h]

theorem activeFeed_active (h : s.feeds[f].state = .active) : activeFeed (byteOf f) s = .ok f := by
  simp only [activeFeed, numberBelow_byteOf f (by decide), h]

/-! ### SRC.TRIM (R14) -/

/-- The record under a new trim, its target handed to the ramp unit. -/
def trimmed (s : State) (v : Byte) (x : Source) : Source := retarget s { x with trim := clampTrim v.toInt }

theorem takeSrcTrim_active (h : s.srcs[i].state = .active) (v : Byte) :
    takeSrcTrim (byteOf i) v s = .write (s.setSrc i (trimmed s v s.srcs[i])) := by
  have written : retargetAt i (s.setSrc i { s.srcs[i] with trim := clampTrim v.toInt })
      = s.setSrc i (trimmed s v s.srcs[i]) := by
    rw [retargetAt, State.setSrc_same, State.setSrc, State.setSrc_srcs, Vector.set_set]
    rfl
  rw [takeSrcTrim, activeSrc_active h]
  exact congrArg Taken.write written

/-- A host command that writes one source record and nothing else. -/
theorem hostPacket_setSrc {code : Byte} {take : State → Taken} {y : Source} (ho : hostOwnsLine s)
    (hc : readCode code = false) (ht : take (openPacket s) = .write ((openPacket s).setSrc i y)) :
    hostPacket code take s = { written s with srcs := s.srcs.set i y } := by
  rw [hostPacket_write ho hc ht, ← openPacket_srcs s]
  rfl

/-- A host command that writes one feed record and nothing else. -/
theorem hostPacket_setFeed {code : Byte} {take : State → Taken} {y : Feed} (ho : hostOwnsLine s)
    (hc : readCode code = false) (ht : take (openPacket s) = .write ((openPacket s).setFeed f y)) :
    hostPacket code take s = { written s with feeds := s.feeds.set f y } := by
  rw [hostPacket_write ho hc ht, ← openPacket_feeds s]
  rfl

theorem exec_srcTrim (ho : hostOwnsLine s) (h : s.srcs[i].state = .active) (v : Byte) :
    exec (.srcTrim (byteOf i) v) s = .next { written s with srcs := s.srcs.set i (trimmed s v s.srcs[i]) } := by
  have active : (openPacket s).srcs[i].state = .active := by rw [openPacket_srcs]; exact h
  have same : trimmed (openPacket s) v (openPacket s).srcs[i] = trimmed s v s.srcs[i] := by
    simp only [trimmed, retarget, State.params, openPacket_srcs, openPacket_banks, openPacket_floor]
  rw [← same]
  exact congrArg Host.Outcome.next (hostPacket_setSrc ho rfl (takeSrcTrim_active active v))

/-- Settles O22: R102's composition written out, and the hand-over of the target composed with the new trim. -/
theorem srcTrimRetargetsTheGain : Obligations.SrcTrimRetargetsTheGain := by
  unfold Obligations.SrcTrimRetargetsTheGain
  refine ⟨rfl, composeTarget_eq, fun s i v ho active =>
    ⟨clampTrim v.toInt, _, exec_srcTrim ho active v, rfl, ?_⟩⟩
  obtain ⟨current, target, handed⟩ := s.srcs[i].gain.hand_spec
    (composeTarget s.params s.floor.list.length { s.srcs[i] with trim := clampTrim v.toInt })
  refine ⟨current, target.trans ?_, handed⟩
  rw [composeTarget_eq]
  exact if_congr (or_iff_left (not_not.mpr active)) rfl rfl

/-! ### The commands of an ACTIVE feed (R89, R93 to R95) -/

theorem active_opened (h : s.feeds[f].state = .active) : activeFeed (byteOf f) (openPacket s) = .ok f := by
  rw [SlotChecks.activeFeed_openPacket, activeFeed_active h]

/-- A field of an ACTIVE feed set, and its target handed on (R93, R94). -/
theorem exec_feedField {c : Instr} {v : Word} {master : Int} {muted : Bool} (ho : hostOwnsLine s)
    (active : s.feeds[f].state = .active)
    (h : c = .feedLevel (byteOf f) v ∧ master = max (-192) (min 24 v.toInt) ∧ muted = s.feeds[f].muted ∨
      c = .feedMute (byteOf f) muted ∧ master = s.feeds[f].master) :
    exec c s = .next { written s with
      feeds := s.feeds.set f (retargetFeed { s.feeds[f] with master := master, muted := muted }) } := by
  obtain ⟨rfl, rfl, rfl⟩ | ⟨rfl, rfl⟩ := h
  · refine congrArg Host.Outcome.next (hostPacket_setFeed ho rfl ?_)
    rw [takeFeedLevel, active_opened active, openPacket_feeds]
    rfl
  · refine congrArg Host.Outcome.next (hostPacket_setFeed ho rfl ?_)
    rw [takeFeedMute, active_opened active, openPacket_feeds]

theorem feedTarget_active {y : Feed} (active : y.state = .active) :
    feedTarget y = if y.muted then -192 else y.master := by
  rw [feedTarget, active]
  exact if_congr (by simp) rfl rfl

/-- Settles O27: each command writes one record, and the target of R104 goes through `GainUnit.hand_spec`. -/
theorem feedCommandsOfAnActiveFeed : Obligations.FeedCommandsOfAnActiveFeed := by
  unfold Obligations.FeedCommandsOfAnActiveFeed
  intro s f ho active
  refine ⟨fun silent => ?free, fun sounding => ?fade, fun groups => ?exclude, fun c master muted row => ?field⟩
  case free =>
    refine congrArg Host.Outcome.next (hostPacket_setFeed ho rfl ?_)
    rw [takeFeedRetire, active_opened active, openPacket_feeds]
    refine (if_pos silent).trans ?_
    rw [freeFeed, openPacket_feeds]
    rfl
  case fade =>
    refine congrArg Host.Outcome.next (hostPacket_setFeed ho rfl ?_)
    have diff : (off - s.feeds[f].gain.current).natAbs = (s.feeds[f].gain.current + 192).natAbs := by
      unfold off
      omega
    rw [takeFeedRetire, active_opened active, openPacket_feeds]
    refine (if_neg sounding).trans ?_
    rw [GainUnit.rampTo, diff]
    rfl
  case exclude =>
    refine congrArg Host.Outcome.next (hostPacket_setFeed ho rfl ?_)
    rw [takeFeedExclude, active_opened active, openPacket_feeds]
  case field =>
    have row : ∃ v : Word,
        c = .feedLevel (byteOf f) v ∧ master = max (-192) (min 24 v.toInt) ∧ muted = s.feeds[f].muted ∨
        c = .feedMute (byteOf f) muted ∧ master = s.feeds[f].master := by
      obtain ⟨v, level⟩ | mute := row
      exacts [⟨v, .inl level⟩, ⟨0, .inr mute⟩]
    obtain ⟨v, row⟩ := row
    obtain ⟨current, target, handed⟩ := s.feeds[f].gain.hand_spec
      (feedTarget { s.feeds[f] with master := master, muted := muted })
    exact ⟨_, exec_feedField ho active row, current, target.trans (feedTarget_active active), handed⟩

/-! ### NOISE_FLOOR_CREEP and ALERT (R24, R29) -/

theorem quiet_iff : (x.voice == .quiet) = true ↔ x.voice = .quiet := beq_iff_eq

/-- What NOISE_FLOOR_CREEP asks of a source but its count (R24). -/
theorem creeps_iff : (x.inUse && x.voice == .quiet && decide (x.n < x.s)) = true ↔
    x.state ≠ .free ∧ x.voice = .quiet ∧ x.n < x.s := by
  rw [Bool.and_eq_true, Bool.and_eq_true, decide_eq_true_eq, quiet_iff, and_assoc, Source.inUse, bne_iff_ne]

theorem creepRise_due {p : Params} (h : p.creepBlocks ≤ x.creep) :
    creepRise p x = { x with n := x.n + 1, creep := 0 } := if_pos h

theorem creepRise_early {p : Params} (h : x.creep < p.creepBlocks) : creepRise p x = x := if_neg (by omega)

/-- What ALERT asks of a source (R28, R29). -/
theorem alerts_iff {p : Params} : (x.isActive && x.voice == .voiced && x.effMute && !x.alert && x.twmRose
      && decide (p.twmBlocks ≤ x.twm)) = true ↔ x.state = .active ∧ x.voice = .voiced ∧ x.effMute = true ∧
    x.alert = false ∧ x.twmRose = true ∧ p.twmBlocks ≤ x.twm := by
  simp only [Bool.and_eq_true, Bool.not_eq_true', decide_eq_true_eq, beq_iff_eq, isActive_iff, and_assoc]

/-- Settles O42: each event writes the record where its condition stands, and otherwise answers the same state. -/
theorem noiseFloorCreepAndAlert : Obligations.NoiseFloorCreepAndAlert := by
  unfold Obligations.NoiseFloorCreepAndAlert
  intro s i
  refine ⟨fun used quiet above due => ?creep, fun idle => ?noCreep, fun active voiced muted off rose due => ?alert,
    fun idle => ?noAlert⟩
  case creep =>
    refine congrArg Host.Outcome.next ((if_pos (creeps_iff.mpr ⟨used, quiet, above⟩)).trans ?_)
    rw [creepRise_due due]
    rfl
  case noCreep =>
    refine congrArg Host.Outcome.next (?_ : (if _ then _ else _) = _)
    split
    next creeps =>
      obtain ⟨used, quiet, above⟩ := creeps_iff.mp creeps
      obtain free | voiced | below | early := idle
      · exact absurd free used
      · exact absurd (voiced.symm.trans quiet) nofun
      · omega
      · rw [creepRise_early early, State.setSrc_self]
    next => rfl
  case alert =>
    refine ⟨_, congrArg Host.Outcome.next (if_pos (alerts_iff.mpr ⟨active, voiced, muted, off, rose, due⟩)), ?_,
      rfl, rfl, addNotice_attention _ _, rfl⟩
    have judged : judgeRise s.params s.srcs[i] = { s.srcs[i] with alert := true, twmRose := false } := by
      rw [judgeRise, decide_eq_true due, Bool.or_true]
    rw [judged]
    rfl
  case noAlert =>
    refine congrArg Host.Outcome.next (if_neg fun alerts => ?_)
    obtain ⟨active, voiced, muted, off, rose, due⟩ := alerts_iff.mp alerts
    obtain inactive | quiet | unmuted | on | level | early := idle
    · exact inactive active
    · exact absurd (quiet.symm.trans voiced) nofun
    · exact absurd (unmuted.symm.trans muted) nofun
    · exact absurd (on.symm.trans off) nofun
    · exact absurd (level.symm.trans rose) nofun
    · omega

end OneRecord

end Sys2Proof.Machine
end

section
/-! Proofs for O50: the search of a stream for the first good header, and the framing events of a pod link. -/

namespace Sys2Proof

variable {stream : List Byte} {k : Nat} {m h : PodHeader}

/-- The four bytes of a header stand at a byte position of a stream. -/
def HeaderAt (stream : List Byte) (k : Nat) (m : PodHeader) : Prop :=
  stream[k]? = some m.frameType ∧ stream[k + 1]? = some m.elements ∧ stream[k + 2]? = some m.buttons ∧
    stream[k + 3]? = some m.check

theorem headerAt_cons {b : Byte} (h : HeaderAt stream k m) : HeaderAt (b :: stream) (k + 1) m := h

/-- A stream with a header at its start has its four bytes in front. -/
theorem headerAt_zero (h : HeaderAt stream 0 m) :
    ∃ rest, stream = m.frameType :: m.elements :: m.buttons :: m.check :: rest := by
  obtain ⟨h0, h1, h2, h3⟩ := h
  match stream, h0, h1, h2, h3 with
  | _ :: _ :: _ :: _ :: rest, h0, h1, h2, h3 =>
    cases h0
    cases h1
    cases h2
    cases h3
    exact ⟨rest, rfl⟩

/-- A stream of four bytes or more has a header at its start. -/
theorem headerAt_front (b0 b1 b2 b3 : Byte) (rest : List Byte) :
    HeaderAt (b0 :: b1 :: b2 :: b3 :: rest) 0 ⟨b0, b1, b2, b3⟩ := ⟨rfl, rfl, rfl, rfl⟩

theorem long_of_headerAt (h : HeaderAt stream k m) : k + 3 < stream.length :=
  (List.getElem?_eq_some_iff.mp h.2.2.2).1

theorem four_bytes (h : ¬ stream.length < 4) : ∃ b0 b1 b2 b3 rest, stream = b0 :: b1 :: b2 :: b3 :: rest := by
  match stream, h with
  | b0 :: b1 :: b2 :: b3 :: rest, _ => exact ⟨b0, b1, b2, b3, rest, rfl⟩
  | [], short | [_], short | [_, _], short | [_, _, _], short => exact absurd (by simp) short

/-- The search stops at the first good header (R151). -/
theorem searchHeader_first (found : HeaderAt stream k m) (good : m.good = true)
    (none_before : ∀ j m', j < k → HeaderAt stream j m' → m'.good = false) : searchHeader stream = some (k, m) := by
  induction k generalizing stream with
  | zero =>
    obtain ⟨rest, rfl⟩ := headerAt_zero found
    rw [Machine.searchHeader_step]
    exact if_pos good
  | succ k ih =>
    have long := long_of_headerAt found
    obtain ⟨b0, b1, b2, b3, rest, rfl⟩ := four_bytes (stream := stream) (by omega)
    have bad : (PodHeader.mk b0 b1 b2 b3).good = false :=
      none_before 0 _ (Nat.succ_pos k) (headerAt_front b0 b1 b2 b3 rest)
    rw [Machine.searchHeader_step, if_neg (by rw [bad]; exact Bool.false_ne_true),
      ih found fun j m' below at_j => none_before (j + 1) m' (Nat.succ_lt_succ below) (headerAt_cons at_j)]
    rfl

/-- The search of a stream without a good header finds none (R151). -/
theorem searchHeader_none (bad : ∀ j m', HeaderAt stream j m' → m'.good = false) : searchHeader stream = none := by
  induction stream with
  | nil => rfl
  | cons b rest ih =>
    by_cases short : (b :: rest).length < 4
    · exact Machine.searchHeader_short short
    · obtain ⟨b0, b1, b2, b3, more, e⟩ := four_bytes short
      obtain ⟨rfl, rfl⟩ := List.cons_eq_cons.mp e
      have front : (PodHeader.mk b b1 b2 b3).good = false := bad 0 _ (headerAt_front b b1 b2 b3 more)
      rw [Machine.searchHeader_step, if_neg (by rw [front]; exact Bool.false_ne_true),
        ih fun j m' at_j => bad (j + 1) m' (headerAt_cons at_j)]
      rfl

theorem good_iff : h.good = true ↔ h.check = crc8 [h.frameType, h.elements, h.buttons] ∧ h.frameType = 0x3A ∧
    1 ≤ h.elements.toNat ∧ h.elements.toNat ≤ 4 := by
  simp only [PodHeader.good, PodHeader.checkAgrees, Bool.and_eq_true, beq_iff_eq, decide_eq_true_eq, and_assoc]

namespace Machine.Framing

variable {s : State} {l : PodLink} {audio : Vector Byte 1152}

theorem execHuntMatch_found {searched : List Byte} (hunt : s.pods[l].framing = .hunt)
    (found : searchHeader (searched ++ h.bytes) = some (k, m)) :
    exec (.huntMatch l searched h) s = .next (huntMatch l k m s) := by
  refine congrArg Host.Outcome.next ((if_pos hunt).trans ?_)
  rw [found]

theorem execHuntMatch_none {searched : List Byte}
    (idle : s.pods[l].framing = .hunt → searchHeader (searched ++ h.bytes) = none) :
    exec (.huntMatch l searched h) s = .next s := by
  refine congrArg Host.Outcome.next (?_ : (if _ then _ else _) = _)
  split
  next hunt => rw [idle hunt]
  next => rfl

theorem exec_presync (presync : s.pods[l].framing = .presync) :
    exec (.presyncJudgement l h audio) s = .next (judgePresync l h audio s) :=
  congrArg Host.Outcome.next (if_pos presync)

/-- The link as it enters SYNC, before its frame is taken (R153). -/
def entered (l : PodLink) (h : PodHeader) (s : State) : State :=
  (s.setPod l { s.pods[l] with
    framing := .sync, goodRun := 0, badRun := 0, elements := h.elements.toNat }).addNotice .podLink

theorem judgePresync_enters (good : h.good = true) (deep : s.pods[l].depth ≤ s.pods[l].goodRun + 1) :
    judgePresync l h audio s = goodFrame l h audio (entered l h s) := by
  unfold judgePresync
  dsimp only
  rw [if_pos good, if_pos deep, enterSync, State.setPod_same, setPod_setPod]
  rfl

theorem exec_goodFrame {u : State} (sync : u.pods[l].framing = .sync) (good : h.good = true) :
    exec (.goodFrameInSync l h audio) u = .next (goodFrame l h audio u) :=
  congrArg Host.Outcome.next (if_pos ⟨sync, good⟩)

theorem takePodSetup_out {link depth : Byte} (h : 16 ≤ link.toNat ∨ depth.toNat < 2 ∨ 3 < depth.toNat) (s : State) :
    takePodSetup link depth s = .refused .badParam := by
  unfold takePodSetup
  split
  next => rfl
  next l named =>
    have below : link.toNat < 16 := by
      rw [← Walk.numberBelow_val named]
      exact l.isLt
    exact if_neg (by omega)

/-- Settles O50: HUNT by the search's two lemmas, PRESYNC by the branches of its judgement. -/
theorem framingFindsItsPod : Obligations.FramingFindsItsPod := by
  unfold Obligations.FramingFindsItsPod
  intro s l h audio
  refine ⟨good_iff, ?found, ?missed, fun other => congrArg Host.Outcome.next (if_neg other), fun presync =>
    ⟨fun bad => ?back, fun good shallow => ?raised, fun good deep => ?sync⟩, fun ho => ⟨fun depth known => ?setup,
    fun link depth out => ?refused⟩⟩
  case found =>
    rintro searched stream k m place hunt rfl at0 at1 at2 at3 good none_before place_eq
    have found : searchHeader (searched ++ h.bytes) = some (k, m) :=
      searchHeader_first ⟨at0, at1, at2, at3⟩ good fun j m' below ⟨h0, h1, h2, h3⟩ =>
        none_before j _ _ _ _ below h0 h1 h2 h3
    have same : place = placeAfter k s.pods[l].place := Fin.ext place_eq
    rw [execHuntMatch_found hunt found, same]
    rfl
  case missed =>
    rintro searched stream rfl idle
    refine execHuntMatch_none fun hunt => searchHeader_none fun j m' ⟨h0, h1, h2, h3⟩ => ?_
    obtain other | bad := idle
    · exact absurd hunt other
    · exact bad j _ _ _ _ h0 h1 h2 h3
  case back =>
    refine ⟨nextPlace s.pods[l].place, rfl, ?_⟩
    have notGood : ¬ h.good = true := by rw [bad]; exact Bool.false_ne_true
    exact (exec_presync presync).trans (congrArg Host.Outcome.next (if_neg notGood))
  case raised =>
    exact (exec_presync presync).trans (congrArg Host.Outcome.next ((if_pos good).trans (if_neg (by omega))))
  case sync =>
    refine ⟨entered l h s, rfl, rfl, rfl, addNotice_attention _ _, rfl, ?_⟩
    rw [exec_presync presync, judgePresync_enters good deep, exec_goodFrame ?_ good]
    have there : (entered l h s).pods[l] = _ := State.setPod_same s l _
    rw [there]
  case setup =>
    have taken : takePodSetup (byteOf l) depth (openPacket s)
        = .write ((openPacket s).setPod l { s.pods[l] with depth := depth.toNat }) := by
      rw [takePodSetup, numberBelow_byteOf l (by decide), openPacket_pods]
      exact if_pos (by obtain rfl | rfl := known <;> decide)
    refine congrArg Host.Outcome.next ((hostPacket_write ho rfl taken).trans ?_)
    rw [← openPacket_pods s]
    rfl
  case refused => exact congrArg Host.Outcome.next (hostPacket_refused ho rfl (takePodSetup_out out _))

end Machine.Framing

end Sys2Proof
end

section
/-! Proofs for O16 and O17: the fields of the words and bytes that the part sends, and the layouts they make. -/

namespace Sys2Proof.Machine

/-! ### A number's fields in a bit vector -/

/-- The field of k bits from bit a on, from the quotient and remainder that it is. -/
theorem field_ofNat {w a k n m : Nat} (fits : a + k ≤ w) (h : n / 2 ^ a % 2 ^ k = m) :
    ((BitVec.ofNat w n).extractLsb' a k).toNat = m := by
  rw [BitVec.extractLsb'_toNat, BitVec.toNat_ofNat, Nat.shiftRight_eq_div_pow, ← h]
  obtain ⟨c, rfl⟩ := Nat.exists_eq_add_of_le fits
  rw [Nat.add_assoc, Nat.pow_add 2 a, Nat.mod_mul_right_div_self, Nat.mod_mod_of_dvd _ (Nat.pow_dvd_pow 2 (by omega))]

/-- Bit j, from the remainder that it is. -/
theorem bit_ofNat {w j n : Nat} {b : Bool} (fits : j < w) (h : n / 2 ^ j % 2 = b.toNat) :
    (BitVec.ofNat w n).getLsbD j = b := by
  rw [BitVec.getLsbD_ofNat, decide_eq_true fits, Bool.true_and, Nat.testBit_eq_decide_div_mod_eq, h]
  cases b <;> rfl

namespace Layouts

variable {s : State}

/-! ### Frames (R200, R207) -/

theorem blockBytes_length (b : Block) : (blockBytes b).length = 288 := by
  rw [blockBytes, length_flatMap_pieces (n := 3) fun _ => rfl, Vector.length_toList]

/-- Sample n of a block is the three bytes from 3n on. -/
theorem blockBytes_at (b : Block) (n : Fin 96) {r : Nat} (hr : r < 3) :
    (blockBytes b)[3 * n.val + r]? = (sampleBytes b[n])[r]? := by
  have there : b.toList[n.val]? = some b[n] := by
    rw [Vector.getElem?_toList]
    exact Vector.getElem?_eq_getElem n.isLt
  rw [blockBytes, getElem?_flatMap_pieces (n := 3) (fun _ => rfl) hr, there]
  rfl

theorem wordBytes_length (ws : List Word) : (wordBytes ws).length = 2 * ws.length :=
  length_flatMap_pieces (n := 2) (fun _ => rfl) ws

theorem wordBytes_at {ws : List Word} {k r : Nat} {w : Word} (there : ws[k]? = some w) (hr : r < 2) :
    (wordBytes ws)[2 * k + r]? = [hiByte w, loByte w][r]? := by
  rw [wordBytes, getElem?_flatMap_pieces (n := 2) (fun _ => rfl) hr, there]
  rfl

theorem wordBytes_append (ws : List Word) (w : Word) : wordBytes (ws ++ [w]) = wordBytes ws ++ [hiByte w, loByte w] := by
  simp [wordBytes]

theorem indicator_le (c : Indicator) : c.toNat ≤ 6 := by cases c <;> decide

/-- The kinds of an error set in the order of their bits (R206). -/
def errorBits (e : ErrSet) : List Bool :=
  [e.hdrCorrected, e.hdrFailed, e.payloadCheck, e.length, e.unknownCmd, e.badParam, e.busy, e.notAttached, e.bound]

theorem errorWord_eq (e : ErrSet) : e.toWord = BitVec.ofNat 16 ((errorBits e).foldr Nat.bit 0) := by
  simp only [ErrSet.toWord, errorBits, List.foldr_cons, List.foldr_nil, Nat.bit_val]
  congr 1
  omega

theorem errorWord_low (e : ErrSet) {j : Nat} (h : j < 8) : (loByte e.toWord).getLsbD j = (errorBits e).getD j false := by
  rw [loByte, BitVec.getLsbD_extractLsb', errorWord_eq, BitVec.getLsbD_ofNat, Notices.testBit_foldr_bit,
    decide_eq_true h, decide_eq_true (by omega), Bool.true_and, Bool.true_and, Nat.zero_add]

/-- BOUND alone stands in the high byte (R206). -/
theorem errorWord_high (e : ErrSet) : hiByte e.toWord = if e.bound then 1 else 0 := by
  have low := fun b : Bool => Bool.toNat_lt b
  have field : (hiByte e.toWord).toNat = e.bound.toNat := by
    refine field_ofNat (by decide) ?_
    have := low e.hdrCorrected
    have := low e.hdrFailed
    have := low e.payloadCheck
    have := low e.length
    have := low e.unknownCmd
    have := low e.badParam
    have := low e.busy
    have := low e.notAttached
    have := low e.bound
    omega
  refine BitVec.eq_of_toNat_eq (field.trans ?_)
  cases e.bound <;> rfl

/-- The byte of the "no feed" flag and the speaking tag (R207). -/
theorem tagged_fields (h : OutHead) : let n := h.noFeed.toNat * 128 + (match h.tag with | some i => i.val | none => 127)
    n / 2 ^ 7 % 2 = h.noFeed.toNat ∧ n / 2 ^ 0 % 2 ^ 7 = (match h.tag with | some i => i.val | none => 127) := by
  have noFeed := Bool.toNat_lt h.noFeed
  cases h.tag with
  | none => dsimp only; omega
  | some i =>
    have slot := i.isLt
    dsimp only
    omega

/-- Settles O16: the bytes laid end to end, and each byte's fields from the number it is. -/
theorem framesAndAnswersAreLaidOut : Obligations.FramesAndAnswersAreLaidOut := by
  unfold Obligations.FramesAndAnswersAreLaidOut
  refine ⟨fun bytes k j b at_k hj => ?bits, length_flatMap_pieces byteBits_length, rfl,
    fun h audio => ?frame, fun code ws least most => ?data, fun code => rfl, fun code e => ?report,
    fun s => ⟨rfl, fun as r answering => ?answering, fun owned => ?quiet⟩⟩
  case bits =>
    rw [lineBits, getElem?_flatMap_pieces byteBits_length hj, at_k]
    exact byteBits_at b hj
  case frame =>
    have noFeed := Bool.toNat_lt h.noFeed
    have code0 := indicator_le h.codes[0]
    have code1 := indicator_le h.codes[1]
    have code2 := indicator_le h.codes[2]
    have code3 := indicator_le h.codes[3]
    refine ⟨_, _, _, rfl, bit_ofNat (by decide) (tagged_fields h).1, field_ofNat (by decide) (tagged_fields h).2,
      field_ofNat (by decide) ?_, field_ofNat (by decide) ?_, field_ofNat (by decide) ?_, field_ofNat (by decide) ?_, rfl,
      ?_, fun n => ⟨blockBytes_at audio n (r := 0) (by decide), blockBytes_at audio n (r := 1) (by decide),
        blockBytes_at audio n (r := 2) (by decide)⟩⟩
    · omega
    · omega
    · omega
    · omega
    · rw [OutHead.frame, List.length_append, blockBytes_length]
      rfl
  case data =>
    refine ⟨BitVec.ofNat 8 (ws.length - 1), ?_, wordBytes ws, wordBytes_length ws, ?_, fun k w there =>
      ⟨wordBytes_at there (r := 0) (by decide), wordBytes_at there (r := 1) (by decide)⟩⟩
    · rw [BitVec.toNat_ofNat]
      omega
    · rw [Answer.bytes, wordBytes_append, ← List.append_assoc]
      rfl
  case report =>
    have low := fun j (h : j < 8) => errorWord_low e h
    exact ⟨_, _, rfl, errorWord_high e, low 0 (by decide), low 1 (by decide), low 2 (by decide), low 3 (by decide),
      low 4 (by decide), low 5 (by decide), low 6 (by decide), low 7 (by decide)⟩
  case answering => rw [State.lineOut, answering]
  case quiet =>
    unfold State.lineOut
    split
    · exact absurd ‹_› (owned _ _)
    · rfl

/-! ### The records (R205) -/

theorem getD_map_lt {α : Type} {o : Option α} {g : α → Nat} {n : Nat} (h : ∀ x, o = some x → g x < n) (pos : 0 < n) :
    (o.map g).getD 0 < n := by
  cases o with
  | none => exact pos
  | some x => exact h x rfl

theorem lifecycle_lt (c : Lifecycle) : c.code < 3 := by cases c <;> decide

theorem srcClass_lt (c : SrcClass) : c.code < 4 := by cases c <;> decide

theorem floorState_lt (f : FloorState) : f.code < 6 := by cases f <;> simp [FloorState.code]

theorem originCode_lt (o : Origin) : originCode o < 80 := by
  cases o <;> simp only [originCode] <;> omega

theorem destCode_lt (d : Destination) : destCode d < 32 := by
  cases d <;> simp only [destCode] <;> omega

theorem exec_srcGet {i : SrcSlot} (ho : hostOwnsLine s) :
    exec (.srcGet (byteOf i)) s = .next (answered 0x05 (dataReply (sourceWords i s.srcs[i])) s) := by
  refine congrArg Host.Outcome.next (hostPacket_read (r := dataReply (sourceWords i s.srcs[i])) ho rfl ?_)
  rw [takeSrcGet, numberBelow_byteOf i (by decide), openPacket_srcs]
  rfl

theorem exec_feedGet {f : FeedSlot} (ho : hostOwnsLine s) :
    exec (.feedGet (byteOf f)) s = .next (answered 0x25 (dataReply (feedWords f s.feeds[f])) s) := by
  refine congrArg Host.Outcome.next (hostPacket_read (r := dataReply (feedWords f s.feeds[f])) ho rfl ?_)
  rw [takeFeedGet, numberBelow_byteOf f (by decide), openPacket_feeds]
  rfl

/-- Word 0 of a SRC.GET as a number. -/
def standingNumber (i : SrcSlot) (x : Source) : Nat :=
  i.val * 256 + x.state.code * 64 + x.origin.isSome.toNat * 32 + (x.cls.map (·.code)).getD 0 * 8 + x.userMute.toNat * 4
    + x.privacy.toNat * 2 + x.effMute.toNat

theorem standing_fields (i : SrcSlot) (x : Source) : let w := natWord (standingNumber i x)
    (w.extractLsb' 8 8).toNat = i.val ∧ (w.extractLsb' 6 2).toNat = x.state.code ∧ w.getLsbD 5 = x.origin.isSome ∧
    (w.extractLsb' 3 2).toNat = (x.cls.map (·.code)).getD 0 ∧ w.getLsbD 2 = x.userMute ∧ w.getLsbD 1 = x.privacy ∧
    w.getLsbD 0 = x.effMute := by
  have slot := i.isLt
  have state := lifecycle_lt x.state
  have origin := Bool.toNat_lt x.origin.isSome
  have cls : (x.cls.map (·.code)).getD 0 < 4 := getD_map_lt (fun c _ => srcClass_lt c) (by decide)
  have user := Bool.toNat_lt x.userMute
  have privacy := Bool.toNat_lt x.privacy
  have effective := Bool.toNat_lt x.effMute
  refine ⟨field_ofNat (by decide) ?_, field_ofNat (by decide) ?_, bit_ofNat (by decide) ?_, field_ofNat (by decide) ?_,
    bit_ofNat (by decide) ?_, bit_ofNat (by decide) ?_, bit_ofNat (by decide) ?_⟩ <;>
  · unfold standingNumber
    omega

/-- Word 5 of a SRC.GET as a number. -/
def monitorNumber (x : Source) : Nat :=
  x.creep * 256 + (x.voice == .voiced).toNat * 128 + x.alert.toNat * 64 + x.floorState.isSome.toNat * 32
    + (x.floorState.map (·.code)).getD 0 * 4 + (isHold x.floorState).toNat * 2 + x.gain.ramp.isSome.toNat

theorem monitor_fields {x : Source} (creep : x.creep ≤ 255) : let w := natWord (monitorNumber x)
    (w.extractLsb' 8 8).toNat = x.creep ∧ w.getLsbD 7 = decide (x.voice = .voiced) ∧ w.getLsbD 6 = x.alert ∧
    w.getLsbD 5 = x.floorState.isSome ∧ (w.extractLsb' 2 3).toNat = (x.floorState.map (·.code)).getD 0 ∧
    w.getLsbD 1 = isHold x.floorState ∧ w.getLsbD 0 = x.gain.ramp.isSome := by
  have voice : (x.voice == .voiced) = decide (x.voice = .voiced) := by cases x.voice <;> rfl
  rw [← voice]
  have voiced := Bool.toNat_lt (x.voice == .voiced)
  have alert := Bool.toNat_lt x.alert
  have onFloor := Bool.toNat_lt x.floorState.isSome
  have floor : (x.floorState.map (·.code)).getD 0 < 6 := getD_map_lt (fun f _ => floorState_lt f) (by decide)
  have held := Bool.toNat_lt (isHold x.floorState)
  have ramp := Bool.toNat_lt x.gain.ramp.isSome
  refine ⟨field_ofNat (by decide) ?_, bit_ofNat (by decide) ?_, bit_ofNat (by decide) ?_, bit_ofNat (by decide) ?_,
    field_ofNat (by decide) ?_, bit_ofNat (by decide) ?_, bit_ofNat (by decide) ?_⟩ <;>
  · unfold monitorNumber
    omega

/-- The fields of a word of two bytes. -/
theorem bytes_fields {hi lo : Nat} (high : hi < 256) (low : lo < 256) :
    ((bytesWord hi lo).extractLsb' 8 8).toNat = hi ∧ ((bytesWord hi lo).extractLsb' 0 8).toNat = lo :=
  ⟨field_ofNat (by decide) (by omega), field_ofNat (by decide) (by omega)⟩

/-- The steps of a ramp record, in the last word of a read. -/
theorem ramp_fields {g : GainUnit} (law : ∀ r, g.ramp = some r → r.duration ≤ 16 ∧ r.done ≤ 16) :
    let w := bytesWord ((g.ramp.map (·.duration)).getD 0) ((g.ramp.map (·.done)).getD 0)
    (w.extractLsb' 8 8).toNat = (g.ramp.map (·.duration)).getD 0 ∧
    (w.extractLsb' 0 8).toNat = (g.ramp.map (·.done)).getD 0 :=
  bytes_fields (getD_map_lt (fun r hr => (law r hr).1.trans_lt (by decide)) (by decide))
    (getD_map_lt (fun r hr => (law r hr).2.trans_lt (by decide)) (by decide))

/-- The words of a SRC.GET. -/
theorem sourceWords_eq (i : SrcSlot) (x : Source) : sourceWords i x = [natWord (standingNumber i x),
    wordOf (BitVec.ofNat 8 ((x.origin.map originCode).getD 0)) (BitVec.ofInt 8 x.trim), x.groups, BitVec.ofNat 16 x.s,
    BitVec.ofNat 16 x.n, natWord (monitorNumber x), BitVec.ofNat 16 x.twm,
    BitVec.ofNat 16 (match x.floorState with | some (.hold c) => c | _ => 0), BitVec.ofInt 16 x.gain.current,
    BitVec.ofInt 16 x.gain.target, BitVec.ofInt 16 (match x.gain.ramp with | some r => r.start | none => 0),
    bytesWord ((x.gain.ramp.map (·.duration)).getD 0) ((x.gain.ramp.map (·.done)).getD 0)] := by
  unfold sourceWords monitorNumber
  cases x.gain.ramp <;> (cases x.floorState with
    | none => rfl
    | some f => cases f <;> rfl)

/-- Word 0 of a FEED.GET as a number. -/
def feedNumber (f : FeedSlot) (x : Feed) : Nat :=
  f.val * 256 + x.state.code * 64 + x.dest.isSome.toNat * 32 + x.muted.toNat * 16 + x.gain.ramp.isSome.toNat

theorem feed_fields (f : FeedSlot) (x : Feed) : let w := natWord (feedNumber f x)
    (w.extractLsb' 8 8).toNat = f.val ∧ (w.extractLsb' 6 2).toNat = x.state.code ∧ w.getLsbD 5 = x.dest.isSome ∧
    w.getLsbD 4 = x.muted ∧ w.getLsbD 0 = x.gain.ramp.isSome := by
  have slot := f.isLt
  have state := lifecycle_lt x.state
  have dest := Bool.toNat_lt x.dest.isSome
  have muted := Bool.toNat_lt x.muted
  have ramp := Bool.toNat_lt x.gain.ramp.isSome
  refine ⟨field_ofNat (by decide) ?_, field_ofNat (by decide) ?_, bit_ofNat (by decide) ?_, bit_ofNat (by decide) ?_,
    bit_ofNat (by decide) ?_⟩ <;>
  · unfold feedNumber
    omega

/-- The words of a FEED.GET. -/
theorem feedWords_eq (f : FeedSlot) (x : Feed) : feedWords f x = [natWord (feedNumber f x),
    bytesWord ((x.dest.map destCode).getD 0) 0, BitVec.ofInt 16 x.master, x.excluded, BitVec.ofInt 16 x.gain.current,
    BitVec.ofInt 16 x.gain.target, BitVec.ofInt 16 (match x.gain.ramp with | some r => r.start | none => 0),
    bytesWord ((x.gain.ramp.map (·.duration)).getD 0) ((x.gain.ramp.map (·.done)).getD 0)] := by
  unfold feedWords feedNumber
  cases x.gain.ramp <;> rfl

/-- Settles O17: the words of the two reads, each field from the number its word is. -/
theorem srcGetAndFeedGetReportTheRecord : Obligations.SrcGetAndFeedGetReportTheRecord := by
  unfold Obligations.SrcGetAndFeedGetReportTheRecord
  refine ⟨rfl, rfl, fun c => rfl, fun l e => rfl, fun p => rfl, fun a => rfl, fun l => rfl, fun p => rfl, fun a => rfl,
    rfl, fun n => rfl, fun hi lo => congrArg natWord (by rw [Nat.mul_comm]), fun s ho => ⟨fun i creep ramp => ?src,
    fun slot out => ?noSrc, fun f ramp => ?feed, fun slot out => ?noFeed⟩⟩
  case src =>
    have read := exec_srcGet (i := i) ho
    rw [sourceWords_eq] at read
    generalize s.srcs[i] = x at creep ramp read ⊢
    obtain ⟨slot, state, held, cls, user, privacy, effective⟩ := standing_fields i x
    obtain ⟨count, voice, alert, onFloor, floor, holding, ramping⟩ := monitor_fields creep
    obtain ⟨duration, done⟩ := ramp_fields ramp
    have origin : (x.origin.map originCode).getD 0 < 80 := getD_map_lt (fun o _ => originCode_lt o) (by decide)
    have originByte : (hiByte (wordOf (BitVec.ofNat 8 ((x.origin.map originCode).getD 0)) (BitVec.ofInt 8 x.trim))).toNat
        = (x.origin.map originCode).getD 0 := by
      rw [hiByte_wordOf, BitVec.toNat_ofNat]
      omega
    refine ⟨_, _, _, _, read, slot, state, held, cls.trans ?_, user, privacy, effective, originByte.trans ?_,
      loByte_wordOf _ _, count, voice, alert, onFloor, floor.trans ?_, holding, ramping, duration.trans ?_, done.trans ?_⟩
    · cases x.cls <;> rfl
    · cases x.origin <;> rfl
    · cases x.floorState <;> rfl
    · cases x.gain.ramp <;> rfl
    · cases x.gain.ramp <;> rfl
  case noSrc =>
    refine congrArg Host.Outcome.next (hostPacket_refusedRead ho rfl ?_)
    rw [takeSrcGet, numberBelow_out out]
  case feed =>
    have read := exec_feedGet (f := f) ho
    rw [feedWords_eq] at read
    generalize s.feeds[f] = x at ramp read ⊢
    obtain ⟨slot, state, bound, muted, ramping⟩ := feed_fields f x
    obtain ⟨duration, done⟩ := ramp_fields ramp
    have dest : (x.dest.map destCode).getD 0 < 32 := getD_map_lt (fun d _ => destCode_lt d) (by decide)
    have destByte := (bytes_fields (hi := (x.dest.map destCode).getD 0) (lo := 0) (by omega) (by decide)).1
    refine ⟨_, _, _, read, slot, state, bound, muted, ramping, destByte.trans ?_, duration.trans ?_, done.trans ?_⟩
    · cases x.dest <;> rfl
    · cases x.gain.ramp <;> rfl
    · cases x.gain.ramp <;> rfl
  case noFeed =>
    refine congrArg Host.Outcome.next (hostPacket_refusedRead ho rfl ?_)
    rw [takeFeedGet, numberBelow_out out]

end Layouts

end Sys2Proof.Machine
end

section
/-! Proofs for O18 and O20: the reads that report what stands, and the attaching of a source. -/

namespace Sys2Proof.Machine.Reads

open Layouts

variable {s : State}

/-! ### The effective mutes (R52, R205) -/

/-- Bit j of a word into which one bit per slot of a list is set. -/
theorem foldl_twoPow (p : SrcSlot → Bool) (is : List SrcSlot) (acc : Word) (j : Nat) :
    (is.foldl (fun acc i => if p i then acc ||| BitVec.twoPow 16 (i.val % 16) else acc) acc).getLsbD j
      = (acc.getLsbD j || is.any fun i => p i && i.val % 16 == j) := by
  induction is generalizing acc with
  | nil => simp
  | cons i rest ih =>
    rw [List.foldl_cons, ih, List.any_cons]
    by_cases hp : p i = true
    · have bit : (BitVec.twoPow 16 (i.val % 16)).getLsbD j = (i.val % 16 == j) := by
        rw [BitVec.getLsbD_twoPow, decide_eq_true (Nat.mod_lt _ (by decide)), Bool.true_and]
        rfl
      rw [if_pos hp, BitVec.getLsbD_or, bit, hp, Bool.true_and, Bool.or_assoc]
    · rw [if_neg hp, Bool.eq_false_of_not_eq_true hp, Bool.false_and, Bool.false_or]

/-- The mute of slot i stands in bit i % 16 of word i / 16. -/
theorem muteWord_bit (i : SrcSlot) : (muteWord s (i.val / 16)).getLsbD (i.val % 16) = s.srcs[i].effMute := by
  rw [muteWord, foldl_twoPow (fun i => s.srcs[i].effMute), show (0 : Word).getLsbD (i.val % 16) = false from BitVec.getLsbD_zero,
    Bool.false_or, Bool.eq_iff_iff, List.any_eq_true]
  constructor
  · rintro ⟨j, member, holds⟩
    have word : j.val / 16 = i.val / 16 := by simpa using (List.mem_filter.mp member).2
    obtain ⟨muted, bit⟩ := Bool.and_eq_true_iff.mp holds
    have bit : j.val % 16 = i.val % 16 := by simpa using bit
    have same : j = i := Fin.ext (by omega)
    exact same ▸ muted
  · intro muted
    exact ⟨i, List.mem_filter.mpr ⟨List.mem_finRange i, by simp⟩, by rw [muted, beq_self_eq_true, Bool.and_self]⟩

/-! ### The floor (R81, R205) -/

theorem chair_bit (x : Source) : 128 * x.isChair.toNat = if x.cls = some .chair then 128 else 0 := by
  unfold Source.isChair
  cases x.cls with
  | none => rfl
  | some c => cases c <;> rfl

theorem floorWords_eq (s : State) : floorWords s = [s.floor.block.extractLsb' 16 16, s.floor.block.extractLsb' 0 16,
        bytesWord s.floor.list.length (s.floor.stamps.countP (·.live)),
        bytesWord s.floor.list.length (s.floor.chairs.length + s.floor.delegates.length),
        bytesWord s.floor.stamps.length 0]
      ++ s.floor.stamps.flatMap (fun t => [t.block.extractLsb' 16 16, t.block.extractLsb' 0 16])
      ++ s.floor.list.flatMap (fun i =>
          [bytesWord i.val ((if s.srcs[i].cls = some .chair then 128 else 0)
              + (match s.srcs[i].floorState with | some f => f.code | none => 0)),
            natWord (match s.srcs[i].floorState with | some (.hold c) => c | _ => 0)])
      ++ (s.floor.chairs ++ s.floor.delegates).map (fun i =>
          bytesWord i.val (if s.srcs[i].cls = some .chair then 128 else 0)) := by
  have chair := fun i : SrcSlot => chair_bit s.srcs[i]
  simp only [floorWords, State.floorState, FloorCtl.liveStamps, ← List.countP_eq_length_filter, chair] <;> rfl

/-! ### The links and ports (R166, R179) -/

theorem podWords_eq (p : Pod) : podWords p =
    [natWord (256 * (match p.framing with | .hunt => 0 | .presync => 1 | .sync => 2) + 16 * p.goodRun + p.badRun),
      natWord (256 * p.depth + 16 * p.elements + 2 * p.head.noFeed.toNat + p.privacy.toNat),
      natWord (4096 * p.head.codes[3].toNat + 256 * p.head.codes[2].toNat + 16 * p.head.codes[1].toNat
        + p.head.codes[0].toNat)] := by
  have code : p.framing.code = match p.framing with | .hunt => 0 | .presync => 1 | .sync => 2 := by
    cases p.framing <;> rfl
  simp only [podWords, code, Nat.mul_comm]

theorem portWords_eq (p : Port) : portWords p =
    [natWord (256 * (match p.state with | .down => 0 | .priming => 1 | .running => 2) + 16 * p.input.length
        + p.output.length), natWord (256 * p.primed.toNat + p.idle)] := by
  have code : p.state.code = match p.state with | .down => 0 | .priming => 1 | .running => 2 := by
    cases p.state <;> rfl
  simp only [portWords, code, Nat.mul_comm]

theorem bankOfCode_out {code : Byte} (h : 2 ≤ code.toNat) : bankOfCode code = none := by
  obtain ⟨n, past⟩ := Nat.exists_eq_add_of_le' h
  rw [bankOfCode, past]
  rfl

/-! ### The reads -/

/-- A read that reports what stands and changes nothing. -/
theorem hostPacket_reports {code : Byte} {take : State → Taken} {ws : List Word} (ho : hostOwnsLine s)
    (hc : readCode code = true) (ht : take (openPacket s) = .read ws (openPacket s)) :
    hostPacket code take s = answered code (dataReply ws) s := hostPacket_read (r := dataReply ws) ho hc ht

/-- Settles O18: each read is its words, which a packet start leaves standing. -/
theorem muteFloorBankParamPodAndPortReads : Obligations.MuteFloorBankParamPodAndPortReads := by
  unfold Obligations.MuteFloorBankParamPodAndPortReads
  intro s ho
  refine ⟨⟨natWord s.mute.room.toNat, muteWord s 0, muteWord s 1, muteWord s 2, muteWord s 3, muteWord s 4, ?mute, ?room,
    fun i => ?muted⟩, ?floor, ?bank, fun code p named => ?param, fun code out => ?noParam, fun l => ?pod,
    fun link out => ?noPod, fun p => ?port, fun port out => ?noPort⟩
  case mute =>
    refine congrArg Host.Outcome.next (hostPacket_reports ho rfl ?_)
    have words : muteWord (openPacket s) = muteWord s := by
      funext w
      simp only [muteWord, openPacket_srcs]
    rw [takeMuteGet, muteWords, words, openPacket_mute]
    rfl
  case room => cases s.mute.room <;> rfl
  case muted =>
    have word : [muteWord s 0, muteWord s 1, muteWord s 2, muteWord s 3, muteWord s 4].getD (i.val / 16) 0
        = muteWord s (i.val / 16) := by
      have slot := i.isLt
      obtain h | h | h | h | h : i.val / 16 = 0 ∨ i.val / 16 = 1 ∨ i.val / 16 = 2 ∨ i.val / 16 = 3 ∨ i.val / 16 = 4 := by
        omega
      all_goals rw [h]; rfl
    rw [word, muteWord_bit]
  case floor =>
    refine congrArg Host.Outcome.next (hostPacket_reports ho rfl ?_)
    rw [takeFloorGet, floorWords_eq, openPacket_floor, openPacket_srcs] <;> rfl
  case bank =>
    refine congrArg Host.Outcome.next (hostPacket_reports ho rfl ?_)
    rw [takeBankGet, openPacket_banks]
    cases s.banks.operating <;> cases s.banks.swap <;> rfl
  case param =>
    refine congrArg Host.Outcome.next (hostPacket_reports ho rfl ?_)
    obtain ⟨rfl, rfl⟩ | ⟨rfl, rfl⟩ := named
    · rw [← openPacket_banks s]
      rfl
    · rw [← openPacket_banks s]
      rfl
  case noParam =>
    refine congrArg Host.Outcome.next (hostPacket_refusedRead ho rfl ?_)
    rw [takeParamGet, bankOfCode_out out]
  case pod =>
    refine congrArg Host.Outcome.next (hostPacket_reports ho rfl ?_)
    rw [takePodGet, numberBelow_byteOf l (by decide), openPacket_pods]
    exact congrArg (Taken.read · (openPacket s)) (podWords_eq s.pods[l])
  case noPod =>
    refine congrArg Host.Outcome.next (hostPacket_refusedRead ho rfl ?_)
    rw [takePodGet, numberBelow_out out]
  case port => 
    refine congrArg Host.Outcome.next (hostPacket_reports ho rfl ?_)
    rw [takePortGet, numberBelow_byteOf p (by decide), openPacket_ports]
    exact congrArg (Taken.read · (openPacket s)) (portWords_eq s.ports[p])
  case noPort =>
    refine congrArg Host.Outcome.next (hostPacket_refusedRead ho rfl ?_)
    rw [takePortGet, numberBelow_out out]

end Sys2Proof.Machine.Reads
end

section
/-! Proofs for O20: the checks of SRC.ATTACH in their order, and the record an accepted one fills. -/

namespace Sys2Proof.Machine

variable {s : State} {i : SrcSlot} {o : Origin} {x : Source}

/-- The effective mute from its layers (R38). -/
theorem deriveMute_iff (m : MuteUnit) (x : Source) : deriveMute m x = true ↔ x.userMute = true ∨ x.privacy = true ∨
    (∃ g, x.groups.getLsbD g = true ∧ m.groups.getLsbD g = true) ∨ m.room = true ∧ x.cls = some .delegate := by
  have common : (x.groups &&& m.groups) != 0 ↔ ∃ g, x.groups.getLsbD g = true ∧ m.groups.getLsbD g = true := by
    rw [bne_iff_ne]
    constructor
    · intro some_bit
      by_contra none_common
      refine some_bit (BitVec.eq_of_getLsbD_eq fun g _ => ?_)
      have apart : ¬ (x.groups.getLsbD g = true ∧ m.groups.getLsbD g = true) := fun both => none_common ⟨g, both⟩
      rw [BitVec.getLsbD_and, show (0 : Groups).getLsbD g = false from BitVec.getLsbD_zero, ← Bool.not_eq_true,
        Bool.and_eq_true]
      exact apart
    · rintro ⟨g, hx, hm⟩ zero
      have bit : (x.groups &&& m.groups).getLsbD g = true := by rw [BitVec.getLsbD_and, hx, hm, Bool.and_self]
      rw [zero] at bit
      exact absurd bit (by rw [show (0 : Groups).getLsbD g = false from BitVec.getLsbD_zero]; exact Bool.false_ne_true)
  simp only [deriveMute, Bool.or_eq_true, common, Bool.and_eq_true, Source.isDelegate, beq_iff_eq, or_assoc]

namespace Attach

variable {slot : Byte} {chair : Bool} {origin : BitVec 7} {trim : Word} {groups : Groups} {c : SrcClass} {muted : Bool}

/-! ### The operands (R5, R204) -/

theorem originOfCode_out (h : 80 ≤ origin.toNat) : originOfCode origin = none := by
  rw [originOfCode, if_neg (by omega), if_neg (by omega), if_neg (by omega)]

/-- Seven bits that hold an origin's code name that origin. -/
theorem originOfCode_code (h : origin.toNat = originCode o) : originOfCode origin = some o := by
  cases o with
  | pod l e =>
    have below : 4 * l.val + e.val < 64 := by omega
    have link : (4 * l.val + e.val) / 4 % 16 = l.val := by omega
    have element : (4 * l.val + e.val) % 4 = e.val := by omega
    simp [originOfCode, h, originCode, below, link, element]
  | far p =>
    have past : 64 ≤ 64 + p.val := by omega
    have below : 64 + p.val < 72 := by omega
    have index : (64 + p.val) % 8 = p.val := by omega
    simp [originOfCode, h, originCode, below, index]
  | aux a =>
    have past : ¬ 72 + a.val < 64 := by omega
    have past' : ¬ 72 + a.val < 72 := by omega
    have below : 72 + a.val < 80 := by omega
    have index : (72 + a.val) % 8 = a.val := by omega
    simp [originOfCode, h, originCode, past, below, index]

theorem originOfCode_below (h : origin.toNat < 80) : ∃ o, originOfCode origin = some o ∧ originCode o = origin.toNat := by
  unfold originOfCode
  split
  next => exact ⟨_, rfl, by simp only [originCode]; omega⟩
  next =>
    split
    next => exact ⟨_, rfl, by simp only [originCode]; omega⟩
    next =>
      exact ⟨_, rfl, by simp only [originCode]; omega⟩

theorem originCode_inj {p : Origin} (h : originCode o = originCode p) : o = p := by
  have code : (BitVec.ofNat 7 (originCode o)).toNat = originCode o := by
    rw [BitVec.toNat_ofNat]
    exact Nat.mod_eq_of_lt ((Layouts.originCode_lt o).trans (by decide))
  exact Option.some.inj ((originOfCode_code code).symm.trans (originOfCode_code (code.trans h)))

/-- A CHAIR has a pod origin (R5). -/
theorem classOf_refused (past : 64 ≤ originCode o) : classOf o true = none := by
  cases o with
  | pod l e => simp only [originCode] at past; omega
  | far p => rfl
  | aux a => rfl

/-- The class an origin and a chair flag give where R5 does not refuse. -/
def attachClass (o : Origin) (chair : Bool) : SrcClass :=
  match o with
  | .pod _ _ => if chair then .chair else .delegate
  | .far _ => .remote
  | .aux _ => .program

theorem classOf_named (pod : chair = true → ∃ l e, o = .pod l e) : classOf o chair = some (attachClass o chair) := by
  cases chair with
  | true =>
    obtain ⟨l, e, rfl⟩ := pod rfl
    rfl
  | false => cases o <;> rfl

theorem srcInUse_iff : x.inUse = true ↔ x.state ≠ .free := bne_iff_ne

/-- The binding check looks for a record in use, in any slot, that holds the origin (R6). -/
theorem originHeld_iff : originHeld s o = true ↔ ∃ j : SrcSlot, s.srcs[j].state ≠ .free ∧ s.srcs[j].origin = some o := by
  simp only [originHeld, srcSlots, List.any_eq_true, List.mem_finRange, true_and, Bool.and_eq_true, srcInUse_iff,
    beq_iff_eq]

/-! ### The checks in their order (R6) -/

theorem takeSrcAttach_out (h : 80 ≤ slot.toNat ∨ 80 ≤ origin.toNat) :
    takeSrcAttach slot chair origin trim groups s = .refused .badParam := by
  obtain slotOut | originOut := h
  · rw [takeSrcAttach, numberBelow_out slotOut]
  · rw [takeSrcAttach, originOfCode_out originOut]
    cases numberBelow 80 slot <;> rfl

theorem takeSrcAttach_classless (named : originOfCode origin = some o) (classless : classOf o chair = none) :
    takeSrcAttach slot chair origin trim groups s = .refused .badParam := by
  rw [takeSrcAttach, named]
  cases numberBelow 80 slot with
  | none => rfl
  | some i =>
    dsimp only
    rw [classless]

/-- The record of an accepted SRC.ATTACH. -/
def record (s : State) (o : Origin) (c : SrcClass) (trim : Word) (groups : Groups) : Source :=
  let x := attachedSource s o c trim.toInt groups
  retarget s { x with effMute := deriveMute s.mute x }

/-- With a slot, an origin and a class that exist, the slot check stands before the binding check. -/
theorem takeSrcAttach_named (named : originOfCode origin = some o) (classed : classOf o chair = some c) :
    takeSrcAttach (byteOf i) chair origin trim groups s =
      if s.srcs[i].inUse then .refused .busy
      else if originHeld s o then .refused .bound
      else .write (s.setSrc i (record s o c trim groups)) := by
  unfold takeSrcAttach
  rw [named, numberBelow_byteOf i (by decide)]
  dsimp only
  rw [classed]
  rfl

/-! ### The command on the control link -/

theorem exec_srcAttach_refused {k : ErrKind} (ho : hostOwnsLine s)
    (h : takeSrcAttach slot chair origin trim groups (openPacket s) = .refused k) :
    exec (.srcAttach slot chair origin trim groups) s = .next (refusedWith k s) :=
  congrArg Host.Outcome.next (hostPacket_refused ho rfl h)

theorem exec_srcAttach_accepted (ho : hostOwnsLine s) (named : originOfCode origin = some o)
    (classed : classOf o chair = some c) (free : s.srcs[i].state = .free)
    (unheld : ∀ j : SrcSlot, s.srcs[j].state ≠ .free → s.srcs[j].origin ≠ some o) :
    exec (.srcAttach (byteOf i) chair origin trim groups) s
      = .next { written s with srcs := s.srcs.set i (record s o c trim groups) } := by
  have notHeld : ¬ originHeld (openPacket s) o = true := fun held =>
    have ⟨j, used, holds⟩ := originHeld_iff.mp held
    unheld j (by rwa [openPacket_srcs] at used) (by rwa [openPacket_srcs] at holds)
  have notUsed : ¬ (openPacket s).srcs[i].inUse = true := by
    rw [openPacket_srcs]
    exact fun used => srcInUse_iff.mp used free
  have same : record (openPacket s) o c trim groups = record s o c trim groups := by
    have params : (openPacket s).params = s.params := congrArg (fun b => (BankStore.opBank b).params) (openPacket_banks s)
    have privacy : originPrivacy (openPacket s) o = originPrivacy s o := by
      cases o <;> simp only [originPrivacy, openPacket_pods]
    simp only [record, attachedSource, retarget, params, privacy, openPacket_floor, openPacket_mute]
  refine congrArg Host.Outcome.next (OneRecord.hostPacket_setSrc ho rfl ?_)
  rw [takeSrcAttach_named named classed, if_neg notUsed, if_neg notHeld, same]

/-! ### The record (R7) -/

theorem clampTrim_eq (v : Int) : clampTrim v = max (-120) (min 24 v) := rfl

/-- The target of a new record: a floor class is CLOSED, under its attenuations; another has its trim (R75, R102). -/
theorem record_target : composeTarget s.params s.floor.list.length
      { attachedSource s o (attachClass o chair) trim.toInt groups with effMute := muted }
    = if muted then -192 else match o with
      | .pod _ _ => max (-192) (min 24 (clampTrim trim.toInt - s.params.closedAtten
          - (if s.params.nomOn then nom s.floor.list.length else 0)))
      | _ => clampTrim trim.toInt := by
  have unclamped : max (-192) (min 24 (clampTrim trim.toInt - 0 - 0)) = clampTrim trim.toInt := by
    rw [clampTrim_eq]
    omega
  rw [composeTarget_eq]
  refine if_congr (or_iff_left (not_not.mpr rfl)) rfl ?_
  cases o with
  | pod l e =>
    have floor : (attachedSource s (.pod l e) (attachClass (.pod l e) chair) trim.toInt groups).floorState = some .closed := by
      cases chair <;> rfl
    have cls : some (attachClass (.pod l e) chair) = some .chair ∨ some (attachClass (.pod l e) chair) = some .delegate := by
      cases chair
      exacts [.inr rfl, .inl rfl]
    rw [if_pos (.inl floor)]
    exact congrArg (fun v => max (-192) (min 24 (clampTrim trim.toInt - _ - v))) (if_congr (and_iff_right cls) rfl rfl)
  | far p => exact unclamped
  | aux a => exact unclamped

/-- A new unit handed its target: a fade-in from OFF, without a ramp where the target is OFF (R7, R105). -/
theorem record_gain (b : Int) : (GainUnit.free.hand b).current = -192 ∧ (GainUnit.free.hand b).target = b ∧
    ((GainUnit.free.hand b).target = -192 → (GainUnit.free.hand b).ramp = none) ∧
    ((GainUnit.free.hand b).target ≠ -192 → (GainUnit.free.hand b).ramp
      = some ⟨-192, rampDuration ((GainUnit.free.hand b).target + 192).natAbs, 0⟩) := by
  rw [FeedAttach.hand_free]
  exact ⟨rfl, rfl, fun h => if_pos h, fun h => if_neg h⟩

/-- Settles O20: the checks of `takeSrcAttach_named` in their order, and the fields of the record. -/
theorem srcAttachIsCheckedAndFillsTheRecord : Obligations.SrcAttachIsCheckedAndFillsTheRecord := by
  unfold Obligations.SrcAttachIsCheckedAndFillsTheRecord
  refine ⟨fun s slot chair origin trim groups ho => ⟨fun out => exec_srcAttach_refused ho (takeSrcAttach_out out),
    fun _ below isChair past => ?classless, ?checks⟩, fun s i o chair trim groups ho free unheld pod => ?record⟩
  case classless =>
    obtain ⟨o, named, code⟩ := originOfCode_below below
    subst isChair
    exact exec_srcAttach_refused ho (takeSrcAttach_classless named (classOf_refused (code ▸ past)))
  case checks =>
    rintro i rfl below pod
    obtain ⟨o, named, code⟩ := originOfCode_below below
    have classed := classOf_named (o := o) (chair := chair) fun isChair => by
      have low := pod isChair
      rw [← code] at low
      cases o with
      | pod l e => exact ⟨l, e, rfl⟩
      | far p => simp only [originCode] at low; omega
      | aux a => simp only [originCode] at low; omega
    refine ⟨fun used => exec_srcAttach_refused ho ?busy, fun free => ⟨fun ⟨j, p, used, holds, same⟩ =>
      exec_srcAttach_refused ho ?bound, fun unheld => ⟨_, exec_srcAttach_accepted ho named classed free fun j used holds =>
        unheld j o used holds code, ?active⟩⟩⟩
    case busy =>
      rw [takeSrcAttach_named named classed, openPacket_srcs, if_pos (srcInUse_iff.mpr used)]
    case bound =>
      have holds : (openPacket s).srcs[j].origin = some o := by
        rw [openPacket_srcs, holds, originCode_inj (same.trans code.symm)]
      have used : (openPacket s).srcs[j].state ≠ .free := by rwa [openPacket_srcs]
      have notUsed : ¬ (openPacket s).srcs[i].inUse = true := by
        rw [openPacket_srcs]
        exact fun used => srcInUse_iff.mp used free
      rw [takeSrcAttach_named named classed, if_neg notUsed, if_pos (originHeld_iff.mpr ⟨j, used, holds⟩)]
    case active =>
      have there : (s.srcs.set i (record s o (attachClass o chair) trim groups))[i] = _ := Vector.getElem_set_self i.isLt
      exact congrArg Source.state there
  case record =>
    have code : (BitVec.ofNat 7 (originCode o)).toNat = originCode o := by
      rw [BitVec.toNat_ofNat]
      exact Nat.mod_eq_of_lt ((Layouts.originCode_lt o).trans (by decide))
    have classed := classOf_named pod
    obtain ⟨current, target, silent, fades⟩ := record_gain (composeTarget s.params s.floor.list.length
      { attachedSource s o (attachClass o chair) trim.toInt groups with
        effMute := deriveMute s.mute (attachedSource s o (attachClass o chair) trim.toInt groups) })
    refine ⟨record s o (attachClass o chair) trim groups, exec_srcAttach_accepted ho (originOfCode_code code) classed free
      unheld, rfl, rfl, ?cls, rfl, rfl, rfl, ?privacy, ?mute, rfl, rfl, rfl, rfl, rfl, rfl, rfl, rfl, ?floor, current,
      target.trans ?target, silent, fades⟩
    case cls => cases o <;> rfl
    case privacy => cases o <;> rfl
    case mute =>
      refine (deriveMute_iff s.mute _).trans (or_iff_right ?_)
      exact Bool.false_ne_true
    case floor =>
      cases o with
      | pod l e => cases chair <;> rfl
      | far p => rfl
      | aux a => rfl
    case target =>
      refine record_target.trans ?_
      cases o <;> rfl

end Attach

end Sys2Proof.Machine
end

section
/-! Proofs for O31: words laid along the walk of a window, the last word on a pair staying. -/

namespace Sys2Proof.Machine.Walk

variable {s : State} {walk : List (FeedSlot × SrcSlot)} {m : Matrix Int} {start k : Nat} {f : FeedSlot} {i : SrcSlot}
  {w : Window} {words : List Word}

/-! ### The walk names a pair once (R138) -/

theorem slotList_nodup {n : Nat} (a b : Fin n) (rev : Bool) : (slotList a b rev).Nodup := by
  have ascending : (slotList a b false).Nodup := (List.nodup_finRange n).filter _
  cases rev with
  | false => exact ascending
  | true => exact List.nodup_reverse.mpr ascending

theorem walk_nodup (w : Window) : w.walk.Nodup := by
  have feeds : w.feedList.Nodup := slotList_nodup _ _ _
  have srcs : w.srcList.Nodup := slotList_nodup _ _ _
  cases h : w.order with
  | feedMajor =>
    rw [walk_feedMajor h]
    exact feeds.product srcs
  | sourceMajor =>
    have swapped : w.walk = (w.srcList.product w.feedList).map Prod.swap := by
      rw [walk_sourceMajor h, List.product, List.map_flatMap]
      simp only [List.map_map]
      rfl
    rw [swapped]
    exact (srcs.product feeds).map Prod.swap_injective

/-! ### Words laid from a position (R139, R141, R142) -/

/-- The position after one step, and the positions that follow it. -/
theorem next_position (n start k : Nat) : ((start + 1) % n + k) % n = (start + (k + 1)) % n := by
  rw [Nat.mod_add_mod, Nat.add_assoc, Nat.add_comm 1 k]

theorem laid_cursor (h : start < walk.length) (words : List Word) :
    (words.foldl (writeStep walk) (m, start)).2 = (start + words.length) % walk.length := by
  induction words generalizing m start with
  | nil => exact (Nat.mod_eq_of_lt h).symm
  | cons v rest ih =>
    rw [List.foldl_cons, List.length_cons, ← next_position]
    exact ih (Nat.mod_lt _ (by omega))

/-- A pair on which no word falls keeps its value. -/
theorem laid_untouched (h : start < walk.length)
    (free : ∀ k, k < words.length → walk[(start + k) % walk.length]? ≠ some (f, i)) :
    (words.foldl (writeStep walk) (m, start)).1[f][i] = m[f][i] := by
  induction words generalizing m start with
  | nil => rfl
  | cons v rest ih =>
    have here : walk[start]? ≠ some (f, i) := by
      have := free 0 (Nat.succ_pos _)
      rwa [Nat.add_zero, Nat.mod_eq_of_lt h] at this
    rw [List.foldl_cons]
    refine (ih (Nat.mod_lt _ (by omega)) fun k hk => ?_).trans ?_
    · rw [next_position]
      exact free (k + 1) (Nat.succ_lt_succ hk)
    · dsimp only
      split
      next g j at_start =>
        rw [matrix_put_at]
        exact if_neg fun same => here (at_start.trans (congrArg some (Prod.ext same.1 same.2).symm))
      next => rfl

/-- The last word that falls on a pair stays. -/
theorem laid_last {v : Word} (nodup : walk.Nodup) (h : start < walk.length) (there : words[k]? = some v)
    (pair : walk[(start + k) % walk.length]? = some (f, i))
    (last : ∀ k', k < k' → k' < words.length → (start + k') % walk.length ≠ (start + k) % walk.length) :
    (words.foldl (writeStep walk) (m, start)).1[f][i] = storedCrosspoint v := by
  induction words generalizing m start k with
  | nil => cases there
  | cons u rest ih =>
    have next : (start + 1) % walk.length < walk.length := Nat.mod_lt _ (by omega)
    rw [List.foldl_cons]
    cases k with
    | zero =>
      obtain rfl := Option.some.inj there
      rw [Nat.add_zero, Nat.mod_eq_of_lt h] at pair
      refine (laid_untouched next fun k hk again => ?_).trans ?_
      · rw [next_position] at again
        have apart := last (k + 1) (Nat.succ_pos k) (Nat.succ_lt_succ hk)
        rw [Nat.add_zero start, Nat.mod_eq_of_lt h] at apart
        have range : (start + (k + 1)) % walk.length < walk.length := Nat.mod_lt _ (by omega)
        exact apart ((List.getElem?_inj range nodup).mp (again.trans pair.symm))
      · dsimp only
        rw [pair]
        exact (matrix_put_at m f f i i _).trans (if_pos ⟨rfl, rfl⟩)
    | succ k =>
      refine ih next there (by rw [next_position]; exact pair) fun k' after below => ?_
      rw [next_position, next_position]
      exact last (k' + 1) (Nat.succ_lt_succ after) (Nat.succ_lt_succ below)

/-! ### The commands (R141, R142) -/

/-- The Bank Store with words laid along its window. -/
def laid (start : Nat) (words : List Word) (b : BankStore) : BankStore :=
  let a := words.foldl (writeStep b.window.walk) (b.editBank.xp, start)
  { b.setEdit { b.editBank with xp := a.1 } with cursor := a.2 }

theorem laid_rest (start : Nat) (words : List Word) (b : BankStore) : laid start words b = { b with
    a := (laid start words b).a, b := (laid start words b).b, cursor := (laid start words b).cursor } := by
  unfold laid BankStore.setEdit
  cases b.operating <;> rfl

theorem takeXpWrite_settled (settled : s.banks.swap = .settled) (lo : 1 ≤ words.length) (hi : words.length ≤ 256)
    (start : Nat) : takeXpWrite start words s = .write { s with banks := laid start words s.banks } := by
  rw [takeXpWrite, if_neg (by omega), if_neg (not_not.mpr settled)]
  rfl

theorem exec_xpWrite {c : Instr} (ho : hostOwnsLine s) (settled : s.banks.swap = .settled) (lo : 1 ≤ words.length)
    (hi : words.length ≤ 256)
    (row : c = .xpPut words ∧ start = 0 ∨ c = .xpPutNext words ∧ start = s.banks.cursor) :
    exec c s = .next { written s with banks := laid start words s.banks } := by
  have opened : (openPacket s).banks.swap = .settled := by rw [openPacket_banks]; exact settled
  obtain ⟨rfl, rfl⟩ | ⟨rfl, rfl⟩ := row
  · refine congrArg Host.Outcome.next (hostPacket_banks ho rfl ((takeXpWrite_settled opened lo hi 0).trans ?_))
    rw [openPacket_banks]
  · refine congrArg Host.Outcome.next (hostPacket_banks ho rfl ((takeXpWrite_settled opened lo hi _).trans ?_))
    rw [openPacket_banks]

/-- Settles O31: the fold of `writeStep` along a walk that names each pair once. -/
theorem xpPutWritesAlongTheWalk : Obligations.XpPutWritesAlongTheWalk := by
  unfold Obligations.XpPutWritesAlongTheWalk
  intro s c start words ho settled hf hs cursor lo hi row
  have onWalk : start < s.banks.window.walk.length := by
    obtain ⟨-, rfl⟩ | ⟨-, rfl⟩ := row
    · exact walk_length_pos hf hs
    · exact cursor
  refine ⟨(words.foldl (writeStep s.banks.window.walk) (s.banks.editBank.xp, start)).1, laid start words s.banks,
    exec_xpWrite ho settled lo hi row, setEdit_bank_edit _ _, setEdit_bank_operating _ _, ?rest, fun k v f i there pair last => laid_last (walk_nodup _) onWalk there pair last,
    fun f i free => laid_untouched onWalk free⟩
  case rest =>
    have kept := laid_rest start words s.banks
    rwa [show (laid start words s.banks).cursor = _ from laid_cursor onWalk words] at kept

end Sys2Proof.Machine.Walk
end

section
/-! Proofs for O44: what the end of a mix block removes. -/

namespace Sys2Proof.Machine.BlockEnds

variable {s : State} {g : GainUnit}

/-! ### Finished ramps (R107, R111) -/

theorem finish_eq {h : GainUnit} (cases : (∃ r, g.ramp = some r ∧ r.duration ≤ r.done) ∧ h = { g with ramp := none } ∨
    (∀ r, g.ramp = some r → r.done < r.duration) ∧ h = g) : g.finish = h := by
  unfold GainUnit.finish
  obtain ⟨⟨r, ramp, used⟩, rfl⟩ | ⟨left, rfl⟩ := cases
  · rw [ramp]
    exact if_pos used
  · split
    next r ramp => exact if_neg (Nat.not_le.mpr (left r ramp))
    next => rfl

theorem xpFinish_done {o : Option XpRamp} {r : XpRamp} (ramp : o = some r) (used : r.duration ≤ r.done) :
    XpRamp.finish o = none := by
  subst ramp
  exact if_pos used

theorem xpFinish_left {o : Option XpRamp} (left : ∀ r, o = some r → r.done < r.duration) : XpRamp.finish o = o := by
  cases o with
  | none => rfl
  | some r => exact if_neg (Nat.not_le.mpr (left r rfl))

theorem xpFinish_isNone {o : Option XpRamp} :
    (XpRamp.finish o).isNone = true ↔ ∀ r, o = some r → r.duration ≤ r.done := by
  cases o with
  | none => exact ⟨fun _ => nofun, fun _ => rfl⟩
  | some r =>
    rw [XpRamp.finish]
    split
    next used => exact ⟨fun _ _ same => Option.some.inj same ▸ used, fun _ => rfl⟩
    next left => exact ⟨nofun, fun all => absurd (all r rfl) left⟩

/-- A fade has used OFF when its gain is OFF and no step is left (R11, R91). -/
theorem fadedOut_iff : g.fadedOut = true ↔ g.current = -192 ∧ ∀ r, g.ramp = some r → r.duration ≤ r.done := by
  rw [GainUnit.fadedOut, Bool.and_eq_true, beq_iff_eq]
  refine and_congr Iff.rfl ?_
  cases g.ramp with
  | none => exact ⟨fun _ => nofun, fun _ => rfl⟩
  | some r => exact decide_eq_true_iff.trans ⟨fun used _ same => Option.some.inj same ▸ used, fun all => all r rfl⟩

/-- A retirement is complete in RETIRING once its fade has used OFF; a cause against it is one of the three. -/
theorem not_complete {state : Lifecycle} (cause : state ≠ .retiring ∨ g.current ≠ -192 ∨
    ∃ r, g.ramp = some r ∧ r.done < r.duration) : ¬ (state == .retiring && g.fadedOut) = true := by
  rw [Bool.and_eq_true, beq_iff_eq, fadedOut_iff]
  rintro ⟨retiring, silent, used⟩
  obtain other | sounding | ⟨r, ramp, left⟩ := cause
  · exact other retiring
  · exact sounding silent
  · exact absurd (used r ramp) (Nat.not_le.mpr left)

theorem complete {state : Lifecycle} (retiring : state = .retiring) (silent : g.current = -192)
    (used : ∀ r, g.ramp = some r → r.duration ≤ r.done) : (state == .retiring && g.fadedOut) = true := by
  rw [Bool.and_eq_true, beq_iff_eq, fadedOut_iff]
  exact ⟨retiring, silent, used⟩

/-! ### The end of the crosspoint ramps (R111, R132) -/

/-- The crosspoint ramps with the finished ones removed. -/
def endedRamps (s : State) : Matrix (Option XpRamp) := Matrix.ofFn fun f i => XpRamp.finish s.xpRamps[f][i]

/-- No crosspoint ramp has a step left. -/
def RampsUsed (s : State) : Prop := ∀ (f : FeedSlot) (i : SrcSlot) (r : XpRamp), s.xpRamps[f][i] = some r → r.duration ≤ r.done

/-- Every pair is without a ramp. -/
def noRamp (m : Matrix (Option XpRamp)) : Bool := feedSlots.all fun f => srcSlots.all fun i => m[f][i].isNone

theorem noRamp_iff : noRamp (endedRamps s) = true ↔ RampsUsed s := by
  simp only [noRamp, List.all_eq_true, feedSlots, srcSlots, List.mem_finRange, true_imp_iff, endedRamps, matrix_ofFn_at,
    xpFinish_isNone, RampsUsed]

/-- The settled end: the ramps removed, the swap SETTLED and SWAP_DONE set. -/
def swapSettled (s : State) (m : Matrix (Option XpRamp)) : State :=
  { s with xpRamps := m, banks := { s.banks with swap := .settled } }.addNotice .swapDone

theorem crosspointRampsEnd_eq (s : State) : crosspointRampsEnd s =
    if noRamp (endedRamps s) then swapSettled s (endedRamps s) else { s with xpRamps := endedRamps s } := by
  unfold crosspointRampsEnd endedRamps
  generalize Matrix.ofFn _ = m
  rfl

theorem crosspointRampsEnd_ramps (s : State) : (crosspointRampsEnd s).xpRamps = endedRamps s := by
  rw [crosspointRampsEnd_eq]
  generalize endedRamps s = m
  split <;> rfl

theorem crosspointRampsEnd_rest (s : State) :
    { crosspointRampsEnd s with xpRamps := s.xpRamps, banks := s.banks, notice := s.notice } = s := by
  rw [crosspointRampsEnd_eq]
  generalize endedRamps s = m
  split <;> rfl

/-- Settles O44: each event tests its record, and removes no other. -/
theorem blockEndsRemoveWhatIsFinished : Obligations.BlockEndsRemoveWhatIsFinished := by
  unfold Obligations.BlockEndsRemoveWhatIsFinished
  intro s
  refine ⟨fun i g finished => ?src, fun f g finished => ?feed, fun f i => ⟨_, rfl, fun g j other => ?apart,
      fun r ramp used => ?removed, fun left => ?kept⟩,
    fun i => ⟨fun retiring silent used => ?srcFree, fun cause => congrArg Host.Outcome.next (if_neg (not_complete cause))⟩,
    fun f => ⟨fun retiring silent used => ?feedFree, fun cause => congrArg Host.Outcome.next (if_neg (not_complete cause))⟩,
    fun other => congrArg Host.Outcome.next (if_neg other),
    fun ramping => ⟨_, congrArg Host.Outcome.next (if_pos ramping), fun f i => ?ramps, ?settles, ?goesOn,
      crosspointRampsEnd_rest s⟩⟩
  case src =>
    refine congrArg Host.Outcome.next (congrArg (fun v => s.setSrc i { s.srcs[i] with gain := v }) ?_)
    exact finish_eq finished
  case feed =>
    refine congrArg Host.Outcome.next (congrArg (fun v => s.setFeed f { s.feeds[f] with gain := v }) ?_)
    exact finish_eq finished
  case apart =>
    rw [matrix_put_at]
    exact if_neg fun same => other (Prod.ext same.1 same.2)
  case removed => rw [matrix_put_at, if_pos ⟨rfl, rfl⟩, xpFinish_done ramp used]
  case kept => rw [matrix_put_at, if_pos ⟨rfl, rfl⟩, xpFinish_left left]
  case srcFree => exact congrArg Host.Outcome.next (if_pos (complete retiring silent used))
  case feedFree => exact congrArg Host.Outcome.next (if_pos (complete retiring silent used))
  case ramps =>
    have there : (crosspointRampsEnd s).xpRamps[f][i] = XpRamp.finish s.xpRamps[f][i] := by
      rw [crosspointRampsEnd_ramps, endedRamps, matrix_ofFn_at]
    rw [there]
    exact ⟨fun r ramp used => xpFinish_done ramp used, xpFinish_left⟩
  case settles =>
    intro used
    rw [crosspointRampsEnd_eq, if_pos (noRamp_iff.mpr used)]
    generalize endedRamps s = m
    exact ⟨rfl, rfl, rfl, addNotice_attention _ _⟩
  case goesOn =>
    rintro ⟨f, i, r, ramp, left⟩
    rw [crosspointRampsEnd_eq, if_neg fun none_left => absurd (noRamp_iff.mp none_left f i r ramp) (Nat.not_le.mpr left)]
    generalize endedRamps s = m
    exact ⟨rfl, rfl⟩

end Sys2Proof.Machine.BlockEnds
end

section
/-! Proofs for O45 and O47: what FEEDS_FORMED gives every destination, and what a listener does not hear. -/

namespace Sys2Proof.Machine

variable {s : State}

/-! ### Notices after a condition (R192, R193) -/

theorem addNoticeIf_has (c : Bool) (k j : NoticeKind) (s : State) :
    (s.addNoticeIf c k).notice.set.has j = (s.notice.set.has j || c && j == k) := by
  cases c with
  | false => exact (Bool.or_false _).symm
  | true => exact NoticeSet.add_has s.notice.set k j

theorem addNoticeIf_mask (c : Bool) (k : NoticeKind) (s : State) : (s.addNoticeIf c k).notice.mask = s.notice.mask := by
  cases c <;> rfl

/-- Ports moved leave the port that its own function gives. -/
theorem movePorts_port (f : FarPort → Port → Port × Bool) (s : State) (p : FarPort) :
    (movePorts f s).ports[p] = (f p s.ports[p]).1 := by
  rw [movePorts_ports, Fin.getElem_fin, Vector.getElem_ofFn]

/-- Some port slipped. -/
def slipped (f : FarPort → Port → Port × Bool) (s : State) : Bool := (List.finRange 8).any fun p => (f p s.ports[p]).2

theorem slipped_iff {f : FarPort → Port → Port × Bool} : slipped f s = true ↔ ∃ p : FarPort, (f p s.ports[p]).2 = true := by
  simp only [slipped, List.any_eq_true, List.mem_finRange, true_and]

theorem movePorts_has (f : FarPort → Port → Port × Bool) (s : State) (k : NoticeKind) :
    (movePorts f s).notice.set.has k = (s.notice.set.has k || slipped f s && k == .slip) :=
  addNoticeIf_has (slipped f s) .slip k { s with ports := Vector.ofFn fun p => (f p s.ports[p]).1 }

theorem movePorts_mask (f : FarPort → Port → Port × Bool) (s : State) :
    (movePorts f s).notice.mask = s.notice.mask :=
  addNoticeIf_mask (slipped f s) .slip { s with ports := Vector.ofFn fun p => (f p s.ports[p]).1 }

/-! ### The output write (R176) -/

theorem write_down {p : Port} (h : p.state = .down) (b : Block) : p.write b = (p, false) := if_pos h

theorem write_room {p : Port} (h : p.state ≠ .down) (room : p.output.length < 4) (b : Block) : p.write b
    = ({ p with output := p.output ++ [b], primed := p.primed || decide (1 ≤ p.output.length) }, false) := by
  have two : decide (2 ≤ p.output.length + 1) = decide (1 ≤ p.output.length) := decide_eq_decide.mpr (by omega)
  rw [Port.write, if_neg h, if_pos room, two]

theorem write_full {p : Port} (h : p.state ≠ .down) (full : 4 ≤ p.output.length) (b : Block) : p.write b
    = ({ p with output := p.output.tail ++ [b], outOver := min 65535 (p.outOver + 1) }, true) := by
  rw [Port.write, if_neg h, if_neg (by omega)]
  rfl

theorem write_slips (p : Port) (b : Block) : (p.write b).2 = true ↔ p.state ≠ .down ∧ 4 ≤ p.output.length := by
  by_cases h : p.state = .down
  · rw [write_down h]
    exact ⟨nofun, fun slips => absurd h slips.1⟩
  · by_cases room : p.output.length < 4
    · rw [write_room h room]
      exact ⟨nofun, fun slips => absurd slips.2 (by omega)⟩
    · rw [write_full h (by omega)]
      exact ⟨fun _ => ⟨h, by omega⟩, fun _ => rfl⟩

/-! ### The blocks given (R97, R163, R181) -/

/-- The state that the ports are written in: frames sent and aux outputs given. -/
def framesSent (o : BlockOutputs) (s : State) : State :=
  { s with
    pods := Vector.ofFn fun l => { s.pods[l] with sent := some (s.pods[l].head.frame o.pods[l]) }
    auxOut := o.aux
    mix := none
    outputsDue := none }

theorem giveOutputs_eq (o : BlockOutputs) (s : State) :
    giveOutputs o s = movePorts (fun p r => r.write o.far[p]) (framesSent o s) := rfl

theorem giveOutputs_port (o : BlockOutputs) (s : State) (p : FarPort) :
    (giveOutputs o s).ports[p] = (s.ports[p].write o.far[p]).1 := movePorts_port _ (framesSent o s) p

theorem giveOutputs_mix (o : BlockOutputs) (s : State) : (giveOutputs o s).mix = none :=
  State.addNoticeIf_mix ..

theorem giveOutputs_outputsDue (o : BlockOutputs) (s : State) : (giveOutputs o s).outputsDue = none :=
  State.addNoticeIf_outputsDue ..

theorem giveOutputs_slip (o : BlockOutputs) (s : State) : (giveOutputs o s).notice.set.slip = true ↔
    s.notice.set.slip = true ∨ ∃ p : FarPort, s.ports[p].state ≠ .down ∧ 4 ≤ s.ports[p].output.length := by
  have slip := movePorts_has (fun p r => r.write o.far[p]) (framesSent o s) .slip
  have some_port : slipped (fun p r => r.write o.far[p]) (framesSent o s) = true ↔
      ∃ p : FarPort, s.ports[p].state ≠ .down ∧ 4 ≤ s.ports[p].output.length :=
    slipped_iff.trans (exists_congr fun p => write_slips _ _)
  rw [← some_port]
  refine (Bool.eq_iff_iff.mp slip).trans ?_
  rw [Bool.or_eq_true, beq_self_eq_true, Bool.and_true]
  rfl

theorem giveOutputs_notices (o : BlockOutputs) (s : State) : OnlyNotices [.slip] s (giveOutputs o s) := by
  refine ⟨fun k other => ?_, movePorts_mask _ (framesSent o s)⟩
  have notSlip : (k == NoticeKind.slip) = false := beq_eq_false_iff_ne.mpr fun same => other (same ▸ List.mem_cons_self)
  rw [giveOutputs_eq, movePorts_has, notSlip, Bool.and_false, Bool.or_false]
  rfl

/-- The write of every port, by the table of R176. -/
theorem giveOutputs_table (o : BlockOutputs) (s : State) (p : FarPort) :
    (s.ports[p].state = .down → (giveOutputs o s).ports[p] = s.ports[p]) ∧
    (s.ports[p].state ≠ .down → s.ports[p].output.length < 4 → (giveOutputs o s).ports[p] = { s.ports[p] with
      output := s.ports[p].output ++ [o.far[p]]
      primed := s.ports[p].primed || decide (1 ≤ s.ports[p].output.length) }) ∧
    (s.ports[p].state ≠ .down → 4 ≤ s.ports[p].output.length → (giveOutputs o s).ports[p] = { s.ports[p] with
      output := s.ports[p].output.tail ++ [o.far[p]]
      outOver := min 65535 (s.ports[p].outOver + 1) }) := by
  rw [giveOutputs_port]
  refine ⟨fun down => ?_, fun up room => ?_, fun up full => ?_⟩
  · rw [write_down down]
  · rw [write_room up room]
  · rw [write_full up full]

/-! ### Feeds formed (R115, R118) -/

/-- The clip counters raised, and CLIP set when there is a clip. -/
def clipsCounted (v : MixView) (s : State) : State :=
  (s.mapFeeds fun f x => { x with clips := raise x.clips (clipsOf v f) }).addNoticeIf
    (feedSlots.any fun f => decide (0 < clipsOf v f)) .clip

theorem formFeeds_eq (v : MixView) (s : State) : formFeeds v s = giveOutputs (outputsOf v) (clipsCounted v s) := rfl

theorem clipsCounted_ports (v : MixView) (s : State) : (clipsCounted v s).ports = s.ports := by
  simp only [clipsCounted, State.addNoticeIf_ports, State.mapFeeds_ports]

theorem clipsCounted_pods (v : MixView) (s : State) : (clipsCounted v s).pods = s.pods := by
  simp only [clipsCounted, State.addNoticeIf_pods, State.mapFeeds_pods]

theorem clipsCounted_has (v : MixView) (s : State) (k : NoticeKind) : (clipsCounted v s).notice.set.has k
    = (s.notice.set.has k || (feedSlots.any fun f => decide (0 < clipsOf v f)) && k == .clip) :=
  addNoticeIf_has _ _ _ _

theorem formFeeds_feed (v : MixView) (s : State) (f : FeedSlot) : (formFeeds v s).feeds[f]
    = { s.feeds[f] with clips := min 65535 (s.feeds[f].clips + clipsOf v f) } := by
  have given : (formFeeds v s).feeds = (s.mapFeeds fun f x => { x with clips := raise x.clips (clipsOf v f) }).feeds := by
    simp only [formFeeds, giveOutputs, movePorts, State.addNoticeIf_feeds]
  rw [given, State.mapFeeds_at]
  rfl

theorem formFeeds_clip (v : MixView) (s : State) : (formFeeds v s).notice.set.clip = true ↔
    s.notice.set.clip = true ∨ ∃ f, 0 < clipsOf v f := by
  have kept : (formFeeds v s).notice.set.has .clip = (clipsCounted v s).notice.set.has .clip :=
    (giveOutputs_notices (outputsOf v) (clipsCounted v s)).1 .clip (by decide)
  have some_clip : (feedSlots.any fun f => decide (0 < clipsOf v f)) = true ↔ ∃ f, 0 < clipsOf v f := by
    simp only [feedSlots, List.any_eq_true, List.mem_finRange, true_and, decide_eq_true_eq]
  rw [← some_clip]
  refine (Bool.eq_iff_iff.mp (kept.trans (clipsCounted_has v s .clip))).trans ?_
  rw [beq_self_eq_true, Bool.and_true, Bool.or_eq_true]
  rfl

/-- What the counting of clips leaves of every notice but CLIP. -/
theorem clipsCounted_other (v : MixView) (s : State) {k : NoticeKind} (other : k ≠ .clip) :
    (clipsCounted v s).notice.set.has k = s.notice.set.has k := by
  rw [clipsCounted_has, beq_eq_false_iff_ne.mpr other, Bool.and_false, Bool.or_false]

theorem clipsCounted_mask (v : MixView) (s : State) : (clipsCounted v s).notice.mask = s.notice.mask :=
  addNoticeIf_mask _ _ (s.mapFeeds fun f x => { x with clips := raise x.clips (clipsOf v f) })

namespace FeedsFormed

/-- Settles O45: the tables of the write, the clips and the frames, after a reset as in a block in progress. -/
theorem feedsFormedDeliversEveryBlock : Obligations.FeedsFormedDeliversEveryBlock := by
  unfold Obligations.FeedsFormedDeliversEveryBlock
  intro s
  refine ⟨fun idle spent => ?idle, fun o idle due => ?cut, fun v mixing => ?formed⟩
  case idle => exact congrArg Host.Outcome.next (feedsFormed_none idle spent)
  case cut =>
    refine ⟨giveOutputs o s, congrArg Host.Outcome.next (feedsFormed_cut idle due), giveOutputs_outputsDue o s,
      fun l => giveOutputs_pod s o l, fun a => ?_, giveOutputs_table o s, giveOutputs_slip o s, giveOutputs_notices o s, ?_⟩
    · rw [giveOutputs_auxOut]
    · have rest := giveOutputs_rest s o
      rw [idle] at rest
      rw [← giveOutputs_mix o s] at rest
      exact rest
  case formed =>
    refine ⟨formFeeds v s, congrArg Host.Outcome.next (feedsFormed_some mixing), formFeeds_mix s v,
      formFeeds_outputsDue s v, formFeeds_feed v s, ?clip, fun l => ?pod, fun a => ?aux, fun p => ?port, ?slip, ?others, ?mask,
      formFeeds_rest s v⟩
    case clip => exact formFeeds_clip v s
    case pod =>
      have there := giveOutputs_pod (clipsCounted v s) (outputsOf v) l
      rw [clipsCounted_pods, outputsOf_pods] at there
      exact there
    case aux => rw [formFeeds_auxOut, outputsOf_aux]
    case port =>
      have table := giveOutputs_table (outputsOf v) (clipsCounted v s) p
      rw [clipsCounted_ports, outputsOf_far] at table
      exact table
    case slip =>
      have slip := giveOutputs_slip (outputsOf v) (clipsCounted v s)
      have before : (clipsCounted v s).notice.set.slip = s.notice.set.slip := clipsCounted_other v s (k := .slip) nofun
      rw [clipsCounted_ports, before] at slip
      exact slip
    case others =>
      intro k notClip notSlip
      have kept := (giveOutputs_notices (outputsOf v) (clipsCounted v s)).1 k fun member =>
        notSlip (List.mem_singleton.mp member)
      exact kept.trans (clipsCounted_other v s notClip)
    case mask => exact (giveOutputs_notices (outputsOf v) (clipsCounted v s)).2.trans (clipsCounted_mask v s)

end FeedsFormed

/-! ### Mix-minus (R96) -/

namespace MixMinus

open ExactMix

variable {v : MixView} {i : SrcSlot} {x x' : SrcView} {f : FeedSlot} {y : FeedView} {d : Destination}

/-- The view with another reading of one source. -/
def withSrc (v : MixView) (i : SrcSlot) (x' : SrcView) : MixView := { v with srcs := v.srcs.set i (some x') }

/-- An excluded source leaves every sum of the feed as it is, whatever it sends: its coefficient is 0. -/
theorem mixSum_withSrc (bound : v.srcs[i] = some x)
    (out : siteExcluded x y = true ∨ groupExcluded x y = true) (out' : siteExcluded x' y = true ∨ groupExcluded x' y = true)
    (n : Fin 96) : mixSum (mixTerms (withSrc v i x') f y) n = mixSum (mixTerms v f y) n := by
  have silent : ∀ {z : SrcView} (xp : Int), siteExcluded z y = true ∨ groupExcluded z y = true →
      (coefficient (contribution xp (some z) y) : Int) = 0 := fun xp excluded => by
    rw [contribution_silenced (excluded.elim .inl fun groups => .inr (.inl groups))]
    rfl
  rw [mixSum_mixTerms, mixSum_mixTerms]
  refine Finset.sum_congr rfl fun j _ => ?_
  by_cases same : j = i
  · subst same
    have there : (withSrc v j x').srcs[j] = some x' := Vector.getElem_set_self j.isLt
    rw [there, bound, silent _ out, silent _ out', mul_zero, mul_zero]
  · have there : (withSrc v i x').srcs[j] = v.srcs[j] :=
      Vector.getElem_set_ne i.isLt j.isLt fun e => same (Fin.ext e).symm
    rw [there]
    rfl

theorem feedAt_withSrc : feedAt (withSrc v i x') d = feedAt v d := rfl

/-- A destination whose feed excludes the source receives the same block. -/
theorem blockFor_withSrc (bound : v.srcs[i] = some x) (excluded : ∀ f y, feedAt v d = some f → v.feeds[f] = some y →
      (siteExcluded x y = true ∨ groupExcluded x y = true) ∧ (siteExcluded x' y = true ∨ groupExcluded x' y = true)) :
    blockFor (withSrc v i x') d = blockFor v d := by
  cases held : feedAt v d with
  | none => rw [blockFor_unheld held, blockFor_unheld (feedAt_withSrc.trans held)]
  | some f =>
    obtain ⟨y, reads, -⟩ := feedAt_holds held
    obtain ⟨out, out'⟩ := excluded f y held reads
    rw [blockFor_held held reads, blockFor_held (v := withSrc v i x') (feedAt_withSrc.trans held) reads, feedBlock, feedBlock]
    exact congrArg Vector.ofFn (funext fun n => by rw [mixSum_withSrc bound out out'])

/-- A site's own destination: its feed excludes every source of the site. -/
theorem site_excluded {o : Origin} (bound : x.origin = some o) (same : sameSite o d = true) {f : FeedSlot}
    (held : feedAt v d = some f) (reads : v.feeds[f] = some y) : siteExcluded x y = true := by
  obtain ⟨z, hz, dest⟩ := feedAt_holds held
  rw [reads] at hz
  cases hz
  exact siteExcluded_iff.mpr ⟨o, d, bound, dest, same⟩

/-- The same block given leaves the same at a destination. -/
theorem formFeeds_same {v v' : MixView} {s s' : State} (pods : s'.pods = s.pods) (ports : s'.ports = s.ports)
    (same : blockFor v d = blockFor v' d) :
    (∀ l, d = .podSpk l → (formFeeds v s).pods[l] = (formFeeds v' s').pods[l]) ∧
    (∀ p, d = .farSend p → (formFeeds v s).ports[p] = (formFeeds v' s').ports[p]) ∧
    ∀ a : AuxPort, d = .auxOut a → (formFeeds v s).auxOut[a] = (formFeeds v' s').auxOut[a] := by
  refine ⟨fun l e => ?_, fun p e => ?_, fun a e => ?_⟩
  all_goals subst e
  · rw [formFeeds_eq, formFeeds_eq, giveOutputs_pod, giveOutputs_pod, clipsCounted_pods, clipsCounted_pods, outputsOf_pods,
      outputsOf_pods, pods, same]
  · rw [formFeeds_eq, formFeeds_eq, giveOutputs_port, giveOutputs_port, clipsCounted_ports, clipsCounted_ports,
      outputsOf_far, outputsOf_far, ports, same]
  · rw [formFeeds_auxOut, formFeeds_auxOut, outputsOf_aux, outputsOf_aux, same]

/-- Settles O47: what a destination receives turns on its block alone, and an excluded source is not in that. -/
theorem mixMinusLeavesOutTheListenersOwnSources : Obligations.MixMinusLeavesOutTheListenersOwnSources := by
  unfold Obligations.MixMinusLeavesOutTheListenersOwnSources
  intro s v i x x' t t' mixing bound origin first second
  have formed : t = formFeeds v s := Host.Outcome.next.inj (first.symm.trans (congrArg _ (feedsFormed_some mixing)))
  have formed' : t' = formFeeds (withSrc v i x') { s with mix := some (withSrc v i x') } :=
    Host.Outcome.next.inj (second.symm.trans (congrArg _ (feedsFormed_some rfl)))
  subst formed formed'
  have same := fun d (block : blockFor (withSrc v i x') d = blockFor v d) =>
    formFeeds_same (s := s) (s' := { s with mix := some (withSrc v i x') }) rfl rfl block.symm
  have site := fun (o : Origin) d (held : x.origin = some o) (here : sameSite o d = true) =>
    same d (blockFor_withSrc bound fun f y feed reads => ⟨.inl (site_excluded held here feed reads),
      .inl (site_excluded (origin.trans held) here feed reads)⟩)
  refine ⟨fun l e held => (site _ (.podSpk l) held (beq_self_eq_true l)).1 l rfl,
    fun p held => (site _ (.farSend p) held (beq_self_eq_true p)).2.1 p rfl,
    fun a held => (site _ (.auxOut a) held (beq_self_eq_true a)).2.2 a rfl, fun groups f y d held reads common => ?group⟩
  refine same d (blockFor_withSrc bound fun g z feed reads' => ?_)
  obtain rfl := Option.some.inj (held.symm.trans feed)
  obtain rfl := Option.some.inj (reads.symm.trans reads')
  have out := groupExcluded_iff.mpr common
  exact ⟨.inr out, .inr (groupExcluded_iff.mpr (groups ▸ common))⟩

end MixMinus

end Sys2Proof.Machine
end

section
/-! Proofs for O53 and O36: the far-end ports at a codec pulse, at the loss of their clock, and at the start of a mix
block. -/

namespace Sys2Proof.Machine.FarEnd

variable {s : State} {p : Port} {b : Block} {x : Sample}

/-! ### The input arrival (R173) -/

theorem arrive_frame (p : Port) (b : Block) : (p.arrive b).1 = { p with
    state := (p.arrive b).1.state, input := (p.arrive b).1.input, inOver := (p.arrive b).1.inOver } := by
  unfold Port.arrive
  split
  · rfl
  · split <;> rfl
  · split <;> rfl

theorem arrive_priming (h : p.state = .priming) (b : Block) : (p.arrive b).1.input = p.input ++ [b] ∧
    (p.arrive b).1.inOver = p.inOver ∧ (p.arrive b).1.state = (if p.input = [] then .priming else .running) := by
  unfold Port.arrive
  rw [h]
  dsimp only
  split
  next empty => exact ⟨rfl, rfl, by rw [if_pos (List.length_eq_zero_iff.mp empty)]⟩
  next some_block => exact ⟨rfl, rfl, by rw [if_neg fun empty => some_block (by rw [empty]; rfl)]⟩

theorem arrive_room (h : p.state = .running) (room : p.input.length < 4) (b : Block) :
    (p.arrive b).1.input = p.input ++ [b] ∧ (p.arrive b).1.inOver = p.inOver ∧ (p.arrive b).1.state = .running := by
  unfold Port.arrive
  rw [h]
  dsimp only
  rw [if_pos room]
  exact ⟨rfl, rfl, rfl⟩

theorem arrive_full (h : p.state = .running) (full : 4 ≤ p.input.length) (b : Block) :
    (p.arrive b).1.input = p.input.tail ++ [b] ∧ (p.arrive b).1.inOver = min 65535 (p.inOver + 1) ∧
    (p.arrive b).1.state = .running := by
  unfold Port.arrive
  rw [h]
  dsimp only
  rw [if_neg (by omega)]
  exact ⟨rfl, rfl, rfl⟩

theorem arrive_slips (p : Port) (b : Block) : (p.arrive b).2 = true ↔ p.state = .running ∧ 4 ≤ p.input.length := by
  unfold Port.arrive
  split
  next h => exact ⟨nofun, fun slips => absurd (h.symm.trans slips.1) nofun⟩
  next h =>
    have other : ¬ (p.state = .running ∧ 4 ≤ p.input.length) := fun slips => absurd (h.symm.trans slips.1) nofun
    split
    · exact ⟨nofun, fun slips => absurd slips other⟩
    · exact ⟨nofun, fun slips => absurd slips other⟩
  next h =>
    split
    next room => exact ⟨nofun, fun slips => absurd slips.2 (by omega)⟩
    next full => exact ⟨fun _ => ⟨h, by omega⟩, fun _ => rfl⟩

/-! ### The codec take (R177) -/

theorem take_frame (p : Port) : p.take.1 = { p with
    send := p.take.1.send, output := p.take.1.output, primed := p.take.1.primed, outUnder := p.take.1.outUnder } := by
  unfold Port.take
  split
  · split <;> rfl
  · rfl

theorem take_state (p : Port) : p.take.1.state = p.state := (congrArg Port.state (take_frame p) :)

theorem take_input (p : Port) : p.take.1.input = p.input := (congrArg Port.input (take_frame p) :)

theorem take_inOver (p : Port) : p.take.1.inOver = p.inOver := (congrArg Port.inOver (take_frame p) :)

theorem take_unprimed (h : p.primed = false) : p.take.1.send = silence ∧ p.take.1.output = p.output ∧
    p.take.1.primed = false ∧ p.take.1.outUnder = p.outUnder := by
  unfold Port.take
  rw [h]
  exact ⟨rfl, rfl, rfl, rfl⟩

theorem take_block (h : p.primed = true) (blocks : p.output ≠ []) : p.take.1.send :: p.take.1.output = p.output ∧
    p.take.1.primed = true ∧ p.take.1.outUnder = p.outUnder := by
  unfold Port.take
  rw [if_pos h]
  split
  next b rest e => exact ⟨e.symm, h, rfl⟩
  next e => exact absurd e blocks

theorem take_empty (h : p.primed = true) (empty : p.output = []) : p.take.1.send = silence ∧ p.take.1.output = [] ∧
    p.take.1.primed = false ∧ p.take.1.outUnder = min 65535 (p.outUnder + 1) := by
  unfold Port.take
  rw [if_pos h, empty]
  exact ⟨rfl, rfl, rfl, rfl⟩

theorem take_slips (p : Port) : p.take.2 = true ↔ p.primed = true ∧ p.output = [] := by
  unfold Port.take
  split
  next h =>
    split
    next e => exact ⟨nofun, fun slips => absurd (e.symm.trans slips.2) nofun⟩
    next e => exact ⟨fun _ => ⟨h, e⟩, fun _ => rfl⟩
  next h => exact ⟨nofun, fun slips => absurd slips.1 h⟩

/-! ### A codec pulse (R170, R172) -/

/-- The port at a codec block boundary, its assembly taken (R170). -/
def boundary (p : Port) : Port := { p with seen := true, codecOut := p.send[p.fill], asm := silence, fill := 0 }

/-- The port after the arrival of a boundary's block. -/
def arrived (p : Port) (x : Sample) : Port := ((boundary p).arrive (p.asm.set p.fill x)).1

theorem pulse_within (h : p.fill.val + 1 < 96) : p.pulse x = ({ p with
    asm := p.asm.set p.fill x, fill := ⟨p.fill.val + 1, h⟩, seen := true, codecOut := p.send[p.fill] }, false) :=
  dif_pos h

theorem pulse_boundary (h : p.fill.val = 95) : p.pulse x
    = ((arrived p x).take.1, ((boundary p).arrive (p.asm.set p.fill x)).2 || (arrived p x).take.2) :=
  dif_neg (by omega)

/-- What the boundary leaves of the port: the two tables' fields, and the assembly taken. -/
theorem boundary_frame (p : Port) (x : Sample) : (arrived p x).take.1 = { p with
    asm := silence, fill := 0, seen := true, codecOut := p.send[p.fill]
    state := (arrived p x).take.1.state, input := (arrived p x).take.1.input, inOver := (arrived p x).take.1.inOver
    send := (arrived p x).take.1.send, output := (arrived p x).take.1.output, primed := (arrived p x).take.1.primed
    outUnder := (arrived p x).take.1.outUnder } := by
  rw [take_state, take_input, take_inOver]
  exact (take_frame (arrived p x)).trans (congrArg (fun a : Port => { a with
    send := (arrived p x).take.1.send, output := (arrived p x).take.1.output, primed := (arrived p x).take.1.primed
    outUnder := (arrived p x).take.1.outUnder }) (arrive_frame (boundary p) (p.asm.set p.fill x)))

theorem arrived_primed (p : Port) (x : Sample) : (arrived p x).primed = p.primed :=
  (congrArg Port.primed (arrive_frame (boundary p) (p.asm.set p.fill x)) :)

theorem arrived_output (p : Port) (x : Sample) : (arrived p x).output = p.output :=
  (congrArg Port.output (arrive_frame (boundary p) (p.asm.set p.fill x)) :)

theorem arrived_outUnder (p : Port) (x : Sample) : (arrived p x).outUnder = p.outUnder :=
  (congrArg Port.outUnder (arrive_frame (boundary p) (p.asm.set p.fill x)) :)

/-- The block of a boundary slips where the arrival or the take does (R178). -/
theorem boundary_slips (p : Port) (x : Sample) :
    (((boundary p).arrive (p.asm.set p.fill x)).2 || (arrived p x).take.2) = true ↔
    p.state = .running ∧ 4 ≤ p.input.length ∨ p.primed = true ∧ p.output = [] := by
  rw [Bool.or_eq_true, arrive_slips, take_slips, arrived_primed, arrived_output]
  rfl

theorem codecPulse_down {q : FarPort} (h : s.ports[q].state = .down) (x : Sample) :
    codecPulse q x s = s.setPort q (s.ports[q].clockReturn x) := if_pos h

theorem codecPulse_up {q : FarPort} (h : s.ports[q].state ≠ .down) (x : Sample) :
    codecPulse q x s = (s.setPort q (s.ports[q].pulse x).1).addNoticeIf (s.ports[q].pulse x).2 .slip := if_neg h

/-! ### The loss of the clock (R171) -/

theorem judgeIdle_kept (h : p.state = .down ∨ p.idle < 8) : p.judgeIdle = (p, false) :=
  if_neg fun lost => h.elim lost.1 fun early => absurd lost.2 (by omega)

theorem judgeIdle_lost (up : p.state ≠ .down) (late : 8 ≤ p.idle) : p.judgeIdle = (p.clockLoss, true) :=
  if_pos ⟨up, late⟩

theorem setPort_self (s : State) (q : FarPort) : s.setPort q s.ports[q] = s := by
  rw [State.setPort]
  exact congrArg (fun v => { s with ports := v }) (Vector.set_getElem_self q.isLt)

theorem setPort_same (s : State) (q : FarPort) (p : Port) : (s.setPort q p).ports[q] = p := by
  rw [State.setPort_ports]
  exact Vector.getElem_set_self q.isLt

theorem setPort_other (s : State) {q r : FarPort} (p : Port) (h : r ≠ q) : (s.setPort q p).ports[r] = s.ports[r] := by
  rw [State.setPort_ports]
  exact Vector.getElem_set_ne q.isLt r.isLt fun e => h (Fin.ext e).symm

theorem addNoticeIf_ports_rest (q : FarPort) (p : Port) (c : Bool) (s : State) :
    { (s.setPort q p).addNoticeIf c .slip with ports := s.ports, notice := s.notice } = s := by
  cases c <;> rfl

/-- Settles O53: the clock's return, a pulse within a block, and at the 96th the arrival and then the take. -/
theorem codecPulseAndClockLoss : Obligations.CodecPulseAndClockLoss := by
  unfold Obligations.CodecPulseAndClockLoss
  intro s q x
  refine ⟨_, _, rfl, rfl, fun down => codecPulse_down down x, fun within up => ?within, fun full up => ?boundary,
    fun idle => ?idle, fun up late => ?lost⟩
  case within =>
    rw [codecPulse_up up, pulse_within within]
    rfl
  case boundary =>
    rw [codecPulse_up up, pulse_boundary full]
    have there : ((s.setPort q (arrived s.ports[q] x).take.1).addNoticeIf
        (((boundary s.ports[q]).arrive (s.ports[q].asm.set s.ports[q].fill x)).2 || (arrived s.ports[q] x).take.2)
        .slip).ports[q] = (arrived s.ports[q] x).take.1 := by
      rw [State.addNoticeIf_ports, setPort_same]
    have primed := arrived_primed s.ports[q] x
    have output := arrived_output s.ports[q] x
    have outUnder := arrived_outUnder s.ports[q] x
    rw [there]
    refine ⟨boundary_frame _ x, fun b block => ⟨fun priming => ?priming, fun running room => ?room,
      fun running overfull => ?overfull⟩, fun unprimed => ?unprimed, fun isPrimed blocks => ?block, fun isPrimed empty => ?empty, ?slip,
      fun r other => ?other, fun k other => ?kinds, ?mask, ?rest⟩
    case priming =>
      subst block
      rw [take_input, take_inOver, take_state]
      exact arrive_priming (p := boundary s.ports[q]) priming _
    case room =>
      subst block
      rw [take_input, take_inOver, take_state]
      exact arrive_room (p := boundary s.ports[q]) running room _
    case overfull =>
      subst block
      rw [take_input, take_inOver, take_state]
      exact arrive_full (p := boundary s.ports[q]) running overfull _
    case unprimed =>
      rw [← output, ← outUnder]
      exact take_unprimed (primed.trans unprimed)
    case block =>
      rw [← output, ← outUnder]
      exact take_block (primed.trans isPrimed) (output ▸ blocks)
    case empty =>
      rw [← outUnder]
      exact take_empty (primed.trans isPrimed) (output.trans empty)
    case slip =>
      rw [← boundary_slips s.ports[q] x]
      have slip := addNoticeIf_has (((boundary s.ports[q]).arrive (s.ports[q].asm.set s.ports[q].fill x)).2
        || (arrived s.ports[q] x).take.2) .slip .slip (s.setPort q (arrived s.ports[q] x).take.1)
      rw [beq_self_eq_true, Bool.and_true] at slip
      exact (Bool.eq_iff_iff.mp slip).trans (Bool.or_eq_true_iff)
    case other => rw [State.addNoticeIf_ports, setPort_other s _ other]
    case kinds =>
      rw [addNoticeIf_has, beq_eq_false_iff_ne.mpr other, Bool.and_false, Bool.or_false]
      rfl
    case mask => exact addNoticeIf_mask _ _ _
    case rest => exact addNoticeIf_ports_rest _ _ _ s
  case idle =>
    rw [judgeIdle_kept idle]
    exact setPort_self s q
  case lost =>
    rw [judgeIdle_lost up late]
    exact ⟨rfl, rfl, rfl, addNotice_attention _ _, rfl⟩

end Sys2Proof.Machine.FarEnd
end

section
/-! Proofs for O36 and O35: the start of a mix block, stage by stage. -/

namespace Sys2Proof.Machine

variable {s t : State} {i : SrcSlot}

/-! ### FLOOR at the end of an event (R80) -/

/-- A collection of the floor has changed. -/
def collectionsMoved (before s : State) : Bool :=
  s.floor.list != before.floor.list || s.floor.chairs != before.floor.chairs || s.floor.delegates != before.floor.delegates

theorem noteFloor_has (before s : State) (k : NoticeKind) : (noteFloor before s).notice.set.has k
    = (s.notice.set.has k || collectionsMoved before s && k == .floor) := addNoticeIf_has _ _ _ _

theorem noteFloor_mask (before s : State) : (noteFloor before s).notice.mask = s.notice.mask := addNoticeIf_mask _ _ _

theorem noteFloor_other (before s : State) {k : NoticeKind} (other : k ≠ .floor) :
    (noteFloor before s).notice.set.has k = s.notice.set.has k := by
  rw [noteFloor_has, beq_eq_false_iff_ne.mpr other, Bool.and_false, Bool.or_false]

theorem retargeted_notice (before u : State) : (retargeted before u).notice = (noteFloor before u).notice :=
  State.mapSrcs_notice _ _

/-! ### The Floor Controller's and the Bank Store's work (R77, R130) -/

/-- What the work at a block start may move. -/
structure WorkFrame (s t : State) : Prop where
  src : ∀ i : SrcSlot, t.srcs[i] = { s.srcs[i] with
    creep := t.srcs[i].creep, floorState := t.srcs[i].floorState, gain := t.srcs[i].gain }
  slip : t.notice.set.slip = s.notice.set.slip
  rest : { t with
    srcs := s.srcs, floor := s.floor, notice := s.notice, banks := s.banks, xpRamps := s.xpRamps } = s

namespace WorkFrame

theorem feeds (h : WorkFrame s t) : t.feeds = s.feeds := (congrArg State.feeds h.rest :)

theorem pods (h : WorkFrame s t) : t.pods = s.pods := (congrArg State.pods h.rest :)

theorem ports (h : WorkFrame s t) : t.ports = s.ports := (congrArg State.ports h.rest :)

end WorkFrame

theorem swapEffect_work (s : State) : WorkFrame s (swapEffect s) where
  src := swapEffect_src s
  slip := by
    have served : (swapServed (exchanged s)).notice = s.notice :=
      (swapDone_frame (exchanged s)).notice.trans (overlay_exchanged (exchanged_rest s)).2.2.2.2.2
    have noted := noteFloor_other (exchanged s) (swapServed (exchanged s)) (k := .slip) nofun
    rw [← retargeted_notice, ← swapEffect_eq, served] at noted
    exact noted
  rest := swapEffect_rest s

theorem finishEvent_work {u : State} (frame : FloorFrame s u) : WorkFrame s (finishEvent s u) where
  src i := by rw [finishEvent_src_frame, frame.srcs i]
  slip := by
    have noted := noteFloor_other s u (k := .slip) nofun
    rw [← finishEvent_notice, frame.notice] at noted
    exact noted
  rest := by
    have finished := finishEvent_rest s u
    have floor := frame.rest
    generalize finishEvent s u = v at finished ⊢
    rw [← finished] at floor
    exact (congrArg (fun w : State => { w with notice := s.notice, banks := s.banks, xpRamps := s.xpRamps }) floor :)

theorem stampService_work (s : State) : WorkFrame s (stampService s) := by
  unfold stampService
  split
  · exact finishEvent_work ((expireStamps_frame s).trans (pendingService_frame _))
  · exact ⟨fun i => rfl, rfl, rfl⟩

theorem startWork_work (s : State) : WorkFrame s (startWork s) := by
  unfold startWork
  split
  · exact swapEffect_work s
  · exact stampService_work s

/-! ### The stages of the start -/

/-- The block number advanced (R77). -/
def advanced (s : State) : State := { s with floor := { s.floor with block := s.floor.block + 1 } }

/-- The part's work at the block start done (R77, R130). -/
def worked (s : State) : State := startWork (advanced s)

/-- The clock watch made at every port (R171). -/
def watched (s : State) : State := movePorts (fun _ p => p.watch) (worked s)

theorem startBlock_eq (aux : Vector Block 8) (s : State) :
    startBlock aux s = readBlock (stepRamps (deliver aux (watched s))) := rfl

theorem worked_frame (s : State) : WorkFrame s (worked s) := by
  have work := startWork_work (advanced s)
  refine ⟨work.src, work.slip, ?_⟩
  have rest := work.rest
  unfold worked
  generalize startWork (advanced s) = t at rest ⊢
  exact (congrArg (fun u : State => { u with floor := s.floor }) rest :)

theorem watched_rest (s : State) :
    { watched s with ports := (worked s).ports, notice := (worked s).notice } = worked s := movePorts_rest _ _

theorem watched_port (s : State) (p : FarPort) : (watched s).ports[p] = s.ports[p].watch.1 := by
  rw [watched, movePorts_port, (worked_frame s).ports]

/-- Every source given its block, and every frame holding emptied (R150). -/
def givenOut (aux : Vector Block 8) (w : State) : State :=
  let s1 := w.mapSrcs fun _ x => if x.inUse then { x with inBlock := x.origin.map (blockFrom w aux) } else x
  { s1 with pods := Vector.ofFn fun l => { s1.pods[l] with holding := none } }

/-- What a state shares with another that differs from it in sources, feeds and crosspoint ramps alone. -/
theorem stepped_shares {d w : State} (h : { d with srcs := w.srcs, feeds := w.feeds, xpRamps := w.xpRamps } = w) :
    d.ports = w.ports ∧ d.notice = w.notice ∧ d.pods = w.pods ∧ d.floor = w.floor ∧ d.banks = w.banks :=
  ⟨(congrArg State.ports h :), (congrArg State.notice h :), (congrArg State.pods h :), (congrArg State.floor h :),
    (congrArg State.banks h :)⟩

/-- What a state shares with another that differs from it in sources, pods, ports and notices alone. -/
theorem delivered_shares {d w : State}
    (h : { d with srcs := w.srcs, pods := w.pods, ports := w.ports, notice := w.notice } = w) :
    d.feeds = w.feeds ∧ d.xpRamps = w.xpRamps ∧ d.floor = w.floor ∧ d.banks = w.banks :=
  ⟨(congrArg State.feeds h :), (congrArg State.xpRamps h :), (congrArg State.floor h :), (congrArg State.banks h :)⟩

/-- What a state shares with another that differs from it in ports and notices alone. -/
theorem moved_shares {d w : State} (h : { d with ports := w.ports, notice := w.notice } = w) :
    d.srcs = w.srcs ∧ d.pods = w.pods ∧ d.feeds = w.feeds ∧ d.xpRamps = w.xpRamps ∧ d.floor = w.floor ∧
    d.banks = w.banks :=
  ⟨(congrArg State.srcs h :), (congrArg State.pods h :), (congrArg State.feeds h :), (congrArg State.xpRamps h :),
    (congrArg State.floor h :), (congrArg State.banks h :)⟩

section
variable (aux : Vector Block 8) (w : State)

theorem deliver_eq : deliver aux w = movePorts (fun _ p => p.deliver) (givenOut aux w) := by
  unfold deliver givenOut
  rfl

theorem givenOut_ports : (givenOut aux w).ports = w.ports := by simp only [givenOut, State.mapSrcs_ports]

theorem givenOut_notice : (givenOut aux w).notice = w.notice := by simp only [givenOut, State.mapSrcs_notice]

theorem givenOut_rest : { givenOut aux w with srcs := w.srcs, pods := w.pods } = w := by
  simp only [givenOut, State.mapSrcs]

theorem givenOut_src (i : SrcSlot) : (givenOut aux w).srcs[i] =
    if w.srcs[i].inUse then { w.srcs[i] with inBlock := w.srcs[i].origin.map (blockFrom w aux) } else w.srcs[i] := by
  have same : (givenOut aux w).srcs
      = (w.mapSrcs fun _ x => if x.inUse then { x with inBlock := x.origin.map (blockFrom w aux) } else x).srcs := by
    simp only [givenOut]
  rw [same, State.mapSrcs_at]

theorem givenOut_pod (l : PodLink) : (givenOut aux w).pods[l] = { w.pods[l] with holding := none } := by
  simp only [givenOut, State.mapSrcs_pods, Fin.getElem_fin, Vector.getElem_ofFn]

theorem deliver_port (p : FarPort) : (deliver aux w).ports[p] = w.ports[p].deliver.1 := by
  rw [deliver_eq, movePorts_port, givenOut_ports]

theorem deliver_has (k : NoticeKind) : (deliver aux w).notice.set.has k
    = (w.notice.set.has k || slipped (fun _ p => p.deliver) w && k == .slip) := by
  have ports : slipped (fun _ p => p.deliver) (givenOut aux w) = slipped (fun _ p => p.deliver) w := by
    simp only [slipped, givenOut_ports]
  rw [deliver_eq, movePorts_has, givenOut_notice, ports]

theorem deliver_mask : (deliver aux w).notice.mask = w.notice.mask := by
  rw [deliver_eq, movePorts_mask, givenOut_notice]

theorem deliver_rest : { deliver aux w with srcs := w.srcs, pods := w.pods, ports := w.ports, notice := w.notice } = w := by
  have rest := movePorts_rest (givenOut aux w) fun _ p => p.deliver
  rw [← deliver_eq] at rest
  have given := givenOut_rest aux w
  generalize deliver aux w = d at rest ⊢
  generalize givenOut aux w = g at rest given
  rw [← rest] at given
  exact (congrArg (fun u : State => { u with ports := w.ports, notice := w.notice }) given :)

theorem deliver_src (i : SrcSlot) : (deliver aux w).srcs[i] =
    if w.srcs[i].inUse then { w.srcs[i] with inBlock := w.srcs[i].origin.map (blockFrom w aux) } else w.srcs[i] := by
  have moved := movePorts_rest (givenOut aux w) fun _ p => p.deliver
  rw [deliver_eq, (moved_shares moved).1, givenOut_src]

theorem deliver_pod (l : PodLink) : (deliver aux w).pods[l] = { w.pods[l] with holding := none } := by
  have moved := movePorts_rest (givenOut aux w) fun _ p => p.deliver
  rw [deliver_eq, (moved_shares moved).2.1, givenOut_pod]

theorem stepRamps_src (i : SrcSlot) : (stepRamps w).srcs[i] = { w.srcs[i] with gain := w.srcs[i].gain.step } := by
  have same : (stepRamps w).srcs = (w.mapSrcs fun _ x => { x with gain := x.gain.step }).srcs := by
    simp only [stepRamps, State.mapFeeds_srcs]
  rw [same, State.mapSrcs_at]

theorem stepRamps_feed (f : FeedSlot) : (stepRamps w).feeds[f] = { w.feeds[f] with gain := w.feeds[f].gain.step } := by
  have same : (stepRamps w).feeds
      = ((w.mapSrcs fun _ x => { x with gain := x.gain.step }).mapFeeds fun _ x => { x with gain := x.gain.step }).feeds := by
    simp only [stepRamps]
  rw [same, State.mapFeeds_at, State.mapSrcs_feeds]

theorem stepRamps_xpRamp (f : FeedSlot) (i : SrcSlot) : (stepRamps w).xpRamps[f][i] = w.xpRamps[f][i].map XpRamp.step := by
  rw [stepRamps, matrix_ofFn_at]

theorem stepRamps_rest : { stepRamps w with srcs := w.srcs, feeds := w.feeds, xpRamps := w.xpRamps } = w := by
  simp only [stepRamps, State.mapFeeds, State.mapSrcs]

theorem readBlock_pod (l : PodLink) : (readBlock w).pods[l] = { w.pods[l] with head := outHead w l } := by
  rw [readBlock, Fin.getElem_fin, Vector.getElem_ofFn]

theorem readBlock_floor : (readBlock w).floor = w.floor := rfl

theorem readBlock_srcs : (readBlock w).srcs = w.srcs := rfl

theorem readBlock_feeds : (readBlock w).feeds = w.feeds := rfl

theorem readBlock_xpRamps : (readBlock w).xpRamps = w.xpRamps := rfl

theorem readBlock_ports : (readBlock w).ports = w.ports := rfl

theorem readBlock_notice : (readBlock w).notice = w.notice := rfl

theorem readBlock_rest : { readBlock w with mix := w.mix, outputsDue := w.outputsDue, pods := w.pods } = w := by
  simp only [readBlock]

end

/-- The state whose records the Mixer and the outgoing frames read (R109, R163). -/
def readied (aux : Vector Block 8) (s : State) : State := stepRamps (deliver aux (watched s))

section
variable (aux : Vector Block 8) (s : State)

theorem startBlock_readied : startBlock aux s = readBlock (readied aux s) := startBlock_eq aux s

theorem readied_shares : (readied aux s).ports = (deliver aux (watched s)).ports ∧
    (readied aux s).notice = (deliver aux (watched s)).notice ∧ (readied aux s).pods = (deliver aux (watched s)).pods ∧
    (readied aux s).floor = (deliver aux (watched s)).floor ∧ (readied aux s).banks = (deliver aux (watched s)).banks :=
  stepped_shares (stepRamps_rest _)

theorem readied_floor : (readied aux s).floor = (worked s).floor :=
  (readied_shares aux s).2.2.2.1.trans ((delivered_shares (deliver_rest aux (watched s))).2.2.1.trans
    (moved_shares (watched_rest s)).2.2.2.2.1)

theorem readied_banks : (readied aux s).banks = (worked s).banks :=
  (readied_shares aux s).2.2.2.2.trans ((delivered_shares (deliver_rest aux (watched s))).2.2.2.trans
    (moved_shares (watched_rest s)).2.2.2.2.2)

/-- The stages together move nothing but what each of them moves. -/
theorem stages_rest {u r d w t : State} (read : { u with mix := r.mix, outputsDue := r.outputsDue, pods := r.pods } = r)
    (stepped : { r with srcs := d.srcs, feeds := d.feeds, xpRamps := d.xpRamps } = d)
    (delivered : { d with srcs := w.srcs, pods := w.pods, ports := w.ports, notice := w.notice } = w)
    (moved : { w with ports := t.ports, notice := t.notice } = t) :
    { u with srcs := t.srcs, feeds := t.feeds, floor := t.floor, xpRamps := t.xpRamps, pods := t.pods,
             ports := t.ports, mix := t.mix, outputsDue := t.outputsDue, notice := t.notice } = t := by
  rw [← read] at stepped
  rw [← stepped] at delivered
  rw [← delivered] at moved
  exact (congrArg (fun v : State => { v with
    srcs := t.srcs, feeds := t.feeds, floor := t.floor, xpRamps := t.xpRamps, pods := t.pods, mix := t.mix
    outputsDue := t.outputsDue }) moved :)

/-- What a source record is when the block is read: its block received, its ramp stepped. -/
theorem readied_src (i : SrcSlot) : (readied aux s).srcs[i] = { (worked s).srcs[i] with
    gain := (worked s).srcs[i].gain.step
    inBlock := if s.srcs[i].inUse then s.srcs[i].origin.map (blockFrom (watched s) aux)
      else s.srcs[i].inBlock } := by
  have used : (worked s).srcs[i].inUse = s.srcs[i].inUse := by
    rw [(worked_frame s).src i]
    rfl
  have origin : (worked s).srcs[i].origin = s.srcs[i].origin := by rw [(worked_frame s).src i]
  have block : (worked s).srcs[i].inBlock = s.srcs[i].inBlock := by rw [(worked_frame s).src i]
  rw [readied, stepRamps_src, deliver_src, (moved_shares (watched_rest s)).1, used, origin]
  split
  · rfl
  · rw [← block]

theorem readied_pod (l : PodLink) : (readied aux s).pods[l] = { s.pods[l] with holding := none } := by
  rw [(readied_shares aux s).2.2.1, deliver_pod, (moved_shares (watched_rest s)).2.1, (worked_frame s).pods]

theorem readied_feed (f : FeedSlot) :
    (readied aux s).feeds[f] = { s.feeds[f] with gain := s.feeds[f].gain.step } := by
  rw [readied, stepRamps_feed, (delivered_shares (deliver_rest _ _)).1, (moved_shares (watched_rest s)).2.2.1,
    (worked_frame s).feeds]

theorem readied_state (i : SrcSlot) : (readied aux s).srcs[i].state = s.srcs[i].state := by
  rw [readied_src, (worked_frame s).src i]

theorem readied_origin (i : SrcSlot) : (readied aux s).srcs[i].origin = s.srcs[i].origin := by
  rw [readied_src, (worked_frame s).src i]

theorem readied_groups (i : SrcSlot) : (readied aux s).srcs[i].groups = s.srcs[i].groups := by
  rw [readied_src, (worked_frame s).src i]

theorem readied_alert (i : SrcSlot) : (readied aux s).srcs[i].alert = s.srcs[i].alert := by
  rw [readied_src, (worked_frame s).src i]

theorem readied_effMute (i : SrcSlot) : (readied aux s).srcs[i].effMute = s.srcs[i].effMute := by
  rw [readied_src, (worked_frame s).src i]

theorem readied_floorState (i : SrcSlot) : (readied aux s).srcs[i].floorState = (worked s).srcs[i].floorState := by
  rw [readied_src]

theorem readied_xpRamp (f : FeedSlot) (i : SrcSlot) :
    (readied aux s).xpRamps[f][i] = (worked s).xpRamps[f][i].map XpRamp.step := by
  rw [readied, stepRamps_xpRamp, (delivered_shares (deliver_rest _ _)).2.1, (moved_shares (watched_rest s)).2.2.2.1]

theorem startBlock_port (p : FarPort) : (startBlock aux s).ports[p] = s.ports[p].watch.1.deliver.1 := by
  rw [startBlock_readied, readBlock_ports, (readied_shares aux s).1, deliver_port, watched_port]

/-- The notices of a start: SLIP at a port that enters DOWN or underflows, beside what the work before it left. -/
theorem startBlock_has (k : NoticeKind) : (startBlock aux s).notice.set.has k = ((worked s).notice.set.has k ||
    slipped (fun _ p => p.watch) s && k == .slip || slipped (fun _ p => p.watch.1.deliver) s && k == .slip) := by
  have ports : slipped (fun _ p => p.watch) (worked s) = slipped (fun _ p => p.watch) s := by
    simp only [slipped, (worked_frame s).ports]
  have drained : slipped (fun _ p => p.deliver) (watched s) = slipped (fun _ p => p.watch.1.deliver) s := by
    simp only [slipped, watched_port]
  rw [startBlock_readied, readBlock_notice, (readied_shares aux s).2.1, deliver_has, drained, watched, movePorts_has, ports]

theorem startBlock_mask : (startBlock aux s).notice.mask = (worked s).notice.mask := by
  rw [startBlock_readied, readBlock_notice, (readied_shares aux s).2.1, deliver_mask, watched, movePorts_mask]

end

/-! ### The watch and the delivery of one port (R171, R174) -/

namespace FarEnd

variable {p : Port}

theorem watch_down (h : p.state = .down) : p.watch = (p, false) := if_pos h

theorem watch_lost (up : p.state ≠ .down) (unseen : p.seen = false) (late : 7 ≤ p.idle) :
    p.watch = ({ p with idle := p.idle + 1 }.clockLoss, true) := by
  rw [Port.watch, if_neg up, unseen, if_neg Bool.false_ne_true]
  exact judgeIdle_lost up (Nat.succ_le_succ late)

theorem watch_kept {idle : Nat} (up : p.state ≠ .down) (h : p.seen = true ∧ idle = 0 ∨
    p.seen = false ∧ p.idle < 7 ∧ idle = p.idle + 1) : p.watch = ({ p with seen := false, idle := idle }, false) := by
  obtain ⟨seen, rfl⟩ | ⟨unseen, early, rfl⟩ := h
  · rw [Port.watch, if_neg up, if_pos seen]
  · rw [Port.watch, if_neg up, unseen, if_neg Bool.false_ne_true]
    refine (judgeIdle_kept (.inr (Nat.succ_lt_succ early))).trans ?_
    rw [← unseen]

theorem deliver_down (h : p.state = .down) : p.deliver = (p, false) := by
  rw [Port.deliver, h]

theorem deliver_priming (h : p.state = .priming) : p.deliver = (p, false) := by
  rw [Port.deliver, h]

theorem deliver_block (h : p.state = .running) (blocks : p.input ≠ []) :
    p.deliver = ({ p with input := p.input.tail }, false) := by
  obtain ⟨b, rest, input⟩ := List.exists_cons_of_ne_nil blocks
  rw [Port.deliver, h, input]
  rfl

theorem deliver_empty (h : p.state = .running) (empty : p.input = []) :
    p.deliver = ({ p with inUnder := min 65535 (p.inUnder + 1), state := .priming }, true) := by
  rw [Port.deliver, h, empty]
  rfl

theorem deliver_slips (p : Port) : p.deliver.2 = true ↔ p.state = .running ∧ p.input = [] := by
  cases state : p.state with
  | down =>
    rw [deliver_down state]
    exact ⟨nofun, fun slips => absurd slips.1 nofun⟩
  | priming =>
    rw [deliver_priming state]
    exact ⟨nofun, fun slips => absurd slips.1 nofun⟩
  | running =>
    by_cases empty : p.input = []
    · rw [deliver_empty state empty]
      exact ⟨fun _ => ⟨rfl, empty⟩, fun _ => rfl⟩
    · rw [deliver_block state empty]
      exact ⟨nofun, fun slips => absurd slips.2 empty⟩

/-- The block a FAR source receives, the watch made (R171, R174). -/
theorem given_watched (p : Port) : p.watch.1.given =
    if p.state = .running ∧ (p.seen = true ∨ p.idle < 7) then p.input.headD silence else silence := by
  have silent {q : Port} (h : q.state ≠ .running) : q.given = silence := by
    unfold Port.given
    split
    next running _ => exact absurd running h
    next => rfl
  by_cases down : p.state = .down
  · have off : ¬ (p.state = .running ∧ (p.seen = true ∨ p.idle < 7)) := fun h => absurd (down.symm.trans h.1) nofun
    rw [watch_down down, if_neg off]
    exact silent fun running => absurd (down.symm.trans running) nofun
  by_cases lost : p.seen = false ∧ 7 ≤ p.idle
  · have off : ¬ (p.state = .running ∧ (p.seen = true ∨ p.idle < 7)) := fun h =>
      h.2.elim (fun seen => absurd (lost.1.symm.trans seen) nofun) (by omega)
    rw [watch_lost down lost.1 lost.2, if_neg off]
    exact silent nofun
  obtain ⟨idle, counted⟩ : ∃ idle, p.seen = true ∧ idle = 0 ∨ p.seen = false ∧ p.idle < 7 ∧ idle = p.idle + 1 := by
    cases seen : p.seen with
    | true => exact ⟨0, .inl ⟨rfl, rfl⟩⟩
    | false => exact ⟨_, .inr ⟨rfl, Nat.lt_of_not_le fun late => lost ⟨seen, late⟩, rfl⟩⟩
  have watched : p.seen = true ∨ p.idle < 7 := counted.elim (fun h => .inl h.1) fun h => .inr h.2.1
  rw [watch_kept down counted]
  by_cases running : p.state = .running
  · rw [if_pos ⟨running, watched⟩]
    unfold Port.given
    dsimp only
    rw [running]
    cases p.input <;> rfl
  · rw [if_neg fun h => running h.1]
    exact silent running

end FarEnd

/-! ### What is fixed for the block (R53, R113) -/

theorem viewSrc_eq (x : Source) : viewSrc x = if x.state = .free then none else
    some ⟨x.origin, x.groups, x.gain.current, x.inBlock.getD silence⟩ := by
  unfold viewSrc
  split
  next used => exact (if_neg (Attach.srcInUse_iff.mp used)).symm
  next unused => exact (if_pos (not_not.mp fun used => unused (Attach.srcInUse_iff.mpr used))).symm

theorem viewFeed_eq (x : Feed) : viewFeed x = if x.state = .free then none else
    some ⟨x.dest, x.excluded, x.gain.current⟩ := by
  unfold viewFeed
  split
  next used => exact (if_neg (FeedAttach.inUse_iff.mp used)).symm
  next unused => exact (if_pos (not_not.mp fun used => unused (FeedAttach.inUse_iff.mpr used))).symm

/-- The lines 2 to 7 of R53. -/
theorem indicatorOf_eq (privacy : Bool) (x : Source) : indicatorOf privacy x =
    if privacy then .priv else if x.alert then .alert else if x.effMute then .muted
    else if x.floorState = some .opened ∨ isHold x.floorState = true ∨ x.floorState = some .last then .live
    else if x.floorState = some .pending then .waiting else .idle := by
  unfold indicatorOf
  refine if_congr Iff.rfl rfl (if_congr Iff.rfl rfl (if_congr Iff.rfl rfl ?_))
  cases x.floorState with
  | none => rfl
  | some f => cases f <;> rfl

/-- DARK where no ACTIVE source has the element for its origin. -/
theorem indicatorAt_dark {l : PodLink} {e : Element}
    (none_active : ∀ i : SrcSlot, s.srcs[i].state = .active → s.srcs[i].origin ≠ some (.pod l e)) :
    indicatorAt s l e = .dark := by
  unfold indicatorAt
  split
  next i found =>
    have holds := List.find?_some found
    obtain ⟨active, origin⟩ := Bool.and_eq_true_iff.mp holds
    exact absurd (beq_iff_eq.mp origin) (none_active i (isActive_iff.mp active))
  next => rfl

/-- Otherwise the code of the first such source. -/
theorem indicatorAt_first {l : PodLink} {e : Element} (active : s.srcs[i].state = .active)
    (origin : s.srcs[i].origin = some (.pod l e))
    (first : ∀ j : SrcSlot, j < i → s.srcs[j].state ≠ .active ∨ s.srcs[j].origin ≠ some (.pod l e)) :
    indicatorAt s l e = indicatorOf s.pods[l].privacy s.srcs[i] := by
  have holds : (s.srcs[i].isActive && s.srcs[i].origin == some (.pod l e)) = true := by
    rw [isActive_iff.mpr active, origin, Bool.true_and, beq_self_eq_true]
  have found : srcSlots.find? (fun i => s.srcs[i].isActive && s.srcs[i].origin == some (.pod l e)) = some i := by
    rw [List.find?_eq_some_iff_getElem]
    refine ⟨holds, i.val, by rw [srcSlots, List.length_finRange]; exact i.isLt, by simp [srcSlots], fun j below => ?_⟩
    have slot : j < 80 := by omega
    have there : srcSlots[j]'(by rw [srcSlots, List.length_finRange]; exact slot) = (⟨j, slot⟩ : SrcSlot) := by
      simp [srcSlots]
    rw [there, Bool.not_eq_true', ← Bool.not_eq_true, Bool.and_eq_true, isActive_iff, beq_iff_eq]
    exact not_and_or.mpr (first ⟨j, slot⟩ below)
  rw [indicatorAt, found]

theorem outHead_tag (s : State) (l : PodLink) : (outHead s l).tag = speakingTag s := rfl

theorem outHead_code (s : State) (l : PodLink) (e : Element) : (outHead s l).codes[e] = indicatorAt s l e := by
  rw [outHead, Fin.getElem_fin, Vector.getElem_ofFn]

/-- The "no feed" flag is on where no feed in use has the pod's speaker for its destination (R163). -/
theorem outHead_noFeed (s : State) (l : PodLink) : (outHead s l).noFeed = true ↔
    ∀ f : FeedSlot, s.feeds[f].state ≠ .free → s.feeds[f].dest ≠ some (.podSpk l) := by
  have flag : (outHead s l).noFeed = !destHeld s (.podSpk l) := rfl
  rw [flag, Bool.not_eq_true', ← Bool.not_eq_true, FeedAttach.destHeld_iff]
  push Not
  rfl

namespace BlockStart

open FarEnd

variable {p : Port}

/-- The watch and the delivery of one port slip where it enters DOWN or underflows (R178). -/
theorem start_slips (p : Port) : p.watch.2 = true ∨ p.watch.1.deliver.2 = true ↔
    p.state ≠ .down ∧ (p.seen = false ∧ 7 ≤ p.idle ∨ p.state = .running ∧ p.input = []) := by
  by_cases down : p.state = .down
  · rw [watch_down down, deliver_down down]
    exact ⟨fun slips => slips.elim nofun nofun, fun slips => absurd down slips.1⟩
  by_cases lost : p.seen = false ∧ 7 ≤ p.idle
  · rw [watch_lost down lost.1 lost.2]
    exact ⟨fun _ => ⟨down, .inl lost⟩, fun _ => .inl rfl⟩
  obtain ⟨idle, counted⟩ : ∃ idle, p.seen = true ∧ idle = 0 ∨ p.seen = false ∧ p.idle < 7 ∧ idle = p.idle + 1 := by
    cases seen : p.seen with
    | true => exact ⟨0, .inl ⟨rfl, rfl⟩⟩
    | false => exact ⟨_, .inr ⟨rfl, Nat.lt_of_not_le fun late => lost ⟨seen, late⟩, rfl⟩⟩
  rw [watch_kept down counted]
  refine (or_iff_right nofun).trans (Iff.trans ?_ ((and_iff_right down).trans (or_iff_right lost)).symm)
  exact deliver_slips _

/-- Settles O36: the watch of every port and then its delivery. -/
theorem mixBlockStartWatchesAndDrainsThePorts : Obligations.MixBlockStartWatchesAndDrainsThePorts := by
  unfold Obligations.MixBlockStartWatchesAndDrainsThePorts
  intro s aux
  refine ⟨startBlock aux s, rfl, fun p => ⟨fun down => ?down, fun up unseen late => ?lost, fun idle up counted =>
    ⟨fun priming => ?priming, fun running blocks => ?block, fun running empty => ?empty⟩⟩, ?slip⟩
  case down => rw [startBlock_port, watch_down down, deliver_down down]
  case lost =>
    rw [startBlock_port, watch_lost up unseen late, deliver_down rfl]
    rfl
  case priming =>
    rw [startBlock_port, watch_kept up counted]
    refine congrArg Prod.fst (deliver_priming ?_)
    exact priming
  case block =>
    rw [startBlock_port, watch_kept up counted]
    refine congrArg Prod.fst (deliver_block ?_ ?_)
    · exact running
    · exact blocks
  case empty =>
    rw [startBlock_port, watch_kept up counted]
    refine congrArg Prod.fst (deliver_empty ?_ ?_)
    · exact running
    · exact empty
  case slip =>
    have slip := startBlock_has aux s .slip
    have before := (worked_frame s).slip
    have some_port : (slipped (fun _ p => p.watch) s || slipped (fun _ p => p.watch.1.deliver) s) = true ↔
        ∃ p : FarPort, s.ports[p].state ≠ .down ∧
          (s.ports[p].seen = false ∧ 7 ≤ s.ports[p].idle ∨ s.ports[p].state = .running ∧ s.ports[p].input = []) := by
      rw [Bool.or_eq_true, slipped_iff, slipped_iff, ← exists_or]
      exact exists_congr fun p => start_slips _
    rw [← some_port]
    rw [beq_self_eq_true, Bool.and_true, Bool.and_true, Bool.or_assoc] at slip
    refine (Bool.eq_iff_iff.mp slip).trans (Bool.or_eq_true_iff.trans (or_congr ?_ Iff.rfl))
    exact Bool.eq_iff_iff.mp before

/-- Settles O35: each stage's rule in turn. -/
theorem mixBlockStartDeliversAndSteps : Obligations.MixBlockStartDeliversAndSteps := by
  unfold Obligations.MixBlockStartDeliversAndSteps
  intro s aux
  refine ⟨worked s, startBlock aux s, ?work, rfl, ?floor, fun i => ?src, fun f => ?feed, fun f i => ?xpRamp, fun l => ?pod, rfl,
    ⟨mixView (readied aux s), rfl, fun i => ?viewSrc, fun f => ?viewFeed, fun f i => ?viewXp⟩, ?notices, ?rest⟩
  case work =>
    by_cases pending : s.banks.swap = .swapPending
    · rw [if_pos pending]
      exact congrArg Host.Outcome.next ((if_pos pending).trans (if_pos pending).symm)
    · rw [if_neg pending]
      exact congrArg Host.Outcome.next (if_neg pending).symm
  case floor => rw [startBlock_readied, readBlock_floor, readied_floor]
  case src =>
    rw [startBlock_readied, readBlock_srcs, readied_src]
    refine ⟨rfl, rfl, fun free => if_neg fun used => Attach.srcInUse_iff.mp used free, fun used => ⟨fun l e origin => ?_,
      fun p origin => ?_, fun a origin => ?_⟩⟩
    · refine (if_pos (Attach.srcInUse_iff.mpr used)).trans ?_
      rw [origin, Option.map_some, blockFrom, (moved_shares (watched_rest s)).2.1, (worked_frame s).pods] <;> rfl
    · refine (if_pos (Attach.srcInUse_iff.mpr used)).trans ?_
      rw [origin, Option.map_some, blockFrom, watched_port, given_watched]
    · refine (if_pos (Attach.srcInUse_iff.mpr used)).trans ?_
      rw [origin, Option.map_some, blockFrom]
  case feed => rw [startBlock_readied, readBlock_feeds, readied_feed]
  case xpRamp =>
    rw [startBlock_readied, readBlock_xpRamps, readied_xpRamp]
    refine ⟨fun bare => by rw [bare]; rfl, fun r ramp => ⟨fun left => ?_, fun used => ?_⟩⟩
    · rw [ramp]
      exact congrArg some (if_pos left)
    · rw [ramp]
      exact congrArg some (if_neg (Nat.not_lt.mpr used))
  case pod =>
    have there : (startBlock aux s).pods[l] = { s.pods[l] with holding := none, head := outHead (readied aux s) l } := by
      rw [startBlock_readied, readBlock_pod, readied_pod]
    rw [there]
    dsimp only
    refine ⟨rfl, ?noFeed, ?tag, fun e => ⟨fun none_active => ?dark, fun i active origin first => ?code⟩⟩
    case noFeed =>
      rw [outHead_noFeed]
      simp only [readied_feed]
    case tag => simp only [outHead_tag, speakingTag, State.floorState, readied_floor, readied_floorState]
    case dark =>
      rw [outHead_code]
      refine indicatorAt_dark fun i active => ?_
      rw [readied_state] at active
      rw [readied_origin]
      exact none_active i active
    case code =>
      rw [outHead_code, indicatorAt_first (i := i), indicatorOf_eq, readied_pod, readied_alert, readied_effMute,
        readied_floorState]
      · rw [readied_state]
        exact active
      · rw [readied_origin]
        exact origin
      · intro j below
        rw [readied_state, readied_origin]
        exact first j below
  case viewSrc =>
    have there : (mixView (readied aux s)).srcs[i] = viewSrc (readied aux s).srcs[i] := by
      rw [mixView, Fin.getElem_fin, Vector.getElem_ofFn]
    rw [there, startBlock_readied, readBlock_srcs]
    rw [viewSrc_eq, readied_state, readied_origin, readied_groups]
  case viewFeed =>
    have there : (mixView (readied aux s)).feeds[f] = viewFeed (readied aux s).feeds[f] := by
      rw [mixView, Fin.getElem_fin, Vector.getElem_ofFn]
    rw [there, startBlock_readied, readBlock_feeds, viewFeed_eq, readied_feed]
  case viewXp =>
    have there : (mixView (readied aux s)).xp[f][i]
        = usedCrosspoint (readied aux s).banks.opBank.xp[f][i] (readied aux s).xpRamps[f][i] := by
      rw [mixView, matrix_ofFn_at]
    rw [there, startBlock_readied, readBlock_xpRamps, readied_banks]
    cases (readied aux s).xpRamps[f][i] <;> rfl
  case rest =>
    have read := readBlock_rest (readied aux s)
    have stepped := stepRamps_rest (deliver aux (watched s))
    rw [startBlock_readied]
    exact stages_rest read stepped (deliver_rest aux (watched s)) (watched_rest s)
  case notices =>
    refine ⟨fun k other => ?_, startBlock_mask aux s⟩
    have notSlip : (k == NoticeKind.slip) = false := beq_eq_false_iff_ne.mpr fun same => other (same ▸ List.mem_cons_self)
    rw [startBlock_has, notSlip, Bool.and_false, Bool.and_false, Bool.or_false, Bool.or_false]

end BlockStart

end Sys2Proof.Machine
end

section
/-! Proofs for O54: what ENGINE.RESET leaves, and what the blocks after it give. -/

namespace Sys2Proof.Machine

variable {s t : State}

/-- The part after an ENGINE.RESET taken in `s`, its receive state and error set apart (R197). -/
structure Returned (s t : State) : Prop where
  blank : Blank t
  floor : t.floor = ⟨[], [], [], [], 0⟩
  mute : t.mute = ⟨0, false⟩
  notice : t.notice = .reset
  pods : ∀ l : PodLink, t.pods[l] = s.pods[l].engineReset
  ports : ∀ p : FarPort, t.ports[p] = s.ports[p].engineReset
  auxOut : t.auxOut = s.auxOut
  mix : t.mix = none
  idle : s.mix = none → t.outputsDue = s.outputsDue
  cut : ∀ v, s.mix = some v → t.outputsDue = some (outputsOf v)

theorem engineReset_returned (s : State) : Returned s (engineReset s) where
  blank := engineReset_blank s
  floor := rfl
  mute := rfl
  notice := rfl
  pods := engineReset_pod s
  ports := engineReset_port s
  auxOut := engineReset_auxOut s
  mix := engineReset_mix s
  idle idle := by rw [engineReset_outputsDue, idle]
  cut v mixing := by rw [engineReset_outputsDue, mixing]

namespace Returned

/-- The receive state and the error set are no part of it. -/
theorem withCtl (h : Returned s t) (c : ControlLink) : Returned s (t.withCtl c) :=
  ⟨⟨h.blank.srcs, h.blank.feeds, h.blank.list, h.blank.chairs, h.blank.delegates, h.blank.stamps, h.blank.banks,
    h.blank.xpRamps⟩, h.floor, h.mute, h.notice, h.pods, h.ports, h.auxOut, h.mix, h.idle, h.cut⟩

/-- Nor is what a packet's start leaves before it. -/
theorem of_openPacket (h : Returned (openPacket s) t) : Returned s t where
  blank := h.blank
  floor := h.floor
  mute := h.mute
  notice := h.notice
  pods l := by rw [h.pods, openPacket_pods]
  ports p := by rw [h.ports, openPacket_ports]
  auxOut := by rw [h.auxOut, openPacket_auxOut]
  mix := h.mix
  idle idle := by rw [h.idle (by rw [openPacket_mix]; exact idle), openPacket_outputsDue]
  cut v mixing := h.cut v (by rw [openPacket_mix]; exact mixing)

variable (h : Returned s t)
include h

theorem output (p : FarPort) : t.ports[p].output = [] := by
  rw [h.ports]
  rfl

theorem primed (p : FarPort) : t.ports[p].primed = false := by
  rw [h.ports]
  rfl

theorem down_iff (p : FarPort) : t.ports[p].state = .down ↔ s.ports[p].state = .down := by
  rw [h.ports, Port.engineReset]
  dsimp only
  split
  next down => exact ⟨fun _ => down, fun _ => rfl⟩
  next up => exact ⟨nofun, fun down => absurd down up⟩

/-! ### The feeds formed after it (R163, R176, R181) -/

theorem given_port (o : BlockOutputs) (p : FarPort) : (giveOutputs o t).ports[p] = { t.ports[p] with
    output := if s.ports[p].state ≠ .down then [o.far[p]] else [] } := by
  obtain ⟨down, room, -⟩ := giveOutputs_table o t p
  have empty := h.output p
  have unprimed := h.primed p
  have state := h.down_iff p
  generalize t.ports[p] = q at *
  by_cases isDown : s.ports[p].state = .down
  · rw [down (state.mpr isDown), if_neg (not_not.mpr isDown), ← empty]
  · rw [room (fun down => isDown (state.mp down)) (by rw [empty]; exact Nat.zero_lt_succ _), if_pos isDown, empty]
    have same : (q.primed || decide (1 ≤ ([] : List Block).length)) = q.primed := by rw [unprimed]; rfl
    exact congrArg (fun b => { q with output := [o.far[p]], primed := b }) same

theorem given_notice (o : BlockOutputs) : (giveOutputs o t).notice = t.notice := by
  have quiet : slipped (fun p r => r.write o.far[p]) (framesSent o t) = false := by
    rw [← Bool.not_eq_true, slipped_iff]
    rintro ⟨p, slips⟩
    have full := ((write_slips t.ports[p] o.far[p]).mp slips).2
    rw [h.output] at full
    exact absurd full (by decide)
  rw [giveOutputs_eq, movePorts_notice]
  exact if_neg (by rw [Bool.not_eq_true]; exact quiet)

theorem given_rest (o : BlockOutputs) : { giveOutputs o t with
    pods := t.pods, ports := t.ports, auxOut := t.auxOut, outputsDue := t.outputsDue } = t := by
  have rest := giveOutputs_rest t o
  have mix := giveOutputs_mix o t
  have notice := h.given_notice o
  have idle := h.mix
  generalize giveOutputs o t = u at *
  rw [idle, ← mix, ← notice] at rest
  exact rest

/-! ### The first block after it (R163) -/

theorem worked_eq : worked t = advanced t := by
  have settled : (advanced t).banks.swap ≠ .swapPending := by
    have banks : (advanced t).banks = .reset := h.blank.banks
    rw [banks]
    nofun
  have undue : ¬ stampDue (advanced t) = true := by
    have stamps : (advanced t).floor.stamps = [] := h.blank.stamps
    rw [stampDue, stamps]
    nofun
  rw [worked, startWork, if_neg settled, stampService, if_neg undue]

theorem first_block (aux : Vector Block 8) : (startBlock aux t).floor.block = 1 := by
  have block : (worked t).floor.block = t.floor.block + 1 := by rw [h.worked_eq]; rfl
  rw [startBlock_readied, readBlock_floor, readied_floor, block, h.floor]
  rfl

theorem first_feeds (aux : Vector Block 8) {v : MixView} (reads : (startBlock aux t).mix = some v) (f : FeedSlot) :
    v.feeds[f] = none := by
  obtain rfl : mixView (readied aux t) = v := Option.some.inj reads
  have there : (mixView (readied aux t)).feeds[f] = viewFeed (readied aux t).feeds[f] := by
    rw [mixView, Fin.getElem_fin, Vector.getElem_ofFn]
  rw [there, viewFeed_eq, readied_feed, h.blank.feeds]
  rfl

theorem first_head (aux : Vector Block 8) (l : PodLink) : (startBlock aux t).pods[l].head.noFeed = true ∧
    (startBlock aux t).pods[l].head.tag = none ∧ ∀ e : Element, (startBlock aux t).pods[l].head.codes[e] = .dark := by
  have head : (startBlock aux t).pods[l].head = outHead (readied aux t) l := by rw [startBlock_readied, readBlock_pod]
  have list : (readied aux t).floor.list = [] := by rw [readied_floor, h.worked_eq]; exact h.blank.list
  rw [head]
  refine ⟨(outHead_noFeed _ l).mpr fun f used => ?_, ?_, fun e => ?_⟩
  · rw [readied_feed, h.blank.feeds] at used
    exact absurd rfl used
  · rw [outHead_tag, speakingTag, list]
    rfl
  · rw [outHead_code]
    refine indicatorAt_dark fun i active => ?_
    rw [readied_state, h.blank.srcs] at active
    cases active

end Returned

namespace EngineReset

/-- The part as an ENGINE.RESET with the answer-wanted flag clear leaves it (R197, R198). -/
def left (s : State) : State := (engineReset (openPacket s)).withCtl ⟨.idle, .none⟩

theorem left_returned (s : State) : Returned s (left s) :=
  ((engineReset_returned (openPacket s)).withCtl _).of_openPacket

theorem exec_engineReset (ho : hostOwnsLine s) : exec .engineReset s = .next (left s) :=
  congrArg Host.Outcome.next (hostPacket_owned ho)

theorem engineReset_ctl (s : State) : (engineReset s).ctl = s.ctl := by
  have cut : (cutBlock s).ctl = s.ctl := by
    unfold cutBlock
    split <;> rfl
  rw [← cut]
  generalize hc : cutBlock s = u
  rw [engineReset, hc]
  rfl

theorem withCtl_ctl (s : State) (c : ControlLink) : (s.withCtl c).ctl = c := rfl

theorem exec_mixBlockStart (aux : Vector Block 8) (t : State) : exec (.mixBlockStart aux) t = .next (startBlock aux t) := rfl

/-- With the flag set the answer is owed, and the kinds standing are kept for it (R198). -/
theorem runAll_engineReset (ho : hostOwnsLine s) : runAll (packetOf true .engineReset) s = .next { left s with ctl :=
    { rx := .owed 0x5F { Reply.plain with engineReset := true }, errors := (written s).ctl.errors } } := by
  have errors : (written s).ctl.errors = (engineReset (openPacket s)).ctl.errors := by rw [engineReset_ctl]; rfl
  rw [runAll_packetOf (cmd := .engineReset) rfl ho, errors]
  rfl

/-- Settles O54: the records of R197, and the blocks given and begun after it. -/
theorem engineResetReturnsThePart : Obligations.EngineResetReturnsThePart := by
  unfold Obligations.EngineResetReturnsThePart
  intro s ho
  have h := left_returned s
  have exec := exec_engineReset ho
  have owing := runAll_engineReset ho
  have ctl : (left s).ctl = ⟨.idle, .none⟩ := withCtl_ctl _ _
  generalize left s = t at h exec owing ctl
  refine ⟨t, exec, congrArg ControlLink.rx ctl, fun k => ?errors, owing, h.blank.srcs, h.blank.feeds, h.blank.xpRamps,
    h.floor, h.mute, ?operating, ?swap, ?cursor, ?window, fun n => ?bank, h.pods, h.ports, fun k => ?set, fun k => ?mask, ?line,
    h.auxOut, h.mix, h.idle, fun v mixing => ⟨_, h.cut v mixing, outputsOf_pods v, outputsOf_far v, outputsOf_aux v⟩,
    fun spent => congrArg Host.Outcome.next (feedsFormed_none h.mix spent), fun o due => ?given, fun mixing => ?same,
    fun aux => ?first⟩
  case errors => rw [ctl]; cases k <;> rfl
  case operating => rw [h.blank.banks]; rfl
  case swap => rw [h.blank.banks]; rfl
  case cursor => rw [h.blank.banks]; rfl
  case window => rw [h.blank.banks]; rfl
  case bank =>
    have default : t.banks.bank n = .default := by rw [h.blank.banks]; cases n <;> rfl
    rw [default]
    exact ⟨rfl, fun f i => matrix_const_at ..⟩
  case set => rw [h.notice]; cases k <;> rfl
  case mask => rw [h.notice]; cases k <;> rfl
  case line => rw [h.notice]; rfl
  case given =>
    refine ⟨giveOutputs o t, congrArg Host.Outcome.next (feedsFormed_cut h.mix due), fun l => ?_, fun a => ?_,
      h.given_port o, giveOutputs_outputsDue o t, h.given_rest o⟩
    · rw [giveOutputs_pod, OutHead.frame, h.pods]
      rfl
    · rw [giveOutputs_auxOut]
  case same =>
    obtain ⟨v, reading⟩ := Option.ne_none_iff_exists'.mp mixing
    refine ⟨_, _, congrArg Host.Outcome.next (feedsFormed_some reading),
      congrArg Host.Outcome.next (feedsFormed_cut h.mix (h.cut v reading)), ?_, fun l => ?_⟩
    · rw [giveOutputs_auxOut, formFeeds_auxOut]
    · rw [giveOutputs_pod, formFeeds_eq, giveOutputs_pod, clipsCounted_pods, h.pods]
      rfl

  case first =>
    have start := exec_mixBlockStart aux t
    have block := h.first_block aux
    have feeds := fun v => @Returned.first_feeds _ _ h aux v
    have heads := h.first_head aux
    generalize startBlock aux t = u at start block feeds heads
    exact ⟨u, start, block, feeds, heads⟩

end EngineReset

end Sys2Proof.Machine
end

section
/-! The end of an event as the statements name it, and the proof for O37: stamps and holds that expire. -/

namespace Sys2Proof.Machine

variable {s t u : State} {i j : SrcSlot}

/-! ### The end of an event (R76, R80) -/

theorem collectionsMoved_iff : collectionsMoved s u = true ↔
    u.floor.list ≠ s.floor.list ∨ u.floor.chairs ≠ s.floor.chairs ∨ u.floor.delegates ≠ s.floor.delegates := by
  simp only [collectionsMoved, Bool.or_eq_true, bne_iff_ne, or_assoc]

/-- FLOOR judged against the beginning of the event (R80). -/
theorem noteFloor_noticed (same : u.notice.set.floor = s.notice.set.floor) :
    (noteFloor s u).notice.set.floor = true ↔ s.notice.set.floor = true ∨ u.floor.list ≠ s.floor.list ∨
      u.floor.chairs ≠ s.floor.chairs ∨ u.floor.delegates ≠ s.floor.delegates := by
  have noted : (noteFloor s u).notice.set.floor = (u.notice.set.floor || collectionsMoved s u && true) :=
    noteFloor_has s u .floor
  rw [noted, Bool.and_true, Bool.or_eq_true, same, collectionsMoved_iff]

theorem finishEvent_noticed (same : u.notice.set.floor = s.notice.set.floor) : FloorNoticed s (finishEvent s u) := by
  rw [FloorNoticed, finishEvent_notice, finishEvent_floor]
  exact noteFloor_noticed same

theorem onlyNotices_refl (ks : List NoticeKind) (s : State) : OnlyNotices ks s s := ⟨fun _ _ => rfl, rfl⟩

theorem OnlyNotices.of_notice {ks : List NoticeKind} (h : t.notice = s.notice) : OnlyNotices ks s t :=
  ⟨fun _ _ => by rw [h], by rw [h]⟩

/-- The end of an event adds no notice but FLOOR. -/
theorem finishEvent_only {ks : List NoticeKind} (named : .floor ∈ ks) (h : OnlyNotices ks s u) :
    OnlyNotices ks s (finishEvent s u) := by
  obtain ⟨kinds, mask⟩ := h
  refine ⟨fun k other => ?_, ?_⟩ <;> rw [finishEvent_notice]
  · rw [noteFloor_other s u fun e : k = .floor => other (e ▸ named)]
    exact kinds k other
  · rw [noteFloor_mask]
    exact mask

/-- Nor does it change anything else than sources and notices. -/
theorem finishEvent_over (h : { u with srcs := s.srcs, floor := s.floor, notice := s.notice } = s) :
    { finishEvent s u with srcs := s.srcs, floor := s.floor, notice := s.notice } = s := by
  have finished := finishEvent_rest s u
  generalize finishEvent s u = v at finished ⊢
  rw [← finished] at h
  exact h

/-- An event that hands no source on and moves no collection ends as it stands. -/
theorem finishEvent_still (still : ∀ i : SrcSlot, ¬ HandsOn s u i) (unmoved : collectionsMoved s u = false) :
    finishEvent s u = u := by
  have noted : noteFloor s u = u := if_neg (by rw [← collectionsMoved, unmoved]; nofun)
  have srcs : (finishEvent s u).srcs = u.srcs := Vector.ext fun k hk => by
    have same := finishEvent_src s u ⟨k, hk⟩
    rw [if_neg fun hands => still _ ((handedOn_iff s u _).mp hands)] at same
    exact same
  rw [finishEvent, noted] at srcs ⊢
  rw [State.mapSrcs] at srcs ⊢
  exact congrArg (fun v => { u with srcs := v }) srcs

/-- A source whose mute and gate stand, under a NOM count that stands, is not handed on. -/
theorem not_handsOn (mute : u.srcs[i].effMute = s.srcs[i].effMute) (count : u.floor.list.length = s.floor.list.length)
    (gate : gateShut u.srcs[i] ↔ gateShut s.srcs[i]) : ¬ HandsOn s u i := by
  rintro ⟨-, mutes | ⟨-, counts | gates⟩⟩
  exacts [mutes mute, counts count, gates gate]

/-- What an event leaves whose work is the floor's alone (R76, R80, R103). -/
structure FloorEnd (s t : State) : Prop where
  noticed : FloorNoticed s t
  only : OnlyNotices [.floor] s t
  srcs : ∀ i : SrcSlot, t.srcs[i] = s.srcs[i].withFloorOf t.srcs[i] ∧ GainFollows s t i
  rest : { t with srcs := s.srcs, floor := s.floor, notice := s.notice } = s

theorem eq_withFloorOf {x y z : Source} (gain : z = { y with gain := z.gain })
    (state : y = { x with floorState := y.floorState }) : z = x.withFloorOf z := by
  rw [gain, state]
  rfl

theorem FloorFrame.finish (frame : FloorFrame s u) : FloorEnd s (finishEvent s u) where
  noticed := finishEvent_noticed (by rw [frame.notice])
  only := finishEvent_only List.mem_cons_self (.of_notice frame.notice)
  srcs i := ⟨eq_withFloorOf (finishEvent_src_frame s u i) (frame.srcs i), finishEvent_gain s i (by rw [frame.srcs i])⟩
  rest := finishEvent_over (congrArg (fun v : State => { v with notice := s.notice }) frame.rest :)

theorem finishEvent_sameFloor (s u : State) : SameFloor u (finishEvent s u) := (finishEvent_alike s u).sameFloor

/-- Where the places are lawful, the end of an event leaves a service made behind it made (R65). -/
theorem finishEvent_served (s : State) (law : PlacesLaw u) : QueueServed (finishEvent s (pendingService u)) :=
  (finishEvent_alike s _).queueServed (Service.pendingService_served law)

theorem pendingService_empty (chairs : s.floor.chairs = []) (delegates : s.floor.delegates = []) :
    pendingService s = s :=
  Service.pendingService_idle (by rw [Service.queueHead_eq, chairs, delegates]; rfl)

namespace Expiry

/-! ### Stamps that expire (R59, R77) -/

theorem stampDue_iff : stampDue s = true ↔
    ∃ t ∈ s.floor.stamps, t.live = true ∧ s.params.admitWindow ≤ (s.floor.block - t.block).toNat := by
  simp only [stampDue, stampExpired, List.any_eq_true, Bool.and_eq_true, decide_eq_true_eq]
  exact Iff.rfl

theorem expireStamps_eq (s : State) : expireStamps s = { s with floor := { s.floor with
    stamps := s.floor.stamps.map fun t =>
      ⟨t.block, t.live && decide ((s.floor.block - t.block).toNat < s.params.admitWindow)⟩ } } := by
  have stamp (t : Stamp) : (if stampExpired s t then { t with live := false } else t : Stamp)
      = ⟨t.block, t.live && decide ((s.floor.block - t.block).toNat < s.params.admitWindow)⟩ := by
    obtain ⟨block, live⟩ := t
    cases live with
    | false => exact ite_self _
    | true =>
      by_cases due : s.params.admitWindow ≤ (s.floor.block - block).toNat
      · rw [stampExpired, stampAge, decide_eq_true due, decide_eq_false (Nat.not_lt.mpr due)]
        rfl
      · rw [stampExpired, stampAge, decide_eq_false due, decide_eq_true (Nat.not_le.mp due)]
        rfl
  rw [expireStamps, funext stamp]

theorem stampService_due (due : stampDue s = true) : stampService s = finishEvent s (pendingService (expireStamps s)) :=
  if_pos due

/-- With the queue empty the stamps are all that moves. -/
theorem stampService_empty (due : stampDue s = true) (chairs : s.floor.chairs = []) (delegates : s.floor.delegates = []) :
    stampService s = expireStamps s := by
  have served : pendingService (expireStamps s) = expireStamps s := pendingService_empty chairs delegates
  rw [stampService_due due, served]
  refine finishEvent_still (fun i => not_handsOn rfl rfl Iff.rfl) ?_
  rw [← Bool.not_eq_true, collectionsMoved_iff]
  rintro (h | h | h) <;> exact h rfl

/-! ### A hold that expires (R67, R69) -/

theorem exec_holdExpiry_idle (h : s.srcs[i].state ≠ .active ∨ s.srcs[i].floorClass = false ∨
    s.srcs[i].floorState ≠ some (.hold 0)) : exec (.holdExpiry i) s = .next s := by
  refine congrArg Host.Outcome.next (if_neg fun acts => ?_)
  simp only [Bool.and_eq_true, isActive_iff, State.floorState, beq_iff_eq] at acts
  obtain ⟨⟨active, bound⟩, state⟩ := acts
  obtain h | h | h := h
  · exact h active
  · rw [bound] at h; cases h
  · exact h state

theorem exec_holdExpiry (active : s.srcs[i].state = .active) (bound : s.srcs[i].floorClass = true)
    (state : s.srcs[i].floorState = some (.hold 0)) : exec (.holdExpiry i) s = .next (holdExpiry i s) := by
  refine congrArg Host.Outcome.next (if_pos ?_)
  simp only [Bool.and_eq_true, isActive_iff, State.floorState, beq_iff_eq]
  exact ⟨⟨active, bound⟩, state⟩

/-- The one member of the floor becomes LAST, and nothing follows. -/
theorem holdExpiry_last (state : s.srcs[i].floorState = some (.hold 0))
    (expires : expireHold i s = (s.setFloorState i .last, false)) : holdExpiry i s = s.setFloorState i .last := by
  rw [holdExpiry, expires]
  refine finishEvent_still (u := s.setFloorState i .last) (fun j => not_handsOn ?_ rfl ?_) ?_
  · rw [(setFloorState_frame i .last s).srcs j]
  · rw [gateShut, gateShut, floorState_set .last (setFloorState_srcs_eq i .last s)]
    split
    next e => rw [e, state]; simp
    next => exact Iff.rfl
  · rw [← Bool.not_eq_true, collectionsMoved_iff]
    rintro (h | h | h) <;> exact h rfl

theorem holdExpiry_closed (expires : expireHold i s = (closeSource i s, true)) :
    holdExpiry i s = finishEvent s (pendingService (closeSource i s)) := by
  rw [holdExpiry, expires]
  rfl

theorem closed_frame (i : SrcSlot) (s : State) : FloorFrame s (pendingService (closeSource i s)) :=
  (closeSource_frame i s).trans (pendingService_frame _)

/-- A source of the floor that is closed is off the floor after the service behind it. -/
theorem closed_off (law : PlacesLaw s) (h : OfFloor s i) : (pendingService (closeSource i s)).srcs[i].floorState = some .closed ∧
    ¬ Inside (pendingService (closeSource i s)) i := by
  have places := closeSource_places law h
  have served := pendingService_work places
  have closed : (closeSource i s).srcs[i].floorState = some .closed := by
    rw [floorState_set .closed (closeSource_srcs i s), if_pos rfl]
  have stays := served.closed places closed id
  exact ⟨stays, served.places.outside_of_closed stays⟩

/-- Settles O37: the stamps that are due and the hold at 0, with the service behind them. -/
theorem stampExpiryAndHoldExpiry : Obligations.StampExpiryAndHoldExpiry := by
  unfold Obligations.StampExpiryAndHoldExpiry
  refine fun s => ⟨fun young => ?idle, fun w due h => ?stamps, fun i => ⟨exec_holdExpiry_idle, fun active bound state => ⟨?last, ?leaves⟩⟩⟩
  case idle =>
    refine congrArg Host.Outcome.next (if_neg fun due => ?_)
    obtain ⟨t, stands, live, old⟩ := stampDue_iff.mp due
    exact absurd (young t stands live) (Nat.not_lt.mpr old)
  case stamps =>
    have due := stampDue_iff.mpr due
    obtain rfl : w = expireStamps s := h.trans (expireStamps_eq s).symm
    have ends := ((expireStamps_frame s).trans (pendingService_frame (expireStamps s))).finish
    have block := (pendingService_frame (expireStamps s)).block
    refine ⟨stampService s, rfl, ?_, ?_, stampService_empty due, fun law => ?_, ?_⟩ <;> rw [stampService_due due]
    · exact finishEvent_sameFloor _ _
    · rw [finishEvent_floor]
      exact block
    · exact finishEvent_served s (expireStamps_work law.places).places
    · exact ⟨ends.noticed, ends.only, ends.srcs, ends.rest⟩
  case last =>
    intro lastMic alone chairs delegates
    obtain ⟨-, e⟩ | ⟨other, -⟩ := expireHold_eq i s
    · rw [exec_holdExpiry active bound state, holdExpiry_last state e]
      rfl
    · exact absurd ⟨lastMic, alone, chairs, delegates⟩ other
  case leaves =>
    intro other w h
    obtain rfl : w = closeSource i s := h
    have ends := (closed_frame i s).finish
    obtain ⟨⟨lastMic, alone, chairs, delegates⟩, -⟩ | ⟨-, e⟩ := expireHold_eq i s
    · rw [lastMic, alone, chairs, delegates] at other
      simp at other
    rw [exec_holdExpiry active bound state, holdExpiry_closed e]
    refine ⟨_, rfl, finishEvent_sameFloor _ _, fun law => ?_, ends.noticed, ends.only, ends.srcs, ends.rest⟩
    have ofFloor : OfFloor s i := ⟨isActive_iff.mpr active, bound⟩
    obtain ⟨closed, off⟩ := closed_off law.places ofFloor
    have member : i ∈ s.floor.list := (law.places.mem_list_iff ofFloor).mpr (by rw [state]; rfl)
    obtain ⟨list, chairs, delegates⟩ : i ∉ (pendingService (closeSource i s)).floor.list ∧
        i ∉ (pendingService (closeSource i s)).floor.chairs ∧ i ∉ (pendingService (closeSource i s)).floor.delegates := by
      simpa only [Inside, not_or] using off
    have moved : (pendingService (closeSource i s)).floor.list ≠ s.floor.list := fun same => list (same ▸ member)
    refine ⟨?_, ?_, ?_, ?_, finishEvent_served s (closeSource_places law.places ofFloor), ends.noticed.mpr ?_⟩
    · rw [(finishEvent_sameFloor s _).2]
      exact closed
    all_goals rw [finishEvent_floor]
    exacts [list, chairs, delegates, .inr (.inl moved)]

end Expiry

end Sys2Proof.Machine
end

section
/-! Proof for O40: what a measurement moves of a source's level fields. -/

namespace Sys2Proof.Machine

variable {s t u : State} {i j : SrcSlot} {p : Params} {x : Source}

/-! ### The level part (R22 to R30) -/

theorem moveLevel_up {level n : Nat} (h : n < 8 * level) :
    moveLevel p level n = n + max 1 ((8 * level - n) / 2 ^ p.attackShift) := if_pos h

theorem moveLevel_down {level n : Nat} (h : 8 * level < n) :
    moveLevel p level n = n - max 1 ((n - 8 * level) / 2 ^ p.releaseShift) :=
  (if_neg h.le.not_gt).trans (if_pos h)

theorem moveLevel_stays {level n : Nat} (h : n = 8 * level) : moveLevel p level n = n :=
  (if_neg h.ge.not_gt).trans (if_neg h.le.not_gt)

theorem moveNoise_falls (h : x.s < x.n) : moveNoise p x = { x with n := x.s, creep := 0 } := if_pos h

theorem moveNoise_creeps (h : x.n < x.s) (quiet : x.voice = .quiet) :
    moveNoise p x = creepRise p { x with creep := x.creep + 1 } :=
  (if_neg h.le.not_gt).trans (if_pos (by rw [quiet, decide_eq_true h]; rfl))

theorem moveNoise_stays (h : x.n = x.s ∨ x.n < x.s ∧ x.voice = .voiced) : moveNoise p x = x := by
  obtain h | ⟨h, voiced⟩ := h
  · exact (if_neg h.le.not_gt).trans (if_neg (by rw [decide_eq_false h.ge.not_gt, Bool.and_false]; nofun))
  · exact (if_neg h.le.not_gt).trans (if_neg (by rw [voiced]; nofun))

theorem decideVoice_quiet (quiet : x.voice = .quiet) :
    decideVoice p x = .voiced ↔ x.n + 8 * p.margin ≤ x.s ∧ 8 * p.voiceFloor ≤ x.s := by
  rw [decideVoice, quiet]
  dsimp only
  split <;> simp [*]

theorem decideVoice_voiced (voiced : x.voice = .voiced) :
    decideVoice p x = .quiet ↔ x.s < x.n + 8 * (p.margin - p.hysteresis) ∨ x.s < 8 * p.voiceFloor := by
  rw [decideVoice, voiced]
  dsimp only
  split <;> simp [*]

/-- S and N moved, the voice state not yet decided anew (R22 to R24). -/
def estimated (p : Params) (level : Nat) (x : Source) : Source := moveNoise p { x with s := moveLevel p level x.s }

theorem estimated_frame (p : Params) (level : Nat) (x : Source) : estimated p level x = { x with
    s := moveLevel p level x.s, n := (estimated p level x).n, creep := (estimated p level x).creep } := by
  rw [estimated, moveNoise_frame]

theorem measureLevel_eq (p : Params) (level : Nat) (x : Source) : measureLevel p level x =
    moveTwm p x.voice { estimated p level x with voice := decideVoice p (estimated p level x) } := rfl

theorem measureLevel_estimates (p : Params) (level : Nat) (x : Source) :
    (measureLevel p level x).s = moveLevel p level x.s ∧ (measureLevel p level x).n = (estimated p level x).n ∧
      (measureLevel p level x).creep = (estimated p level x).creep ∧
      (measureLevel p level x).voice = decideVoice p (estimated p level x) := by
  rw [measureLevel_eq, moveTwm_frame, estimated_frame]
  exact ⟨rfl, rfl, rfl, rfl⟩

/-- N and the creep count follow S under the voice state as it stood (R23, R24). -/
theorem measureLevel_noise (p : Params) (level : Nat) (x : Source) {y : Source} (h : measureLevel p level x = y) :
    (y.s < x.n → y.n = y.s ∧ y.creep = 0) ∧
    (x.n = y.s ∨ x.n < y.s ∧ x.voice = .voiced → y.n = x.n ∧ y.creep = x.creep) ∧
    (x.n < y.s → x.voice = .quiet →
      (p.creepBlocks ≤ x.creep + 1 → y.n = x.n + 1 ∧ y.creep = 0) ∧
      (x.creep + 1 < p.creepBlocks → y.n = x.n ∧ y.creep = x.creep + 1)) := by
  obtain ⟨s_eq, n_eq, creep_eq, -⟩ := measureLevel_estimates p level x
  rw [← h, s_eq, n_eq, creep_eq, estimated]
  generalize moveLevel p level x.s = v
  refine ⟨fun low => ?_, fun same => ?_, fun high quiet => ⟨fun full => ?_, fun less => ?_⟩⟩
  · rw [moveNoise_falls (x := { x with s := v }) low]
    exact ⟨rfl, rfl⟩
  · rw [moveNoise_stays (x := { x with s := v }) same]
    exact ⟨rfl, rfl⟩
  all_goals rw [moveNoise_creeps (x := { x with s := v }) high quiet, creepRise]
  · rw [if_pos full]
    exact ⟨rfl, rfl⟩
  · rw [if_neg (Nat.not_le.mpr less)]
    exact ⟨rfl, rfl⟩

/-- The voice state is decided from the new S and N (R25, R26). -/
theorem measureLevel_voice (p : Params) (level : Nat) (x : Source) {y : Source} (h : measureLevel p level x = y) :
    (x.voice = .quiet → (y.voice = .voiced ↔ y.n + 8 * p.margin ≤ y.s ∧ 8 * p.voiceFloor ≤ y.s)) ∧
    (x.voice = .voiced →
      (y.voice = .quiet ↔ y.s < y.n + 8 * (p.margin - p.hysteresis) ∨ y.s < 8 * p.voiceFloor)) := by
  obtain ⟨s_eq, n_eq, -, voice_eq⟩ := measureLevel_estimates p level x
  have frame := estimated_frame p level x
  have old : (estimated p level x).voice = x.voice := by rw [frame]
  have level_eq : (estimated p level x).s = y.s := by rw [← h, s_eq, frame]
  have noise_eq : (estimated p level x).n = y.n := by rw [← h, n_eq]
  rw [← h, voice_eq, h, ← level_eq, ← noise_eq, ← old]
  exact ⟨decideVoice_quiet, decideVoice_voiced⟩

/-- The talk-while-muted count and ALERT follow under the new voice state (R28 to R30). -/
theorem measureLevel_twm (p : Params) (level : Nat) (x : Source) {y : Source} (h : measureLevel p level x = y) :
    (x.voice = .voiced → y.voice = .quiet → y.twm = 0 ∧ y.alert = false) ∧
    (x.state = .active → y.voice = .voiced → x.effMute = true → x.alert = false →
      y.twm = x.twm + 1 ∧ y.twmRose = false ∧ (y.alert = true ↔ p.twmBlocks ≤ x.twm + 1)) ∧
    (¬ (x.voice = .voiced ∧ y.voice = .quiet) →
      x.state ≠ .active ∨ y.voice = .quiet ∨ x.effMute = false ∨ x.alert = true →
      y.twm = x.twm ∧ y.alert = x.alert) ∧
    (x.twmRose = false → y.twmRose = false) := by
  obtain ⟨-, -, -, voice_eq⟩ := measureLevel_estimates p level x
  rw [h] at voice_eq
  have frame := estimated_frame p level x
  rw [measureLevel_eq, ← voice_eq] at h
  have twm : (estimated p level x).twm = x.twm := by rw [frame]
  have alert : (estimated p level x).alert = x.alert := by rw [frame]
  have rose : (estimated p level x).twmRose = x.twmRose := by rw [frame]
  have mute : (estimated p level x).effMute = x.effMute := by rw [frame]
  have state : (estimated p level x).state = x.state := by rw [frame]
  generalize estimated p level x = e at h twm alert rose mute state
  have cases := moveTwm_cases p x.voice { e with voice := y.voice }
  rw [h] at cases
  simp only [Source.isActive, beq_iff_eq, state, mute, alert, twm] at cases
  obtain ⟨loud, quiet, eq⟩ | ⟨⟨active, voiced, muted, silent⟩, eq⟩ | ⟨notFallen, notRisen, eq⟩ := cases
  · exact ⟨fun _ _ => ⟨congrArg Source.twm eq, congrArg Source.alert eq⟩, fun _ loud => absurd (quiet.symm.trans loud) nofun,
      fun kept => absurd ⟨loud, quiet⟩ kept, fun still => (congrArg Source.twmRose eq).trans (rose.trans still)⟩
  · have fallen : y.voice ≠ .quiet := fun quiet => nomatch quiet.symm.trans voiced
    refine ⟨fun _ quiet => absurd quiet fallen, fun _ _ _ _ => ?_, fun _ kept => ?_, fun _ => ?_⟩
    · rw [congrArg Source.alert eq]
      exact ⟨congrArg Source.twm eq, congrArg Source.twmRose eq, decide_eq_true_iff⟩
    · obtain idle | quiet | unmuted | alerted := kept
      · exact absurd active idle
      · exact absurd quiet fallen
      · rw [muted] at unmuted; cases unmuted
      · rw [silent] at alerted; cases alerted
    · rw [eq]
  · refine ⟨fun loud quiet => absurd ⟨loud, quiet⟩ notFallen, fun active voiced muted silent =>
      absurd ⟨active, voiced, muted, silent⟩ notRisen, fun _ _ => ?_, fun still => ?_⟩ <;> rw [eq]
    · exact ⟨rfl, rfl⟩
    · exact rose.trans still

/-! ### The measurement up to the floor (R19) -/

/-- The record of a measured source before the floor acts. -/
def measured (p : Params) (b : Block) (x : Source) : Source := { measureLevel p (blockLevel b) x with inBlock := none }

/-- The part with the level fields of source `i` moved, and TALK_MUTED set where ALERT has gone on (R29). -/
def levelMoved (i : SrcSlot) (b : Block) (s : State) : State :=
  (s.setSrc i (measured s.params b s.srcs[i])).addNoticeIf
    ((measured s.params b s.srcs[i]).alert && !s.srcs[i].alert) .talkMuted

theorem measure_eq (i : SrcSlot) (b : Block) (s : State) :
    measure i b s = finishEvent s (floorHandover i (levelMoved i b s)) := rfl

theorem measured_frame (p : Params) (b : Block) (x : Source) : measured p b x = { x with
    s := (measured p b x).s, n := (measured p b x).n, creep := (measured p b x).creep
    voice := (measured p b x).voice, twm := (measured p b x).twm
    alert := (measured p b x).alert, twmRose := (measured p b x).twmRose, inBlock := none } := by
  rw [measured, measureLevel_frame]

theorem levelMoved_src (i : SrcSlot) (b : Block) (s : State) (j : SrcSlot) :
    (levelMoved i b s).srcs[j] = if j = i then measured s.params b s.srcs[i] else s.srcs[j] := by
  rw [levelMoved, State.addNoticeIf_srcs, setSrc_at]

theorem levelMoved_rest (i : SrcSlot) (b : Block) (s : State) :
    { levelMoved i b s with srcs := s.srcs, notice := s.notice } = s := by
  rw [levelMoved]
  generalize ((measured s.params b s.srcs[i]).alert && !s.srcs[i].alert) = c
  generalize measured s.params b s.srcs[i] = y
  cases c <;> rfl

/-- The level fields, the received block and nothing else. -/
theorem levelMoved_frame (i : SrcSlot) (b : Block) (s : State) (j : SrcSlot) : (levelMoved i b s).srcs[j] = { s.srcs[j] with
    s := (levelMoved i b s).srcs[j].s, n := (levelMoved i b s).srcs[j].n, creep := (levelMoved i b s).srcs[j].creep
    voice := (levelMoved i b s).srcs[j].voice, twm := (levelMoved i b s).srcs[j].twm
    alert := (levelMoved i b s).srcs[j].alert, twmRose := (levelMoved i b s).srcs[j].twmRose
    inBlock := (levelMoved i b s).srcs[j].inBlock } := by
  rw [levelMoved_src]
  split
  next e => subst e; rw [measured_frame]
  next => rfl

theorem levelMoved_notice (i : SrcSlot) (b : Block) (s : State) (k : NoticeKind) :
    (levelMoved i b s).notice.set.has k = (s.notice.set.has k ||
      ((measured s.params b s.srcs[i]).alert && !s.srcs[i].alert) && k == .talkMuted) := addNoticeIf_has _ _ _ _

theorem levelMoved_only (i : SrcSlot) (b : Block) (s : State) : OnlyNotices [.talkMuted, .floor] s (levelMoved i b s) := by
  refine ⟨fun k other => ?_, addNoticeIf_mask _ _ _⟩
  have apart : k ≠ .talkMuted := fun e => other (e ▸ List.mem_cons_self)
  rw [levelMoved_notice, beq_eq_false_iff_ne.mpr apart, Bool.and_false, Bool.or_false]

/-- What a measurement is: the level part, then the floor's work, then the end of the event. -/
theorem exec_measurement {b : Block} (used : s.srcs[i].state ≠ .free) (block : s.srcs[i].inBlock = some b) :
    exec (.measurement i) s = .next (measure i b s) := by
  have inUse : s.srcs[i].inUse = true := bne_iff_ne.mpr used
  change execMeasurement i s = _
  rw [execMeasurement, block]
  exact congrArg Host.Outcome.next (if_pos inUse)

theorem exec_measurement_idle (h : s.srcs[i].state = .free ∨ s.srcs[i].inBlock = none) :
    exec (.measurement i) s = .next s := by
  change execMeasurement i s = _
  unfold execMeasurement
  split
  next b block =>
    have free := h.resolve_right (by rw [block]; nofun)
    exact congrArg Host.Outcome.next (if_neg (by rw [Source.inUse, free]; nofun))
  next => rfl

section
variable (i : SrcSlot) (b : Block) (s : State)

theorem measure_frame : FloorFrame (levelMoved i b s) (floorHandover i (levelMoved i b s)) := floorHandover_frame _ _

/-- A source's record after a measurement, but for floor state and gain, is what the level part has left. -/
theorem measure_src (j : SrcSlot) : (measure i b s).srcs[j] = (levelMoved i b s).srcs[j].withFloorOf (measure i b s).srcs[j] :=
  eq_withFloorOf (finishEvent_src_frame s _ j) ((measure_frame i b s).srcs j)

theorem measure_gain (j : SrcSlot) : GainFollows s (measure i b s) j := by
  have gain : (floorHandover i (levelMoved i b s)).srcs[j].gain = s.srcs[j].gain := by
    rw [(measure_frame i b s).srcs j, levelMoved_frame]
  exact finishEvent_gain s j gain

theorem measure_only : OnlyNotices [.talkMuted, .floor] s (measure i b s) := by
  rw [measure_eq]
  refine finishEvent_only (List.mem_cons_of_mem _ List.mem_cons_self) ?_
  rw [OnlyNotices, (measure_frame i b s).notice]
  exact levelMoved_only i b s

theorem measure_noticed : FloorNoticed s (measure i b s) := by
  rw [measure_eq]
  refine finishEvent_noticed ?_
  have floor := levelMoved_notice i b s .floor
  have apart : (NoticeKind.floor == .talkMuted) = false := rfl
  rw [apart, Bool.and_false, Bool.or_false] at floor
  rw [(measure_frame i b s).notice]
  exact floor

theorem measure_talkMuted : (measure i b s).notice.set.talkMuted = true ↔
    s.notice.set.talkMuted = true ∨ (measured s.params b s.srcs[i]).alert = true ∧ s.srcs[i].alert = false := by
  have noted := noteFloor_other s (floorHandover i (levelMoved i b s)) (k := .talkMuted) nofun
  have talk := levelMoved_notice i b s .talkMuted
  rw [beq_self_eq_true, Bool.and_true, ← (measure_frame i b s).notice, ← noted, ← finishEvent_notice, ← measure_eq] at talk
  change (measure i b s).notice.set.has .talkMuted = true ↔ s.notice.set.has .talkMuted = true ∨ _
  rw [talk, Bool.or_eq_true, Bool.and_eq_true, Bool.not_eq_true']

theorem measure_rest : { measure i b s with srcs := s.srcs, floor := s.floor, notice := s.notice } = s := by
  rw [measure_eq]
  refine finishEvent_over ?_
  have floor := (measure_frame i b s).rest
  have level := levelMoved_rest i b s
  generalize floorHandover i (levelMoved i b s) = u at floor ⊢
  generalize levelMoved i b s = w at floor level
  rw [← floor] at level
  exact (congrArg (fun v : State => { v with floor := s.floor }) level :)

end

namespace Measurement

/-- Settles O40: the level part's fields, and nothing else but what the floor owns. -/
theorem measurementMovesTheLevelFields : Obligations.MeasurementMovesTheLevelFields := by
  unfold Obligations.MeasurementMovesTheLevelFields
  refine fun s i => ⟨exec_measurement_idle, fun b used block => ?_⟩
  have exec := exec_measurement used block
  have here := measure_src i b s i
  have others := measure_src i b s
  have self := levelMoved_src i b s i
  rw [if_pos rfl] at self
  have other (j : SrcSlot) (apart : j ≠ i) := (levelMoved_src i b s j).trans (if_neg apart)
  rw [self] at here
  have talkMuted := measure_talkMuted i b s
  have only := measure_only i b s
  have gains := measure_gain i b s
  have rest := measure_rest i b s
  rw [measured] at here talkMuted
  have frame := measureLevel_frame s.params (blockLevel b) s.srcs[i]
  obtain ⟨estimate, -⟩ := measureLevel_estimates s.params (blockLevel b) s.srcs[i]
  obtain ⟨falls, stays, creeps⟩ := measureLevel_noise s.params (blockLevel b) s.srcs[i] rfl
  obtain ⟨wakes, rests⟩ := measureLevel_voice s.params (blockLevel b) s.srcs[i] rfl
  obtain ⟨cleared, raised, kept, rose⟩ := measureLevel_twm s.params (blockLevel b) s.srcs[i] rfl
  generalize measureLevel s.params (blockLevel b) s.srcs[i] = y at *
  generalize measure i b s = t at *
  refine ⟨t, y.s, y.n, y.creep, y.twm, y.voice, y.alert, y.twmRose, exec, ?record,
    fun up => estimate.trans (moveLevel_up up), fun down => estimate.trans (moveLevel_down down),
    fun same => estimate.trans (moveLevel_stays same), falls, stays, creeps, wakes, rests, cleared, raised, kept, rose,
    talkMuted, only, fun j apart => ?others, gains, rest⟩
  case record =>
    rw [frame] at here
    exact here
  case others =>
    have there := others j
    rw [other j apart] at there
    exact there

end Measurement

end Sys2Proof.Machine
end

section
/-! Proof for O41: what a measurement does at the floor, by floor state and voice state (R60, R66, R67). -/

namespace Sys2Proof.Machine

variable {s t u w : State} {i j : SrcSlot}

/-! ### The table of R60 -/

section Table

variable {c : Nat}

theorem floorAction_closed (state : s.srcs[i].floorState = some .closed)
    (still : s.srcs[i].voice = .quiet ∨ s.srcs[i].effMute = true) : floorAction i s = s := by
  rw [floorAction]
  obtain voice | mute := still
  · simp only [state, voice]
  · cases s.srcs[i].voice <;> simp only [state, mute, if_true]

theorem floorAction_attempt (state : s.srcs[i].floorState = some .closed) (voice : s.srcs[i].voice = .voiced)
    (mute : s.srcs[i].effMute = false) : floorAction i s = attempt i s := by
  simp only [floorAction, state, voice, mute, Bool.false_eq_true, if_false]

theorem floorAction_pending (state : s.srcs[i].floorState = some .pending) (voice : s.srcs[i].voice = .quiet) :
    floorAction i s = closeSource i s := by
  simp only [floorAction, state, voice]

theorem floorAction_same (h : (s.srcs[i].floorState = some .pending ∨ s.srcs[i].floorState = some .opened) ∧
    s.srcs[i].voice = .voiced ∨ s.srcs[i].floorState = some .last ∧ s.srcs[i].voice = .quiet) : floorAction i s = s := by
  obtain ⟨state | state, voice⟩ | ⟨state, voice⟩ := h <;> simp only [floorAction, state, voice]

/-- The hold expired, with the service behind a removal (R67). -/
def expired (i : SrcSlot) (s : State) : State := serviceIf (expireHold i s).2 (expireHold i s).1

theorem floorAction_expires (h : (∃ c, c ≤ 1 ∧ s.srcs[i].floorState = some (.hold c)) ∨
    s.srcs[i].floorState = some .opened ∧ s.params.holdBlocks = 0) (voice : s.srcs[i].voice = .quiet) :
    floorAction i s = expired i s := by
  obtain ⟨c, low, state⟩ | ⟨state, none_held⟩ := h
  · simp only [floorAction, state, voice, if_pos low, expired]
  · simp only [floorAction, state, voice, none_held, if_true, expired]

theorem floorAction_holds (state : s.srcs[i].floorState = some .opened) (voice : s.srcs[i].voice = .quiet)
    (held : 0 < s.params.holdBlocks) : floorAction i s =
      serviceIf (!s.floor.queueEmpty) (s.setFloorState i (.hold s.params.holdBlocks)) := by
  simp only [floorAction, state, voice, if_neg held.ne']

theorem floorAction_opens (state : (∃ c, s.srcs[i].floorState = some (.hold c)) ∨ s.srcs[i].floorState = some .last)
    (voice : s.srcs[i].voice = .voiced) : floorAction i s = s.setFloorState i .opened := by
  obtain ⟨c, state⟩ | state := state <;> simp only [floorAction, state, voice]

theorem floorAction_counts (low : 2 ≤ c) (state : s.srcs[i].floorState = some (.hold c))
    (voice : s.srcs[i].voice = .quiet) : floorAction i s = s.setFloorState i (.hold (c - 1)) := by
  simp only [floorAction, state, voice, if_neg (Nat.not_le.mpr low)]

end Table

theorem queueEmpty_iff (c : FloorCtl) : c.queueEmpty = true ↔ c.chairs = [] ∧ c.delegates = [] := by
  simp only [FloorCtl.queueEmpty, Bool.and_eq_true, List.isEmpty_iff]

/-! ### What an attempt leaves (R58, R64) -/

theorem attempt_outcome (out : i ∉ s.floor.list) :
    ((attempt i s).srcs[i].floorState = some .opened ∧ (attempt i s).floor.list.getLast? = some i ∧
        (attempt i s).floor.stamps.getLast? = some ⟨s.floor.block, true⟩ ∨
      (attempt i s).srcs[i].floorState = some .pending ∧
        (i ∈ (attempt i s).floor.chairs ∨ i ∈ (attempt i s).floor.delegates) ∧
        (attempt i s).floor.list = s.floor.list ∧ (attempt i s).floor.stamps = s.floor.stamps) ∧
      s.floor.list.length ≤ (attempt i s).floor.list.length := by
  unfold attempt
  cases h : tryAdmit i s with
  | none =>
    rw [Option.getD_none, floorState_set .pending (joinTail_srcs i s), if_pos rfl, joinTail_floor]
    refine ⟨.inr ⟨rfl, ?_, rfl, rfl⟩, le_rfl⟩
    cases s.srcs[i].isChair
    · exact .inr (List.mem_append_right _ List.mem_cons_self)
    · exact .inl (List.mem_append_right _ List.mem_cons_self)
  | some t =>
    have admitted (e : Option SrcSlot) (he : e.elim True fun k => k ∈ s.floor.list) :
        (admitSource i e s).srcs[i].floorState = some .opened ∧ (admitSource i e s).floor.list.getLast? = some i ∧
        (admitSource i e s).floor.stamps.getLast? = some ⟨s.floor.block, true⟩ ∧
        s.floor.list.length ≤ (admitSource i e s).floor.list.length := by
      have block : (Admission.evicted e s).floor.block = s.floor.block := by
        cases e with
        | none => rfl
        | some k => exact (evict_frame k s).block
      have shorter : s.floor.list.length ≤ ((Admission.evicted e s).floor.list.erase i).length + 1 := by
        cases e with
        | none =>
          change _ ≤ (s.floor.list.erase i).length + 1
          rw [List.erase_of_not_mem out]
          exact Nat.le_succ _
        | some k =>
          have gone : i ∉ (evict k s).floor.list := fun m => out (List.mem_of_mem_erase (evict_list k s ▸ m))
          have member : k ∈ s.floor.list := he
          have length := List.length_erase_of_mem member
          change _ ≤ ((evict k s).floor.list.erase i).length + 1
          rw [List.erase_of_not_mem gone, evict_list]
          omega
      rw [Admission.admitSource_eq, floorState_set .opened (Admission.admitSource_none_srcs i _), if_pos rfl,
        Admission.admitSource_none_floor, block]
      exact ⟨rfl, List.getLast?_concat, List.getLast?_concat, by rw [List.length_append]; exact shorter⟩
    rw [Option.getD_some]
    obtain ⟨-, ⟨-, rfl⟩ | ⟨-, e, found, rfl⟩⟩ := tryAdmit_cases h
    · obtain ⟨state, last, stamp, size⟩ := admitted none trivial
      exact ⟨.inl ⟨state, last, stamp⟩, size⟩
    · obtain ⟨state, last, stamp, size⟩ := admitted (some e) (Admission.evictee_spec found).1
      exact ⟨.inl ⟨state, last, stamp⟩, size⟩

/-! ### A member on hold under pending service (R62, R64, R65) -/

/-- Service leaves a source on hold as it is, or closes it. -/
theorem serve_hold {c : Nat} (n : Nat) (law : PlacesLaw s)
    (h : s.srcs[i].floorState = some (.hold c) ∨ s.srcs[i].floorState = some .closed) :
    (serve n s).srcs[i].floorState = some (.hold c) ∨ (serve n s).srcs[i].floorState = some .closed := by
  induction n generalizing s with
  | zero => exact h
  | succ n ih =>
    cases head : s.floor.queueHead with
    | none => rw [Service.serve_idle head]; exact h
    | some k =>
      have queued := PlacesLaw.queue_of_head head
      have apart : i ≠ k := by
        rintro rfl
        have pending := (law.mem_queue_iff (law.ofFloor_of_inside (.inr queued))).mp queued
        obtain held | closed := h
        · rw [pending] at held; cases held
        · rw [pending] at closed; cases closed
      have src (e : Option SrcSlot) : (admitSource k e s).srcs[i].floorState = some (.hold c) ∨
          (admitSource k e s).srcs[i].floorState = some .closed := by
        by_cases evicted : e = some i
        · rw [evicted, Admission.admitSource_eq, Admission.admitSource_none_srcs, State.setSrc_other _ _ apart,
            Admission.evicted, Option.elim_some, Admission.evict_srcs, State.setSrc_same]
          refine .inr (congrArg some (if_neg fun opened => ?_))
          obtain held | closed := h
          · rw [opened] at held; cases held
          · rw [opened] at closed; cases closed
        · rw [Admission.admitSource_src_other apart evicted]
          exact h
      cases admitted : tryAdmit k s with
      | none => rw [Service.serve_failed head admitted]; exact h
      | some t =>
        rw [Service.serve_admitted head admitted]
        refine ih (tryHead_work law head admitted).places ?_
        obtain ⟨-, ⟨-, rfl⟩ | ⟨-, e, -, rfl⟩⟩ := tryAdmit_cases admitted <;> exact src _

/-- A member that goes on hold stays on it through the service behind it, or is off the floor (R62, R66). -/
theorem held_served {c : Nat} (b : Bool) (law : PlacesLaw s) (member : i ∈ s.floor.list) :
    (serviceIf b (s.setFloorState i (.hold c))).srcs[i].floorState = some (.hold c) ∧
        i ∈ (serviceIf b (s.setFloorState i (.hold c))).floor.list ∨
      (serviceIf b (s.setFloorState i (.hold c))).srcs[i].floorState = some .closed ∧
        i ∉ (serviceIf b (s.setFloorState i (.hold c))).floor.list := by
  have places := setFloorState_places law member (f := .hold c) rfl
  have served := (serviceIf_work b places).places
  have ofFloor : OfFloor (serviceIf b (s.setFloorState i (.hold c))) i := by
    rw [OfFloor, (serviceIf_work b places).frame.srcs i, (setFloorState_frame i (.hold c) s).srcs i]
    exact law.ofFloor_of_inside (.inl member)
  have held : (s.setFloorState i (.hold c)).srcs[i].floorState = some (.hold c) := by
    rw [floorState_set _ (setFloorState_srcs_eq i (.hold c) s), if_pos rfl]
  have outcome : (serviceIf b (s.setFloorState i (.hold c))).srcs[i].floorState = some (.hold c) ∨
      (serviceIf b (s.setFloorState i (.hold c))).srcs[i].floorState = some .closed := by
    cases b
    · exact .inl held
    · exact serve_hold _ places (.inl held)
  rw [served.mem_list_iff ofFloor]
  exact outcome.imp (fun h => ⟨h, by rw [h]; rfl⟩) fun h => ⟨h, by rw [h]; nofun⟩

/-! ### The service behind the action (R65, R66, R69) -/

theorem expired_last (alone : s.params.lastMic = true ∧ s.floor.list = [i] ∧ s.floor.chairs = [] ∧ s.floor.delegates = []) :
    expired i s = s.setFloorState i .last := by
  obtain ⟨-, e⟩ | ⟨other, -⟩ := expireHold_eq i s
  · rw [expired, e]; rfl
  · exact absurd alone other

theorem expired_closed
    (other : ¬ (s.params.lastMic = true ∧ s.floor.list = [i] ∧ s.floor.chairs = [] ∧ s.floor.delegates = [])) :
    expired i s = pendingService (closeSource i s) := by
  obtain ⟨alone, -⟩ | ⟨-, e⟩ := expireHold_eq i s
  · exact absurd alone other
  · rw [expired, e]; rfl

/-- The voice states that take a member of the floor to its hold's end, or to a hold. -/
theorem quiet_member (member : onFloor s.srcs[i].floorState = true) :
    (∃ c, 2 ≤ c ∧ s.srcs[i].floorState = some (.hold c)) ∨ s.srcs[i].floorState = some .last ∨
      ((∃ c, c ≤ 1 ∧ s.srcs[i].floorState = some (.hold c)) ∨
        s.srcs[i].floorState = some .opened ∧ s.params.holdBlocks = 0) ∨
      s.srcs[i].floorState = some .opened ∧ 0 < s.params.holdBlocks := by
  obtain opened | held | last := onFloor_iff.mp member
  · obtain zero | pos := Nat.eq_zero_or_pos s.params.holdBlocks
    · exact .inr (.inr (.inl (.inr ⟨opened, zero⟩)))
    · exact .inr (.inr (.inr ⟨opened, pos⟩))
  · obtain ⟨c, state⟩ := isHold_iff.mp held
    obtain low | high := Nat.lt_or_ge c 2
    · exact .inr (.inr (.inl (.inl ⟨c, Nat.le_of_lt_succ low, state⟩)))
    · exact .inl ⟨c, high, state⟩
  · exact .inr (.inl last)

/-- Where a quiet member has become CLOSED, or the list shorter, or the queue waits for a member gone on hold, service
has been made. -/
theorem floorAction_served (law : PlacesLaw s) (h : OfFloor s i) (quiet : s.srcs[i].voice = .quiet)
    (member : onFloor s.srcs[i].floorState = true)
    (due : (floorAction i s).floor.list.length < s.floor.list.length ∨
      (s.srcs[i].floorState = some .opened ∧ ¬ (s.floor.chairs = [] ∧ s.floor.delegates = [])) ∨
      (floorAction i s).srcs[i].floorState = some .closed) : QueueServed (floorAction i s) := by
  have listed : i ∈ s.floor.list := (law.mem_list_iff h).mpr member
  have stays (f : FloorState) (other : f ≠ .closed) (notOpen : s.srcs[i].floorState ≠ some .opened)
      (e : floorAction i s = s.setFloorState i f) : QueueServed (floorAction i s) := by
    rw [e, floorState_set f (setFloorState_srcs_eq i f s), if_pos rfl] at due
    obtain less | ⟨opened, -⟩ | closed := due
    · exact absurd less (lt_irrefl _)
    · exact absurd opened notOpen
    · exact absurd (Option.some.inj closed) other
  obtain ⟨c, high, state⟩ | state | expires | ⟨state, held⟩ := quiet_member member
  · exact stays (.hold (c - 1)) (by nofun) (by rw [state]; nofun) (floorAction_counts high state quiet)
  · rw [floorAction_same (.inr ⟨state, quiet⟩), state] at due
    obtain less | ⟨opened, -⟩ | closed := due
    · exact absurd less (lt_irrefl _)
    · cases opened
    · cases closed
  · have e := floorAction_expires expires quiet
    by_cases alone : s.params.lastMic = true ∧ s.floor.list = [i] ∧ s.floor.chairs = [] ∧ s.floor.delegates = []
    · rw [e, expired_last alone, floorState_set .last (setFloorState_srcs_eq i .last s), if_pos rfl] at due
      obtain less | ⟨-, waiting⟩ | closed := due
      · exact absurd less (lt_irrefl _)
      · exact absurd ⟨alone.2.2.1, alone.2.2.2⟩ waiting
      · cases closed
    · rw [e, expired_closed alone]
      exact Service.pendingService_served (closeSource_places law h)
  · have e := floorAction_holds state quiet held
    by_cases empty : s.floor.queueEmpty = true
    · rw [e, empty, Bool.not_true, serviceIf, if_neg nofun,
        floorState_set _ (setFloorState_srcs_eq i (.hold s.params.holdBlocks) s), if_pos rfl] at due
      obtain less | ⟨-, waiting⟩ | closed := due
      · exact absurd less (lt_irrefl _)
      · exact absurd ((queueEmpty_iff _).mp empty) waiting
      · cases closed
    · rw [e, Bool.eq_false_iff.mpr empty, Bool.not_false]
      exact Service.pendingService_served (setFloorState_places law listed rfl)

/-- The action makes the floor list shorter only where a quiet member leaves it. -/
theorem floorAction_shortens (law : PlacesLaw s) (h : OfFloor s i)
    (shorter : (floorAction i s).floor.list.length < s.floor.list.length) :
    s.srcs[i].voice = .quiet ∧ onFloor s.srcs[i].floorState = true := by
  by_contra other
  obtain ⟨isSome, notUngated⟩ := law.gated i h.1 h.2
  have same (e : floorAction i s = s) : False := by rw [e] at shorter; exact lt_irrefl _ shorter
  obtain ⟨f, state⟩ := Option.isSome_iff_exists.mp isSome
  cases voice : s.srcs[i].voice with
  | voiced =>
    have opens (held : (∃ c, s.srcs[i].floorState = some (.hold c)) ∨ s.srcs[i].floorState = some .last) : False := by
      rw [floorAction_opens held voice] at shorter
      exact lt_irrefl _ shorter
    cases f with
    | closed =>
      cases mute : s.srcs[i].effMute with
      | true => exact same (floorAction_closed state (.inr mute))
      | false =>
        rw [floorAction_attempt state voice mute] at shorter
        have out : i ∉ s.floor.list := fun m => law.outside_of_closed state (.inl m)
        exact absurd shorter (Nat.not_lt.mpr (attempt_outcome out).2)
    | pending => exact same (floorAction_same (.inl ⟨.inl state, voice⟩))
    | opened => exact same (floorAction_same (.inl ⟨.inr state, voice⟩))
    | hold c => exact opens (.inl ⟨c, state⟩)
    | last => exact opens (.inr state)
    | ungated => exact notUngated state
  | quiet =>
    cases f with
    | closed => exact same (floorAction_closed state (.inl voice))
    | pending =>
      rw [floorAction_pending state voice, closeSource_floor, FloorCtl.without, List.erase_of_not_mem fun m => by
        have on := (law.mem_list_iff h).mp m
        rw [state] at on
        cases on] at shorter
      exact lt_irrefl _ shorter
    | ungated => exact notUngated state
    | opened => exact other ⟨voice, by rw [state]; rfl⟩
    | hold c => exact other ⟨voice, by rw [state]; rfl⟩
    | last => exact other ⟨voice, by rw [state]; rfl⟩

namespace Measurement

theorem withFloorOf_voice (x y : Source) : (x.withFloorOf y).voice = x.voice := rfl

/-- The part before the floor acts: what the floor reads of it is what it read before the level part. -/
theorem levelMoved_alike (i : SrcSlot) (b : Block) (s : State) : Alike s (levelMoved i b s) := by
  have rest := levelMoved_rest i b s
  have frame := levelMoved_frame i b s
  generalize levelMoved i b s = w at rest frame
  exact ⟨(congrArg State.floor rest :), params_of_banks (congrArg State.banks rest :), fun j => by rw [frame],
    fun j => by rw [frame]⟩

theorem levelMoved_membership (b : Block) (law : MembershipLaw s) : MembershipLaw (levelMoved i b s) := by
  have alike := levelMoved_alike i b s
  have frame := levelMoved_frame i b s
  exact law.of_same (by rw [alike.floor]) (by rw [alike.floor]) (by rw [alike.floor]) (fun j => by rw [frame])
    (fun j => by rw [frame]) (fun j => by rw [frame]) fun j => by rw [frame]

/-- What the action leaves of the floor, where it acts (the table of R60, with R66 and R67). -/
theorem acts (law : PlacesLaw s) (h : OfFloor s i) (alike : Alike s w) (mute : w.srcs[i].effMute = s.srcs[i].effMute)
    (done : Alike (floorAction i w) t) (voice : t.srcs[i].voice = w.srcs[i].voice) :
    (s.srcs[i].floorState = some .closed → t.srcs[i].voice = .quiet ∨ s.srcs[i].effMute = true → SameFloor s t) ∧
    (s.srcs[i].floorState = some .closed → t.srcs[i].voice = .voiced → s.srcs[i].effMute = false →
      SameFloor (attempt i s) t ∧
      (t.srcs[i].floorState = some .opened ∧ t.floor.list.getLast? = some i ∧
          t.floor.stamps.getLast? = some ⟨s.floor.block, true⟩ ∨
        t.srcs[i].floorState = some .pending ∧ (i ∈ t.floor.chairs ∨ i ∈ t.floor.delegates) ∧
          t.floor.list = s.floor.list ∧ t.floor.stamps = s.floor.stamps)) ∧
    (s.srcs[i].floorState = some .pending → t.srcs[i].voice = .voiced → SameFloor s t) ∧
    (s.srcs[i].floorState = some .pending → t.srcs[i].voice = .quiet →
      SameFloor (closeSource i s) t ∧ t.srcs[i].floorState = some .closed ∧ t.floor.list = s.floor.list ∧
      i ∉ t.floor.chairs ∧ i ∉ t.floor.delegates) ∧
    (s.srcs[i].floorState = some .opened → t.srcs[i].voice = .voiced → SameFloor s t) ∧
    (∀ u : State, u = s.setFloorState i (.hold s.params.holdBlocks) →
      s.srcs[i].floorState = some .opened → t.srcs[i].voice = .quiet → 0 < s.params.holdBlocks →
      (s.floor.chairs = [] → s.floor.delegates = [] → SameFloor u t) ∧
      (s.floor.chairs ≠ [] ∨ s.floor.delegates ≠ [] → SameFloor (pendingService u) t) ∧
      (t.srcs[i].floorState = some (.hold s.params.holdBlocks) ∧ i ∈ t.floor.list ∨
        t.srcs[i].floorState = some .closed ∧ i ∉ t.floor.list)) ∧
    ((∃ c, s.srcs[i].floorState = some (.hold c)) ∨ s.srcs[i].floorState = some .last → t.srcs[i].voice = .voiced →
      SameFloor (s.setFloorState i .opened) t) ∧
    (s.srcs[i].floorState = some .last → t.srcs[i].voice = .quiet → SameFloor s t) ∧
    (∀ c, 2 ≤ c → s.srcs[i].floorState = some (.hold c) → t.srcs[i].voice = .quiet →
      SameFloor (s.setFloorState i (.hold (c - 1))) t) ∧
    ((∃ c, c ≤ 1 ∧ s.srcs[i].floorState = some (.hold c)) ∨
        s.srcs[i].floorState = some .opened ∧ s.params.holdBlocks = 0 → t.srcs[i].voice = .quiet →
      (s.params.lastMic = true ∧ s.floor.list = [i] ∧ s.floor.chairs = [] ∧ s.floor.delegates = [] →
        SameFloor (s.setFloorState i .last) t) ∧
      (s.params.lastMic = false ∨ s.floor.list ≠ [i] ∨ s.floor.chairs ≠ [] ∨ s.floor.delegates ≠ [] →
        SameFloor (pendingService (closeSource i s)) t ∧ t.srcs[i].floorState = some .closed ∧ i ∉ t.floor.list)) := by
  have same (e : floorAction i w = w) : SameFloor s t := (alike.trans (e ▸ done)).sameFloor
  rw [voice, ← mute, ← alike.floorState]
  refine ⟨fun state still => same (floorAction_closed state still), fun state loud unmuted => ?attempt,
    fun state loud => same (floorAction_same (.inl ⟨.inl state, loud⟩)), fun state quiet => ?leavesQueue,
    fun state loud => same (floorAction_same (.inl ⟨.inr state, loud⟩)), fun u hu state quiet held => ?holds,
    fun state loud => ?opens, fun state quiet => same (floorAction_same (.inr ⟨state, quiet⟩)),
    fun c high state quiet => ?counts, fun expires quiet => ?expires⟩
  case attempt =>
    have out : i ∉ s.floor.list := fun m => law.outside_of_closed (alike.floorState i ▸ state) (.inl m)
    have floor := ((alike.attempt i).trans (floorAction_attempt state loud unmuted ▸ done)).sameFloor
    refine ⟨floor, ?_⟩
    rw [floor.2, floor.1]
    exact (attempt_outcome out).1
  case leavesQueue =>
    have floor := ((alike.closeSource i).trans (floorAction_pending state quiet ▸ done)).sameFloor
    rw [alike.floorState] at state
    have out : i ∉ s.floor.list := fun m => by
      have on := (law.mem_list_iff h).mp m
      rw [state] at on
      cases on
    have off := (closeSource_places law h).outside_of_closed (by
      rw [floorState_set .closed (closeSource_srcs i s), if_pos rfl])
    simp only [Inside, not_or] at off
    refine ⟨floor, ?_⟩
    rw [floor.2, floor.1]
    exact ⟨by rw [floorState_set .closed (closeSource_srcs i s), if_pos rfl], List.erase_of_not_mem out, off.2⟩
  case holds =>
    subst hu
    have quietAct := floorAction_holds state quiet (alike.params ▸ held)
    rw [alike.params, alike.floor] at quietAct
    have floor := (((alike.setFloorState i (.hold s.params.holdBlocks)).serviceIf (!s.floor.queueEmpty)).trans
      (quietAct ▸ done)).sameFloor
    have listed : i ∈ s.floor.list := (law.mem_list_iff h).mpr (by rw [← alike.floorState, state]; rfl)
    refine ⟨fun chairs delegates => ?_, fun waiting => ?_, ?_⟩
    · rw [(queueEmpty_iff _).mpr ⟨chairs, delegates⟩] at floor
      exact floor
    · have queued : s.floor.queueEmpty = false := by
        rw [← Bool.not_eq_true, queueEmpty_iff, not_and_or]
        exact waiting
      rw [queued] at floor
      exact floor
    · rw [floor.2, floor.1]
      exact held_served _ law listed
  case opens => exact ((alike.setFloorState i .opened).trans (floorAction_opens state loud ▸ done)).sameFloor
  case counts => exact ((alike.setFloorState i _).trans (floorAction_counts high state quiet ▸ done)).sameFloor
  case expires =>
    rw [← alike.params] at expires
    rw [floorAction_expires expires quiet] at done
    refine ⟨fun alone => ?_, fun other => ?_⟩
    · rw [expired_last (by rw [alike.params, alike.floor]; exact alone)] at done
      exact ((alike.setFloorState i .last).trans done).sameFloor
    · rw [expired_closed (by
        rw [alike.params, alike.floor]
        rintro ⟨on, alone, chairs, delegates⟩
        rw [on, alone, chairs, delegates] at other
        simp at other)] at done
      have floor := ((alike.closeSource i).pendingService.trans done).sameFloor
      obtain ⟨closed, off⟩ := Expiry.closed_off law h
      refine ⟨floor, ?_⟩
      rw [floor.2, floor.1]
      exact ⟨closed, fun m => off (.inl m)⟩

/-- Settles O41: the table of R60 for the voice state handed over, and the service where it is due. -/
theorem measurementActsAtTheFloor : Obligations.MeasurementActsAtTheFloor := by
  unfold Obligations.MeasurementActsAtTheFloor
  intro s i b law used block
  have exec := exec_measurement used block
  have noticed := measure_noticed i b s
  have alike := levelMoved_alike i b s
  have lawful := levelMoved_membership (i := i) b law
  have frame := levelMoved_frame i b s i
  have done : Alike (floorHandover i (levelMoved i b s)) (measure i b s) := finishEvent_alike _ _
  have voice : (measure i b s).srcs[i].voice = (levelMoved i b s).srcs[i].voice := by
    rw [measure_src, withFloorOf_voice]
  generalize measure i b s = t at *
  generalize levelMoved i b s = w at *
  have mute : w.srcs[i].effMute = s.srcs[i].effMute := by rw [frame]
  have state : w.srcs[i].state = s.srcs[i].state := by rw [frame]
  have ofFloor (active : s.srcs[i].state = .active) (bound : s.srcs[i].floorClass = true) : OfFloor w i :=
    OfFloor.of_same ⟨isActive_iff.mpr active, bound⟩ state (alike.cls i)
  have acting (h : OfFloor w i) : floorHandover i w = floorAction i w := if_pos (Bool.and_eq_true_iff.mpr h)
  have idle (h : ¬ OfFloor w i) : floorHandover i w = w := if_neg fun k => h (Bool.and_eq_true_iff.mp k)
  have serves (h : OfFloor w i) (quiet : t.srcs[i].voice = .quiet) (member : onFloor s.srcs[i].floorState = true)
      (due : t.floor.list.length < s.floor.list.length ∨
        (s.srcs[i].floorState = some .opened ∧ ¬ (s.floor.chairs = [] ∧ s.floor.delegates = [])) ∨
        t.srcs[i].floorState = some .closed) : QueueServed t := by
    rw [acting h] at done
    rw [done.floor, done.floorState, ← alike.floor, ← alike.floorState] at due
    exact done.queueServed (floorAction_served lawful.places h (voice ▸ quiet) (alike.floorState i ▸ member) due)
  refine ⟨t, exec, noticed, fun shorter => ?shorter, fun active bound opened quiet waiting => ?waits,
    fun active bound quiet member closed => serves (ofFloor active bound) quiet member (.inr (.inr closed)),
    fun other => ?apart, fun active bound => ?acts⟩
  case shorter =>
    by_cases h : OfFloor w i
    · have less : (floorAction i w).floor.list.length < w.floor.list.length := by
        rw [acting h] at done
        rw [← done.floor, alike.floor]
        exact shorter
      obtain ⟨quiet, member⟩ := floorAction_shortens lawful.places h less
      exact serves h (voice.trans quiet) (alike.floorState i ▸ member) (.inl shorter)
    · rw [idle h] at done
      rw [done.floor, alike.floor] at shorter
      exact absurd shorter (lt_irrefl _)
  case waits =>
    refine serves (ofFloor active bound) quiet (by rw [opened]; rfl) (.inr (.inl ⟨opened, ?_⟩))
    rw [not_and_or]
    exact waiting
  case apart =>
    have still : ¬ OfFloor w i := by
      rintro ⟨active, bound⟩
      rw [isActive_iff, state] at active
      have same : w.srcs[i].floorClass = s.srcs[i].floorClass := by rw [frame]; rfl
      rw [same] at bound
      obtain idle | unbound := other
      · exact idle active
      · rw [unbound] at bound; cases bound
    exact (alike.trans (idle still ▸ done)).sameFloor
  case acts =>
    have h := ofFloor active bound
    exact acts law.places ⟨isActive_iff.mpr active, bound⟩ alike mute (acting h ▸ done) voice

end Measurement

end Sys2Proof.Machine
end

section
/-! Host commands stated from the part with their packet written, and the proof for O21: SRC.RETIRE. -/

namespace Sys2Proof.Machine

variable {s t u v w : State} {i j : SrcSlot}

/-! ### A command that reads nothing of the Control Link Interface -/

theorem withCtl_self (s : State) : s.withCtl s.ctl = s := rfl

theorem written_eq (s : State) : written s = (openPacket s).withCtl ⟨.idle, (openPacket s).ctl.errors⟩ := rfl

/-- A write that does not read the Control Link Interface does to the part, its packet written, what it does. -/
theorem hostPacket_written {code : Byte} {take : State → Taken}
    (blind : ∀ c x, take (x.withCtl c) = (take x).withCtl c) (ho : hostOwnsLine s) (hc : readCode code = false)
    (ht : take (written s) = .write v) : hostPacket code take s = v := by
  have here := blind (openPacket s).ctl (openPacket s)
  rw [withCtl_self] at here
  rw [written_eq, blind] at ht
  cases taken : take (openPacket s) with
  | refused k => rw [taken] at ht; cases ht
  | taken r u =>
    rw [taken] at ht here
    obtain ⟨rfl, written⟩ : r = .plain ∧ u.withCtl ⟨.idle, (openPacket s).ctl.errors⟩ = v := by
      simpa only [Taken.withCtl, Taken.write, Taken.taken.injEq] using ht
    have ctl : u.ctl = (openPacket s).ctl := by
      have same : u = u.withCtl (openPacket s).ctl := by
        simpa only [Taken.withCtl, Taken.taken.injEq, true_and] using here
      rw [same]
      rfl
    rw [hostPacket_write ho hc taken, ← written, ctl]
    rfl

/-- What the Floor Controller, the Mute Logic and the ramp unit read of a state is the same in another. -/
structure SameRecords (s w : State) : Prop where
  srcs : w.srcs = s.srcs
  floor : w.floor = s.floor
  banks : w.banks = s.banks
  mute : w.mute = s.mute
  freeCount : w.freeCount = s.freeCount

theorem written_records (s : State) : SameRecords s (written s) :=
  ⟨openPacket_srcs s, openPacket_floor s, openPacket_banks s, openPacket_mute s, openPacket_freeCount s⟩

namespace SameRecords

variable (h : SameRecords s w)
include h

theorem params : w.params = s.params := params_of_banks h.banks

theorem alike : Alike s w := ⟨h.floor, h.params, fun i => by rw [h.srcs], fun i => by rw [h.srcs]⟩

theorem gains (gain : GainFollows w t j) : GainFollows s t j := by
  rw [GainFollows, HandsOn, h.srcs, h.floor] at gain
  exact gain

theorem membership (law : MembershipLaw s) : MembershipLaw w :=
  law.of_same (by rw [h.floor]) (by rw [h.floor]) (by rw [h.floor]) (fun i => by rw [h.srcs]) (fun i => by rw [h.srcs])
    (fun i => by rw [h.srcs]) fun i => by rw [h.srcs]

theorem places (law : PlacesLaw s) : PlacesLaw w := h.alike.places law fun i => by rw [h.srcs]

end SameRecords

/-! ### A source outside the floor is not drawn into it by pending service -/

theorem evict_inside (member : i ∈ s.floor.list) (h : Inside (evict i s) j) : Inside s j := by
  have moved : j = i → j ∈ s.floor.list := fun e => e ▸ member
  have list := List.mem_of_mem_erase (a := j) (b := i) (l := s.floor.list)
  have chairs := List.mem_of_mem_erase (a := j) (b := i) (l := s.floor.chairs)
  have delegates := List.mem_of_mem_erase (a := j) (b := i) (l := s.floor.delegates)
  unfold evict at h
  split at h
  · rw [Inside, moveToHead_floor] at h
    cases chair : s.srcs[i].isChair <;>
      simp only [chair, Bool.false_eq_true, if_false, if_true, List.mem_cons, FloorCtl.without] at h <;>
      unfold Inside <;> tauto
  · rw [Inside, closeSource_floor, FloorCtl.without] at h
    unfold Inside
    tauto

theorem admitSource_inside {e : Option SrcSlot} (member : ∀ k, e = some k → k ∈ s.floor.list)
    (h : Inside (admitSource i e s) j) : j = i ∨ Inside s j := by
  rw [Admission.admitSource_eq, Inside, Admission.admitSource_none_floor, List.mem_append, List.mem_singleton] at h
  have evicted : Inside (Admission.evicted e s) j → Inside s j := by
    cases e with
    | none => exact id
    | some k => exact evict_inside (member k rfl)
  have list := List.mem_of_mem_erase (a := j) (b := i) (l := (Admission.evicted e s).floor.list)
  have chairs := List.mem_of_mem_erase (a := j) (b := i) (l := (Admission.evicted e s).floor.chairs)
  have delegates := List.mem_of_mem_erase (a := j) (b := i) (l := (Admission.evicted e s).floor.delegates)
  unfold Inside at evicted ⊢
  tauto

/-- An attempt of another source moves no source that stands outside. -/
theorem tryAdmit_outside (out : ¬ Inside s j) (apart : j ≠ i) (h : tryAdmit i s = some t) :
    ¬ Inside t j ∧ t.srcs[j] = s.srcs[j] := by
  have src (e : Option SrcSlot) (member : ∀ k, e = some k → k ∈ s.floor.list) :
      ¬ Inside (admitSource i e s) j ∧ (admitSource i e s).srcs[j] = s.srcs[j] :=
    ⟨fun inside => (admitSource_inside member inside).elim apart out,
      Admission.admitSource_src_other apart fun e => out (.inl (member j e))⟩
  obtain ⟨-, ⟨-, rfl⟩ | ⟨-, e, found, rfl⟩⟩ := tryAdmit_cases h
  · exact src none nofun
  · exact src (some e) fun k same => Option.some.inj same ▸ (Admission.evictee_spec found).1

theorem serve_outside (n : Nat) (out : ¬ Inside s j) : ¬ Inside (serve n s) j ∧ (serve n s).srcs[j] = s.srcs[j] := by
  induction n generalizing s with
  | zero => exact ⟨out, rfl⟩
  | succ n ih =>
    cases head : s.floor.queueHead with
    | none => rw [Service.serve_idle head]; exact ⟨out, rfl⟩
    | some k =>
      have apart : j ≠ k := fun e => out (.inr (e ▸ PlacesLaw.queue_of_head head))
      cases admitted : tryAdmit k s with
      | none => rw [Service.serve_failed head admitted]; exact ⟨out, rfl⟩
      | some t =>
        obtain ⟨outside, same⟩ := tryAdmit_outside out apart admitted
        obtain ⟨stays, still⟩ := ih outside
        rw [Service.serve_admitted head admitted]
        exact ⟨stays, still.trans same⟩

theorem serviceIf_outside (b : Bool) (out : ¬ Inside s j) :
    ¬ Inside (serviceIf b s) j ∧ (serviceIf b s).srcs[j] = s.srcs[j] := by
  cases b
  · exact ⟨out, rfl⟩
  · exact serve_outside _ out

/-! ### A record outside the floor replaced -/

/-- The member given up is judged by the members' records alone. -/
theorem evictee_congr (chair : Bool) (list : t.floor.list = s.floor.list)
    (src : ∀ k ∈ s.floor.list, t.srcs[k] = s.srcs[k]) : evictee chair t = evictee chair s := by
  have state (k : SrcSlot) (m : k ∈ s.floor.list) : t.floorState k = s.floorState k :=
    congrArg Source.floorState (src k m)
  have last : s.floor.list.find? (fun k => t.floorState k == some .last)
      = s.floor.list.find? fun k => s.floorState k == some .last := List.find?_congr fun k m => by rw [state k m]
  have hold : s.floor.list.find? (fun k => isHold (t.floorState k))
      = s.floor.list.find? fun k => isHold (s.floorState k) := List.find?_congr fun k m => by rw [state k m]
  have opened : s.floor.list.find? (fun k => t.floorState k == some .opened && t.srcs[k].isDelegate)
      = s.floor.list.find? fun k => s.floorState k == some .opened && s.srcs[k].isDelegate :=
    List.find?_congr fun k m => by rw [state k m, src k m]
  rw [evictee, list, last, hold, opened, evictee]

theorem tryAdmit_none_iff : tryAdmit i s = none ↔ (!s.srcs[i].isChair && windowExhausted s) = true ∨
    s.params.maxOpen ≤ s.floor.list.length ∧ evictee s.srcs[i].isChair s = none := by
  unfold tryAdmit
  dsimp only
  split
  next shut => exact iff_of_true rfl (.inl shut)
  next opens =>
    rw [or_iff_right opens]
    split
    next room => exact iff_of_false nofun fun h => absurd room (Nat.not_lt.mpr h.1)
    next full =>
      rw [and_iff_right (Nat.not_lt.mp full)]
      split
      next found => rw [found]; exact iff_of_false nofun nofun
      next missing => exact iff_of_true rfl missing

/-- Whether an attempt answers does not depend on a record outside the floor. -/
theorem tryAdmit_setSrc {y : Source} (out : i ∉ s.floor.list) (apart : j ≠ i) :
    tryAdmit j (s.setSrc i y) = none ↔ tryAdmit j s = none := by
  have src (k : SrcSlot) (other : k ≠ i) : (s.setSrc i y).srcs[k] = s.srcs[k] := State.setSrc_other _ _ other
  have evicted (chair : Bool) : evictee chair (s.setSrc i y) = evictee chair s :=
    evictee_congr chair rfl fun k member => src k fun e => out (e ▸ member)
  rw [tryAdmit_none_iff, tryAdmit_none_iff, src j apart, evicted]
  exact Iff.rfl

theorem queueServed_setSrc {y : Source} (out : ¬ Inside s i) (served : QueueServed s) : QueueServed (s.setSrc i y) :=
  fun k head => (tryAdmit_setSrc (fun m => out (.inl m)) fun e => out (.inr (e ▸ PlacesLaw.queue_of_head head))).mpr
    (served k head)

/-! ### One source removed, with the service behind it (R69) -/

def removal (i : SrcSlot) (s : State) : State := serviceIf (removeSource i s).2 (removeSource i s).1

theorem removal_frame (i : SrcSlot) (s : State) : FloorFrame s (removal i s) :=
  (removeSource_frame i s).trans (serviceIf_frame _ _)

theorem removeSource_member (member : i ∈ s.floor.list) : removeSource i s = (closeSource i s, true) :=
  if_pos (List.contains_iff_mem.mpr member)

theorem removal_member (member : i ∈ s.floor.list) : removal i s = pendingService (closeSource i s) := by
  rw [removal, removeSource_member member]
  rfl

theorem removal_outside_eq (out : ¬ Inside s i) : removal i s = s := by
  obtain ⟨⟨inside, -⟩ | ⟨-, same⟩, shorter⟩ := removeSource_eq i s
  · exact absurd inside out
  · have unshortened : (removeSource i s).2 = false := by
      rw [← Bool.not_eq_true, shorter]
      exact fun m => out (.inl m)
    rw [removal, unshortened, same]
    rfl

theorem removal_waiting_eq (off : i ∉ s.floor.list) (waiting : i ∈ s.floor.chairs ∨ i ∈ s.floor.delegates) :
    removal i s = closeSource i s := by
  obtain ⟨⟨-, closed⟩ | ⟨out, -⟩, shorter⟩ := removeSource_eq i s
  · have unshortened : (removeSource i s).2 = false := by
      rw [← Bool.not_eq_true, shorter]
      exact off
    rw [removal, unshortened, closed]
    rfl
  · exact absurd (.inr waiting) out

/-- A source that is no member goes without consequence for the others (R69). -/
theorem removal_waiting (off : i ∉ s.floor.list) : (removal i s).floor = { s.floor with
      chairs := s.floor.chairs.erase i, delegates := s.floor.delegates.erase i } ∧
    (∀ j : SrcSlot, j ≠ i → (removal i s).srcs[j].floorState = s.srcs[j].floorState) ∧
    (i ∈ s.floor.chairs ∨ i ∈ s.floor.delegates → (removal i s).srcs[i].floorState = some .closed) ∧
    (i ∉ s.floor.chairs → i ∉ s.floor.delegates → (removal i s).srcs[i].floorState = s.srcs[i].floorState) := by
  by_cases waiting : i ∈ s.floor.chairs ∨ i ∈ s.floor.delegates
  · rw [removal_waiting_eq off waiting, floorState_set .closed (closeSource_srcs i s), if_pos rfl, closeSource_floor,
      FloorCtl.without, List.erase_of_not_mem off]
    refine ⟨rfl, fun j apart => ?_, fun _ => rfl, fun chairs delegates => (waiting.elim chairs delegates).elim⟩
    rw [floorState_set .closed (closeSource_srcs i s), if_neg apart]
  · obtain ⟨chairs, delegates⟩ := not_or.mp waiting
    rw [removal_outside_eq (not_or.mpr ⟨off, waiting⟩), List.erase_of_not_mem chairs, List.erase_of_not_mem delegates]
    exact ⟨rfl, fun _ _ => rfl, fun h => absurd h waiting, fun _ _ => rfl⟩

/-- Where no collection holds a source twice, the removed source is off the floor for good (R57, R69). -/
theorem removal_off (list : s.floor.list.Nodup) (chairs : s.floor.chairs.Nodup) (delegates : s.floor.delegates.Nodup) :
    ¬ Inside (removal i s) i ∧
      (removal i s).srcs[i].floorState = if i ∈ s.floor.list ∨ i ∈ s.floor.chairs ∨ i ∈ s.floor.delegates
        then some .closed else s.srcs[i].floorState := by
  obtain ⟨⟨inside, closed⟩ | ⟨out, same⟩, -⟩ := removeSource_eq i s
  · have off : ¬ Inside (closeSource i s) i := by
      rw [Inside, closeSource_floor, FloorCtl.without, mem_erase_once list, mem_erase_once chairs,
        mem_erase_once delegates]
      simp
    obtain ⟨stays, still⟩ := serviceIf_outside (removeSource i s).2 off
    have named : i ∈ s.floor.list ∨ i ∈ s.floor.chairs ∨ i ∈ s.floor.delegates := inside
    rw [removal, closed, if_pos named, still, floorState_set .closed (closeSource_srcs i s), if_pos rfl]
    exact ⟨stays, rfl⟩
  · rw [removal_outside_eq out]
    have unnamed : ¬ (i ∈ s.floor.list ∨ i ∈ s.floor.chairs ∨ i ∈ s.floor.delegates) := out
    rw [if_neg unnamed]
    exact ⟨out, rfl⟩

theorem removal_served (law : PlacesLaw s) (member : i ∈ s.floor.list) : QueueServed (removal i s) := by
  rw [removal_member member]
  exact Service.pendingService_served (closeSource_places law (law.ofFloor_of_inside (.inl member)))

theorem gainFollows_of_same {k : SrcSlot} (src : u.srcs[k] = t.srcs[k]) (floor : u.floor = t.floor)
    (params : u.params = t.params) (h : GainFollows s t k) : GainFollows s u k := by
  rw [GainFollows, HandsOn, src, floor, params]
  exact h

/-! ### SRC.RETIRE (R9) -/

namespace Retire

/-- The part once the floor has let the source go and its consequences have been handed on. -/
def released (i : SrcSlot) (s : State) : State := finishEvent s (removal i s)

/-- The record a retired source is left with: FREE where it was silent, its fade otherwise. -/
def retiredSource (x : Source) : Source := if x.gain.current = off then .free else fading x

theorem retiredSource_silent {x : Source} (h : x.gain.current = -192) : retiredSource x = .free := if_pos h

theorem retiredSource_sounding {x : Source} (h : x.gain.current ≠ -192) : retiredSource x = fading x := if_neg h

theorem retireSource_setSrc (i : SrcSlot) (s : State) : retireSource i s = s.setSrc i (retiredSource s.srcs[i]) := by
  rw [retireSource_eq, retiredSource]
  split <;> rfl

theorem takeSrcRetire_active (h : s.srcs[i].state = .active) : takeSrcRetire (byteOf i) s =
    .write ((released i s).setSrc i (retiredSource (released i s).srcs[i])) := by
  rw [← retireSource_setSrc, takeSrcRetire, OneRecord.activeSrc_active h]
  rfl

theorem retireSource_withCtl (c : ControlLink) (i : SrcSlot) (s : State) :
    retireSource i (s.withCtl c) = (retireSource i s).withCtl c := by
  rw [retireSource_setSrc, retireSource_setSrc]
  rfl

theorem takeSrcRetire_withCtl (slot : Byte) (c : ControlLink) (s : State) :
    takeSrcRetire slot (s.withCtl c) = (takeSrcRetire slot s).withCtl c := by
  have same : activeSrc slot (s.withCtl c) = activeSrc slot s := rfl
  unfold takeSrcRetire
  rw [same]
  split
  next => rfl
  next i _ =>
    rw [removeSource_withCtl]
    generalize removeSource i s = a
    obtain ⟨u, b⟩ := a
    dsimp only
    rw [serviceIf_withCtl, finishEvent_withCtl, retireSource_withCtl]
    rfl

theorem released_gain (i j : SrcSlot) (s : State) : GainFollows s (released i s) j :=
  finishEvent_gain s j (by rw [(removal_frame i s).srcs j])

theorem released_current (i j : SrcSlot) (s : State) : (released i s).srcs[j].gain.current = s.srcs[j].gain.current := by
  have same : (removal i s).srcs[j].gain = s.srcs[j].gain := by rw [(removal_frame i s).srcs j]
  rw [released, finishEvent_src]
  split
  · rw [← same]
    exact GainUnit.hand_current _ _
  · rw [same]

theorem released_src (i j : SrcSlot) (s : State) : (released i s).srcs[j] = s.srcs[j].withFloorOf (released i s).srcs[j] :=
  eq_withFloorOf (finishEvent_src_frame s _ j) ((removal_frame i s).srcs j)

theorem released_end (i : SrcSlot) (s : State) : FloorEnd s (released i s) := (removal_frame i s).finish

theorem released_sameFloor (i : SrcSlot) (s : State) : SameFloor (removal i s) (released i s) :=
  finishEvent_sameFloor s _

theorem released_outside (out : ¬ Inside s i) : released i s = s := by
  rw [released, removal_outside_eq out]
  refine finishEvent_still (fun j => not_handsOn rfl rfl Iff.rfl) ?_
  rw [← Bool.not_eq_true, collectionsMoved_iff]
  rintro (h | h | h) <;> exact h rfl

/-- A source's record once it fades, its floor state left to the removal. -/
theorem fading_of_frame {x y : Source} (frame : y = x.withFloorOf y) (current : y.gain.current = x.gain.current) :
    fading y = { x with
      state := .retiring
      twm := 0
      alert := false
      floorState := (fading y).floorState
      gain := ⟨x.gain.current, -192, some ⟨x.gain.current, rampDuration (x.gain.current + 192).natAbs, 0⟩⟩ } := by
  have diff : (off - y.gain.current).natAbs = (x.gain.current + 192).natAbs := by
    rw [current]
    unfold off
    omega
  rw [fading, GainUnit.rampTo, diff, current, frame]
  rfl

/-- Settles O21: the floor lets the source go, then its record is FREE or fades. -/
theorem srcRetireFadesOrFreesTheSource : Obligations.SrcRetireFadesOrFreesTheSource := by
  unfold Obligations.SrcRetireFadesOrFreesTheSource
  intro s i ho active
  have records := written_records s
  have exec : exec (.srcRetire (byteOf i)) s
      = .next ((released i (written s)).setSrc i (retiredSource (released i (written s)).srcs[i])) :=
    congrArg Host.Outcome.next (hostPacket_written (takeSrcRetire_withCtl (byteOf i)) ho rfl
      (takeSrcRetire_active (by rw [records.srcs]; exact active)))
  generalize written s = w at *
  have src (j : SrcSlot) := released_src i j w
  have current := released_current i i w
  have gains (j : SrcSlot) := records.gains (released_gain i j w)
  have ends := released_end i w
  have left := released_sameFloor i w
  have untouched := released_outside (s := w) (i := i)
  have removed := removal_off (s := w) (i := i)
  have waits := removal_waiting (s := w) (i := i)
  have member := removal_member (s := w) (i := i)
  have closed := (records.alike.closeSource i).pendingService.sameFloor
  have served (law : MembershipLaw s) (m : i ∈ s.floor.list) : QueueServed (released i w) :=
    (finishEvent_alike w _).queueServed (removal_served (records.places law.places) (records.floor ▸ m))
  generalize released i w = v at *
  simp only [records.srcs, records.floor] at src current removed waits member untouched
  have self := State.setSrc_same v i (retiredSource v.srcs[i])
  have other (j : SrcSlot) (apart : j ≠ i) := State.setSrc_other v (retiredSource v.srcs[i]) apart
  refine ⟨_, exec, fun silent => ?free, fun sounding => ?fades, fun list chairs delegates => ?off, fun j apart => ?others,
    fun list chairs delegates => ?outside, fun m => ⟨?memberFloor, fun j apart => ?memberState⟩,
    fun m => ⟨?waitingFloor, fun j apart => ?waitingState⟩, fun law m => ?served, ends.noticed, ends.only, ?rest⟩
  case free => rw [self, retiredSource_silent (current.trans silent)]
  case fades =>
    rw [self, retiredSource_sounding fun e => sounding (current.symm.trans e)]
    exact fading_of_frame (src i) current
  case off =>
    obtain ⟨gone, state⟩ := removed list chairs delegates
    rw [Inside, ← left.1] at gone
    obtain ⟨noList, noChair, noDelegate⟩ : i ∉ v.floor.list ∧ i ∉ v.floor.chairs ∧ i ∉ v.floor.delegates := by
      simpa only [not_or] using gone
    refine ⟨noList, noChair, noDelegate, fun sounding => ?_⟩
    rw [self, retiredSource_sounding fun e => sounding (current.symm.trans e), ← state, ← left.2]
    rfl
  case others =>
    rw [other j apart]
    exact ⟨src j, gainFollows_of_same (other j apart) rfl rfl (gains j)⟩
  case outside =>
    rw [self, untouched (not_or.mpr ⟨records.floor ▸ list, not_or.mpr ⟨records.floor ▸ chairs, records.floor ▸ delegates⟩⟩),
      ← records.srcs]
    rfl
  case memberFloor => exact left.1.trans (by rw [member m]; exact closed.1)
  case memberState => rw [other j apart, left.2, member m, closed.2]
  case waitingFloor => exact left.1.trans (waits m).1
  case waitingState => rw [other j apart, left.2, (waits m).2.1 j apart]
  case served =>
    obtain ⟨gone, -⟩ := removed law.once.1 law.once.2.1 law.once.2.2
    rw [Inside, ← left.1] at gone
    exact queueServed_setSrc gone (served law m)
  case rest =>
    rw [← records.srcs, ← records.floor]
    exact ends.rest

end Retire

end Sys2Proof.Machine
end

section
/-! What an event hands on for the changes of effective mute it makes (R30, R39, R65, R69 to R71). -/

namespace Sys2Proof.Machine

variable {s t u x y : State} {i j : SrcSlot} {order : List SrcSlot} {affected : SrcSlot → Bool}

/-! ### The changes handed on one after another -/

/-- One change handed on leaves a lawful floor and the others still to be handed on. -/
theorem handToFloor_tail (law : PlacesLaw s) (h : Handed (i :: order) s) (b : Bool) :
    PlacesLaw (handToFloor (s, b) i).1 ∧ Handed order (handToFloor (s, b) i).1 ∧
      FloorFrame s (handToFloor (s, b) i).1 := by
  obtain ⟨notIn, once⟩ := List.nodup_cons.mp h.once
  obtain ⟨work, -⟩ := handToFloor_work law b (h.ofFloor i List.mem_cons_self) (h.outside i List.mem_cons_self)
  have record (j : SrcSlot) := work.frame.srcs j
  refine ⟨work.places, ⟨once, fun j hj => ?_, fun j hj unmuted inside => ?_⟩, work.frame⟩
  · rw [OfFloor, record j]
    exact h.ofFloor j (List.mem_cons_of_mem _ hj)
  · rw [record j] at unmuted
    obtain before | ⟨same, -⟩ := work.inside j inside
    · exact h.outside j (List.mem_cons_of_mem _ hj) unmuted before
    · exact notIn (same ▸ hj)

/-- Once a removal has shortened the list, that is not forgotten. -/
theorem handAll_shortened (order : List SrcSlot) (s : State) : (order.foldl handToFloor (s, true)).2 = true := by
  induction order generalizing s with
  | nil => rfl
  | cons i rest ih =>
    rw [List.foldl_cons]
    obtain ⟨-, e⟩ | ⟨-, e⟩ | ⟨-, e⟩ := handToFloor_cases s true i <;> rw [e] <;> exact ih _

/-- Where no removal has shortened the list, it is no shorter. -/
theorem handAll_length (law : PlacesLaw s) (h : Handed order s) {b : Bool}
    (unshortened : (order.foldl handToFloor (s, b)).2 = false) :
    s.floor.list.length ≤ (order.foldl handToFloor (s, b)).1.floor.list.length := by
  induction order generalizing s b with
  | nil => exact le_rfl
  | cons i rest ih =>
    obtain ⟨places, later, -⟩ := handToFloor_tail law h b
    rw [List.foldl_cons] at unshortened ⊢
    have step : s.floor.list.length ≤ (handToFloor (s, b) i).1.floor.list.length := by
      obtain ⟨muted, e⟩ | ⟨attempts, e⟩ | ⟨-, e⟩ := handToFloor_cases s b i
      · rw [e] at unshortened ⊢
        have kept : (removeSource i s).2 = false := by
          by_contra shorter
          rw [Bool.of_not_eq_false shorter, Bool.or_true, handAll_shortened] at unshortened
          cases unshortened
        obtain ⟨which, listed⟩ := removeSource_eq i s
        have off : i ∉ s.floor.list := fun m => absurd (kept.symm.trans (listed.mpr m)) nofun
        obtain ⟨-, closed⟩ | ⟨-, same⟩ := which
        · rw [closed, closeSource_floor, FloorCtl.without, List.erase_of_not_mem off]
        · rw [same]
      · rw [e]
        exact (attempt_outcome fun m => h.outside i List.mem_cons_self attempts.1 (.inl m)).2
      · rw [e]
    exact step.trans (ih places later unshortened)

/-- Where every change is a muting, a member among them makes the list shorter. -/
theorem handAll_member (b : Bool) (muted : ∀ j ∈ order, s.srcs[j].effMute = true) (listed : i ∈ order)
    (member : i ∈ s.floor.list) : (order.foldl handToFloor (s, b)).2 = true := by
  induction order generalizing s b with
  | nil => cases listed
  | cons k rest ih =>
    rw [List.foldl_cons]
    obtain ⟨-, e⟩ | ⟨⟨unmuted, -⟩, -⟩ | ⟨⟨unmuted, -⟩, -⟩ := handToFloor_cases s b k
    · rw [e]
      by_cases here : k ∈ s.floor.list
      · rw [removeSource_member here, Bool.or_true]
        exact handAll_shortened rest _
      · have apart : i ≠ k := fun e => here (e ▸ member)
        have frame := removeSource_frame k s
        refine ih _ (fun j hj => ?_) ((List.mem_cons.mp listed).resolve_left apart) ?_
        · rw [frame.srcs j]
          exact muted j (List.mem_cons_of_mem _ hj)
        · obtain ⟨⟨-, closed⟩ | ⟨-, same⟩, -⟩ := removeSource_eq k s
          · rw [closed, closeSource_floor, FloorCtl.without, List.erase_of_not_mem here]
            exact member
          · rw [same]
            exact member
    all_goals exact absurd (unmuted.symm.trans (muted k List.mem_cons_self)) nofun

/-- Closing a source of the floor that stands outside changes nothing. -/
theorem closeSource_outside_alike (law : PlacesLaw s) (h : OfFloor s i) (out : ¬ Inside s i) :
    Alike (closeSource i s) s := by
  obtain ⟨list, chairs, delegates⟩ : i ∉ s.floor.list ∧ i ∉ s.floor.chairs ∧ i ∉ s.floor.delegates := by
    simpa only [Inside, not_or] using out
  have frame := closeSource_frame i s
  refine ⟨?_, frame.params.symm, fun j => ?_, fun j => by rw [frame.srcs j]⟩
  · rw [closeSource_floor, FloorCtl.without, List.erase_of_not_mem list, List.erase_of_not_mem chairs,
      List.erase_of_not_mem delegates]
  · rw [floorState_set .closed (closeSource_srcs i s)]
    split
    next e => rw [e, law.closed_of_outside h out]
    next => rfl

/-- One step of `handedInTurn`. -/
def turn (s t : State) (a : State × Bool) (i : SrcSlot) : State × Bool :=
  if t.srcs[i].effMute then (closeSource i a.1, a.2 || decide (i ∈ a.1.floor.list))
  else if s.srcs[i].voice = .voiced then (attempt i a.1, a.2)
  else a

theorem handedInTurn_eq (s t : State) (order : List SrcSlot) :
    handedInTurn s t order = order.foldl (turn s t) (s, false) := rfl

theorem turn_alike (law : PlacesLaw x) (h : OfFloor x i) (alike : Alike y x) (b : Bool)
    (mute : x.srcs[i].effMute = t.srcs[i].effMute) (voice : x.srcs[i].voice = s.srcs[i].voice) :
    Alike (turn s t (y, b) i).1 (handToFloor (x, b) i).1 ∧ (handToFloor (x, b) i).2 = (turn s t (y, b) i).2 := by
  rw [turn, ← mute, ← voice]
  obtain ⟨muted, e⟩ | ⟨⟨unmuted, voiced⟩, e⟩ | ⟨⟨unmuted, quiet⟩, e⟩ := handToFloor_cases x b i <;> rw [e]
  · rw [if_pos muted]
    obtain ⟨which, listed⟩ := removeSource_eq i x
    have flag : (removeSource i x).2 = decide (i ∈ y.floor.list) := by
      rw [← alike.floor, Bool.eq_iff_iff, listed, decide_eq_true_iff]
    rw [flag]
    obtain ⟨-, closed⟩ | ⟨out, same⟩ := which
    · rw [closed]
      exact ⟨alike.closeSource i, rfl⟩
    · rw [same]
      exact ⟨(alike.closeSource i).trans (closeSource_outside_alike law h out), rfl⟩
  · rw [if_neg (by rw [unmuted]; nofun), if_pos voiced]
    exact ⟨alike.attempt i, rfl⟩
  · rw [if_neg (by rw [unmuted]; nofun), if_neg (by rw [quiet]; nofun)]
    exact ⟨alike, rfl⟩

theorem turns_alike (law : PlacesLaw x) (h : Handed order x) (alike : Alike y x) (b : Bool)
    (same : ∀ j ∈ order, x.srcs[j].effMute = t.srcs[j].effMute ∧ x.srcs[j].voice = s.srcs[j].voice) :
    Alike (order.foldl (turn s t) (y, b)).1 (order.foldl handToFloor (x, b)).1 ∧
      (order.foldl handToFloor (x, b)).2 = (order.foldl (turn s t) (y, b)).2 := by
  induction order generalizing x y b with
  | nil => exact ⟨alike, rfl⟩
  | cons i rest ih =>
    obtain ⟨mute, voice⟩ := same i List.mem_cons_self
    obtain ⟨first, flag⟩ := turn_alike law (h.ofFloor i List.mem_cons_self) alike b mute voice
    obtain ⟨places, later, frame⟩ := handToFloor_tail law h b
    rw [List.foldl_cons, List.foldl_cons]
    generalize turn s t (y, b) i = c at first flag ⊢
    generalize handToFloor (x, b) i = a at first flag places later frame ⊢
    obtain ⟨c, k⟩ := c
    obtain ⟨a, l⟩ := a
    obtain rfl : l = k := flag
    refine ih places later first l fun j hj => ?_
    rw [frame.srcs j]
    exact same j (List.mem_cons_of_mem _ hj)

/-! ### What a derivation of the mutes leaves -/

/-- The free order's counter is no part of what the Floor Controller reads. -/
theorem withFreeCount_alike (u : State) (n : Nat) : Alike u { u with freeCount := n } :=
  ⟨rfl, rfl, fun _ => rfl, fun _ => rfl⟩

theorem finishEvent_counted_src (s u : State) (n : Nat) (i : SrcSlot) : (finishEvent s { u with freeCount := n }).srcs[i]
    = { u.srcs[i] with gain := (finishEvent s { u with freeCount := n }).srcs[i].gain } :=
  finishEvent_src_frame s { u with freeCount := n } i

/-- The level fields that a change of mute moves (R30). -/
theorem deriveMutes_twm (affected : SrcSlot → Bool) (s : State) (i : SrcSlot) :
    (deriveMutes affected s).srcs[i].twm = (mutesWritten s (muteChanges affected s)).srcs[i].twm ∧
      (deriveMutes affected s).srcs[i].alert = (mutesWritten s (muteChanges affected s)).srcs[i].alert := by
  by_cases h : muteChanges affected s = []
  · rw [deriveMutes_nil h, mutesWritten_src, if_neg (by rw [h]; exact List.not_mem_nil)]
    exact ⟨rfl, rfl⟩
  · rw [deriveMutes_eq h, finishEvent_counted_src, (mutesServed_frame affected s).srcs i]
    generalize (mutesWritten s (muteChanges affected s)).srcs[i] = y
    exact ⟨rfl, rfl⟩

/-- A derivation changes exactly the mutes it finds changed. -/
theorem deriveMutes_changes (affected : SrcSlot → Bool) (s : State) (i : SrcSlot) :
    s.srcs[i].effMute ≠ (deriveMutes affected s).srcs[i].effMute ↔ i ∈ muteChanges affected s := by
  rw [deriveMutes_effMute]
  by_cases h : i ∈ muteChanges affected s
  · rw [if_pos h]
    exact iff_of_true (mem_muteChanges.mp h).2.2.symm h
  · rw [if_neg h]
    exact iff_of_false (fun ne => ne rfl) h

theorem mutesWritten_effMute (affected : SrcSlot → Bool) (s : State) (i : SrcSlot) :
    (mutesWritten s (muteChanges affected s)).srcs[i].effMute = (deriveMutes affected s).srcs[i].effMute := by
  rw [deriveMutes_effMute, mutesWritten_src]
  split <;> rfl

/-- The floor and the gains once the mutes have been derived: those that the floor's work leaves. -/
theorem deriveMutes_alike (h : muteChanges affected s ≠ []) : Alike (mutesServed affected s) (deriveMutes affected s) := by
  rw [deriveMutes_eq h]
  exact (withFreeCount_alike _ _).trans (finishEvent_alike s _)

theorem gainFollows_refl (s : State) (i : SrcSlot) : GainFollows s s i :=
  ⟨fun hands => absurd hands (not_handsOn rfl rfl Iff.rfl), fun _ => rfl⟩

theorem deriveMutes_gain (affected : SrcSlot → Bool) (s : State) (i : SrcSlot) :
    GainFollows s (deriveMutes affected s) i := by
  by_cases h : muteChanges affected s = []
  · rw [deriveMutes_nil h]
    exact gainFollows_refl s i
  · have gain : (mutesServed affected s).srcs[i].gain = s.srcs[i].gain := by
      rw [(mutesServed_frame affected s).srcs i, (mutesWritten_written s _).frame i]
    rw [deriveMutes_eq h]
    exact finishEvent_gain (t := { mutesServed affected s with freeCount := s.freeCount + 1 }) s i gain

theorem deriveMutes_noticed (affected : SrcSlot → Bool) (s : State) :
    FloorNoticed s (deriveMutes affected s) ∧ OnlyNotices [.floor] s (deriveMutes affected s) := by
  by_cases h : muteChanges affected s = []
  · rw [deriveMutes_nil h]
    exact ⟨by simp [FloorNoticed], onlyNotices_refl _ s⟩
  · have notice : (mutesServed affected s).notice = s.notice :=
      (mutesServed_frame affected s).notice.trans (State.mapSrcs_notice _ _)
    rw [deriveMutes_eq h]
    exact ⟨finishEvent_noticed (congrArg (fun n : NoticeUnit => n.set.floor) notice),
      finishEvent_only List.mem_cons_self (.of_notice notice)⟩

section Changed

variable (law : MembershipLaw s)
include law

/-- A changed source that stands in a collection afterwards has been handed on. -/
theorem handed_of_inside (change : i ∈ muteChanges affected s) (inside : Inside (mutesServed affected s) i) :
    i ∈ handedOrder affected s := by
  have ofFloor := (mutesServed_membership (affected := affected) law).places.ofFloor_of_inside inside
  have frame := (mutesServed_frame affected s).srcs i
  have before := (mutesWritten_written s (muteChanges affected s)).frame i
  exact mem_handedOrder.mpr ⟨change, ofFloor.of_same (by rw [frame, before]) (by rw [frame, before])⟩

variable (changed : muteChanges affected s ≠ [])
include changed

theorem changed_muted (muted : s.srcs[i].effMute = false) (now : (deriveMutes affected s).srcs[i].effMute = true) :
    ¬ Inside (deriveMutes affected s) i := by
  have change := (deriveMutes_changes affected s i).mp (by rw [muted, now]; nofun)
  rw [Inside, (deriveMutes_alike changed).floor]
  intro inside
  have handed := handed_of_inside law change inside
  exact ((mutesServed_work law).2 i handed).1 (by rw [mutesWritten_effMute, now]) inside

theorem changed_voiced (muted : s.srcs[i].effMute = true) (now : (deriveMutes affected s).srcs[i].effMute = false)
    (ofFloor : OfFloor s i) (voice : s.srcs[i].voice = .voiced) :
    (deriveMutes affected s).srcs[i].floorState = some .opened ∧ i ∈ (deriveMutes affected s).floor.list ∨
      (deriveMutes affected s).srcs[i].floorState = some .pending ∧
        (i ∈ (deriveMutes affected s).floor.chairs ∨ i ∈ (deriveMutes affected s).floor.delegates) := by
  have change := (deriveMutes_changes affected s i).mp (by rw [muted, now]; nofun)
  have before := (mutesWritten_written s (muteChanges affected s)).frame i
  have written : (mutesWritten s (muteChanges affected s)).srcs[i].voice = s.srcs[i].voice := by
    rw [mutesWritten_src]
    split <;> rfl
  obtain ⟨work, each⟩ := mutesServed_work (affected := affected) law
  have called := (each i (mem_handedOrder.mpr ⟨change, ofFloor⟩)).2
    ⟨by rw [mutesWritten_effMute, now], written.trans voice⟩
  have still : OfFloor (mutesServed affected s) i :=
    ofFloor.of_same (by rw [work.frame.srcs i, before]) (by rw [work.frame.srcs i, before])
  rw [(deriveMutes_alike changed).floor, (deriveMutes_alike changed).floorState, work.places.mem_list_iff still,
    work.places.mem_queue_iff still]
  exact called.imp (fun e => ⟨e, by rw [e]; rfl⟩) fun e => ⟨e, e⟩

theorem changed_quiet (muted : s.srcs[i].effMute = true) (ofFloor : OfFloor s i) (voice : s.srcs[i].voice = .quiet) :
    (deriveMutes affected s).srcs[i].floorState = some .closed := by
  have written := mutesWritten_written s (muteChanges affected s)
  have out : ¬ Inside s i := fun inside => absurd ((law.unmuted i inside).symm.trans muted) nofun
  have closed : (mutesWritten s (muteChanges affected s)).srcs[i].floorState = some .closed := by
    rw [written.alike.floorState]
    exact law.places.closed_of_outside ofFloor out
  have silent : (mutesWritten s (muteChanges affected s)).srcs[i].voice = .quiet := by
    rw [mutesWritten_src]
    split <;> exact voice
  rw [(deriveMutes_alike changed).floorState]
  exact (mutesServed_work law).1.closed (written.places law.places) closed fun entered =>
    absurd (entered.2.2.symm.trans silent) nofun

theorem changed_served (due : (deriveMutes affected s).floor.list.length < s.floor.list.length ∨
    (∃ i ∈ s.floor.list, (deriveMutes affected s).srcs[i].effMute = true) ∧
      ∀ i : SrcSlot, s.srcs[i].effMute = true → (deriveMutes affected s).srcs[i].effMute = true) :
    QueueServed (deriveMutes affected s) := by
  have written := mutesWritten_written s (muteChanges affected s)
  have places := written.places law.places
  have handed := handedOrder_handed (affected := affected) law
  have work := (handAll_work places handed false).1
  refine (deriveMutes_alike changed).queueServed ?_
  rw [(deriveMutes_alike changed).floor] at due
  rw [mutesServed] at due ⊢
  cases flag : (mutesHanded affected s).2 with
  | true => exact Service.pendingService_served work.places
  | false =>
    rw [flag] at due
    have kept := handAll_length places handed flag
    rw [written.floor] at kept
    obtain shorter | ⟨⟨i, member, now⟩, mutings⟩ := due
    · exact absurd shorter (Nat.not_lt.mpr kept)
    · have unmuted := law.unmuted i (.inl member)
      have change := (deriveMutes_changes affected s i).mp (by rw [unmuted, now]; nofun)
      have all (j : SrcSlot) (hj : j ∈ handedOrder affected s) :
          (mutesWritten s (muteChanges affected s)).srcs[j].effMute = true := by
        rw [mutesWritten_effMute]
        have differs := (deriveMutes_changes affected s j).mpr (mem_handedOrder.mp hj).1
        cases before : s.srcs[j].effMute with
        | true => exact mutings j before
        | false => rw [before] at differs; exact Bool.of_not_eq_false differs.symm
      have shortened := handAll_member false all
        (mem_handedOrder.mpr ⟨change, law.places.ofFloor_of_inside (.inl member)⟩) (by rw [written.floor]; exact member)
      exact absurd (shortened.symm.trans flag) nofun

theorem changed_floor : SameFloor (serviceIf (handedInTurn s (deriveMutes affected s) (handedOrder affected s)).2
    (handedInTurn s (deriveMutes affected s) (handedOrder affected s)).1) (deriveMutes affected s) := by
  have written := mutesWritten_written s (muteChanges affected s)
  have voice (j : SrcSlot) : (mutesWritten s (muteChanges affected s)).srcs[j].voice = s.srcs[j].voice := by
    rw [mutesWritten_src]
    split <;> rfl
  obtain ⟨alike, flag⟩ := turns_alike (s := s) (t := deriveMutes affected s) (written.places law.places)
    (handedOrder_handed (affected := affected) law) written.alike false
    fun j _ => ⟨mutesWritten_effMute affected s j, voice j⟩
  rw [handedInTurn_eq, ← flag]
  exact ((alike.serviceIf _).trans (deriveMutes_alike changed)).sameFloor

end Changed

/-- A derivation of the mutes hands on what R30, R39, R65 and R69 to R71 ask. -/
theorem deriveMutes_handedOn (affected : SrcSlot → Bool) (s : State) : MutesHandedOn s (deriveMutes affected s) where
  cleared i muted now := by
    have change := (deriveMutes_changes affected s i).mp (by rw [muted, now]; nofun)
    obtain ⟨twm, alert⟩ := deriveMutes_twm affected s i
    have written := mutesWritten_effMute affected s i
    rw [twm, alert]
    rw [now, mutesWritten_src, if_pos change] at written
    have off : deriveMute s.mute s.srcs[i] = false := written
    rw [mutesWritten_src, if_pos change, off]
    exact ⟨rfl, rfl⟩
  kept i still := by
    obtain ⟨twm, alert⟩ := deriveMutes_twm affected s i
    rw [twm, alert, mutesWritten_src]
    split
    next change =>
      have written := mutesWritten_effMute affected s i
      rw [mutesWritten_src, if_pos change] at written
      have differs := (deriveMutes_changes affected s i).mpr change
      have now : deriveMute s.mute s.srcs[i] = true := by
        refine Eq.trans written ?_
        obtain before | now := still
        · rw [before] at differs
          exact Bool.of_not_eq_false differs.symm
        · exact now
      rw [now]
      exact ⟨rfl, rfl⟩
    next => exact ⟨rfl, rfl⟩
  muted law i muted now := by
    have changed : muteChanges affected s ≠ [] :=
      List.ne_nil_of_mem ((deriveMutes_changes affected s i).mp (by rw [muted, now]; nofun))
    simpa only [Inside, not_or] using changed_muted law changed muted now
  voiced law i muted now active bound voice := by
    have changed : muteChanges affected s ≠ [] :=
      List.ne_nil_of_mem ((deriveMutes_changes affected s i).mp (by rw [muted, now]; nofun))
    exact changed_voiced law changed muted now ⟨isActive_iff.mpr active, bound⟩ voice
  quiet law i muted now active bound voice := by
    have changed : muteChanges affected s ≠ [] :=
      List.ne_nil_of_mem ((deriveMutes_changes affected s i).mp (by rw [muted, now]; nofun))
    exact changed_quiet law changed muted ⟨isActive_iff.mpr active, bound⟩ voice
  gains := deriveMutes_gain affected s
  served law due := by
    by_cases same : muteChanges affected s = []
    · rw [deriveMutes_nil same] at due
      obtain shorter | ⟨⟨i, member, muted⟩, -⟩ := due
      · exact absurd shorter (lt_irrefl _)
      · exact absurd ((law.unmuted i (.inl member)).symm.trans muted) nofun
    · exact changed_served law same due
  floor law := by
    refine ⟨handedOrder affected s, (inFreeOrder_perm _ _).nodup_iff.mpr ((muteChanges_nodup affected s).filter _),
      fun i => ?_, ?_⟩
    · rw [mem_handedOrder, deriveMutes_changes, OfFloor, isActive_iff]
      tauto
    · by_cases same : muteChanges affected s = []
      · have none_handed : handedOrder affected s = [] := List.eq_nil_iff_forall_not_mem.mpr fun i handed => by
          have change := (mem_handedOrder.mp handed).1
          rw [same] at change
          cases change
        rw [none_handed, deriveMutes_nil same]
        exact ⟨rfl, fun _ => rfl⟩
      · exact changed_floor law same

end Sys2Proof.Machine
end

section
/-! Proof for O24, GRP.MUTE and ROOM.MUTE: changes of mute seen from the state before their inputs moved. -/

namespace Sys2Proof.Machine

variable {s t u w : State} {i j : SrcSlot} {affected : SrcSlot → Bool}

/-! ### The inputs of the mutes moved -/

/-- From `s` to `w` no more of the sources and the floor has moved than groups, user mutes and privacy. -/
structure InputsMoved (s w : State) : Prop where
  src : ∀ i : SrcSlot, w.srcs[i] = { s.srcs[i] with
    groups := w.srcs[i].groups, userMute := w.srcs[i].userMute, privacy := w.srcs[i].privacy }
  floor : w.floor = s.floor
  params : w.params = s.params

namespace InputsMoved

theorem of_srcs (srcs : w.srcs = s.srcs) (floor : w.floor = s.floor) (banks : w.banks = s.banks) : InputsMoved s w :=
  ⟨fun i => by rw [srcs], floor, params_of_banks banks⟩

theorem trans (h : InputsMoved s w) (k : InputsMoved w t) : InputsMoved s t :=
  ⟨fun i => by rw [k.src i, h.src i], k.floor.trans h.floor, k.params.trans h.params⟩

variable (h : InputsMoved s w)
include h

theorem alike : Alike s w := ⟨h.floor, h.params, fun i => by rw [h.src i], fun i => by rw [h.src i]⟩

theorem effMute (i : SrcSlot) : w.srcs[i].effMute = s.srcs[i].effMute := by rw [h.src i]

theorem state (i : SrcSlot) : w.srcs[i].state = s.srcs[i].state := by rw [h.src i]

theorem voice (i : SrcSlot) : w.srcs[i].voice = s.srcs[i].voice := by rw [h.src i]

theorem floorClass (i : SrcSlot) : w.srcs[i].floorClass = s.srcs[i].floorClass := by rw [h.src i]; rfl

theorem membership (law : MembershipLaw s) : MembershipLaw w :=
  law.of_same (by rw [h.floor]) (by rw [h.floor]) (by rw [h.floor]) (fun i => by rw [h.src i]) (fun i => by rw [h.src i])
    (fun i => by rw [h.src i]) fun i => by rw [h.src i]

theorem gains (gain : GainFollows w t i) : GainFollows s t i := by
  have floorState := h.alike.floorState i
  have same : w.srcs[i].gain = s.srcs[i].gain := by rw [h.src i]
  rw [GainFollows, HandsOn, gateShut, gateShut, h.effMute, h.floor, floorState, same] at gain
  exact gain

/-- The changes handed on in turn are the same. -/
theorem turns (t : State) (order : List SrcSlot) : Alike (handedInTurn s t order).1 (handedInTurn w t order).1 ∧
    (handedInTurn w t order).2 = (handedInTurn s t order).2 := by
  have voice := h.voice
  have start := h.alike
  rw [handedInTurn_eq, handedInTurn_eq]
  generalize false = b
  clear h
  suffices step : ∀ x y : State, Alike x y → ∀ b, Alike (order.foldl (turn s t) (x, b)).1 (order.foldl (turn w t) (y, b)).1 ∧
      (order.foldl (turn w t) (y, b)).2 = (order.foldl (turn s t) (x, b)).2 from step s w start b
  induction order with
  | nil => exact fun _ _ alike _ => ⟨alike, rfl⟩
  | cons i rest ih =>
    intro x y alike b
    rw [List.foldl_cons, List.foldl_cons, turn, turn, voice, alike.floor]
    split
    · exact ih _ _ (alike.closeSource i) _
    · split
      · exact ih _ _ (alike.attempt i) _
      · exact ih _ _ alike _

theorem handedOn (k : MutesHandedOn w t) : MutesHandedOn s t where
  cleared i := by
    rw [← h.effMute]
    exact k.cleared i
  kept i still := by
    have kept := k.kept i (by rw [h.effMute]; exact still)
    rw [h.src i] at kept
    exact kept
  muted law i := by
    rw [← h.effMute]
    exact k.muted (h.membership law) i
  voiced law i := by
    rw [← h.effMute, ← h.state, ← h.floorClass, ← h.voice]
    exact k.voiced (h.membership law) i
  quiet law i := by
    rw [← h.effMute, ← h.state, ← h.floorClass, ← h.voice]
    exact k.quiet (h.membership law) i
  gains i := h.gains (k.gains i)
  served law due := by
    refine k.served (h.membership law) ?_
    simp only [h.floor, h.effMute]
    exact due
  floor law := by
    obtain ⟨order, once, listed, floor⟩ := k.floor (h.membership law)
    refine ⟨order, once, fun i => ?_, ?_⟩
    · rw [listed, h.state, h.floorClass, h.effMute]
    · obtain ⟨alike, flag⟩ := h.turns t order
      rw [flag] at floor
      have first := (alike.serviceIf (handedInTurn s t order).2).sameFloor
      exact ⟨floor.1.trans first.1, fun i => (floor.2 i).trans (first.2 i)⟩

end InputsMoved

theorem SameRecords.inputs (h : SameRecords s w) : InputsMoved s w := .of_srcs h.srcs h.floor h.banks

/-- A derivation that reaches no source changes nothing. -/
theorem deriveMutes_unaffected (s : State) : deriveMutes (fun _ => false) s = s :=
  deriveMutes_nil (List.eq_nil_iff_forall_not_mem.mpr fun _ change => absurd (mem_muteChanges.mp change).1 nofun)

/-! ### GRP.MUTE and ROOM.MUTE (R44, R45) -/

namespace MuteCommands

theorem takeGrpMute_withCtl (group : Byte) (on : Bool) (c : ControlLink) (s : State) :
    takeGrpMute group on (s.withCtl c) = (takeGrpMute group on s).withCtl c := by
  unfold takeGrpMute
  split
  next => rfl
  next g _ =>
    rw [Taken.withCtl_ite]
    refine if_congr Iff.rfl rfl (congrArg Taken.write ?_)
    exact deriveMutes_withCtl c _ { s with mute := { s.mute with groups := setGroup s.mute.groups g on } }

theorem takeRoomMute_withCtl (on : Bool) (c : ControlLink) (s : State) :
    takeRoomMute on (s.withCtl c) = (takeRoomMute on s).withCtl c := by
  unfold takeRoomMute
  rw [Taken.withCtl_ite]
  refine if_congr Iff.rfl rfl (congrArg Taken.write ?_)
  exact deriveMutes_withCtl c _ { s with mute := { s.mute with room := on } }

theorem takeGrpMute_in (g : Fin 16) (on : Bool) (s : State) : takeGrpMute (byteOf g) on s =
    if s.mute.groups.getLsbD g.val = on then .write s else .write (deriveMutes (fun i => s.srcs[i].groups.getLsbD g.val)
      { s with mute := { s.mute with groups := setGroup s.mute.groups g on } }) := by
  rw [takeGrpMute, numberBelow_byteOf g (by decide)]

theorem written_muteLaw (law : MuteLaw s) : MuteLaw (written s) :=
  (quiet_ctl _).kept.mute ((openPacket_quiet s).kept.mute law)

/-- The group mutes after a GRP.MUTE, from their bits. -/
theorem groups_of_bits {m : MuteUnit} {g : Fin 16} {on : Bool} (room : m.room = s.mute.room)
    (bits : ∀ j, j < 16 → m.groups.getLsbD j = if j = g.val then on else s.mute.groups.getLsbD j) :
    m = { s.mute with groups := setGroup s.mute.groups g on } := by
  have groups : m.groups = setGroup s.mute.groups g on :=
    BitVec.eq_of_getLsbD_eq fun j hj => (bits j hj).trans (setGroup_getLsbD _ g on j hj).symm
  rw [← groups]
  dsimp only
  rw [← room]

/-- Either command derives the mutes that can read the change, or none where the value stands already. -/
theorem exec_muteUnit {c : Instr} {m : MuteUnit} (ho : hostOwnsLine s)
    (h : (∃ (g : Fin 16) (on : Bool), c = .grpMute (byteOf g) on ∧ m.room = s.mute.room ∧
        ∀ j, j < 16 → m.groups.getLsbD j = if j = g.val then on else s.mute.groups.getLsbD j) ∨
      ∃ on : Bool, c = .roomMute on ∧ m = ⟨s.mute.groups, on⟩) :
    ∃ affected, exec c s = .next (deriveMutes affected { written s with mute := m }) ∧
      AllKept (written s) (deriveMutes affected { written s with mute := m }) := by
  have mute : (written s).mute = s.mute := (written_records s).mute
  obtain ⟨g, on, rfl, room, bits⟩ | ⟨on, rfl, rfl⟩ := h
  · obtain rfl := groups_of_bits room bits
    rw [← mute]
    by_cases stands : (written s).mute.groups.getLsbD g.val = on
    · have same : setGroup (written s).mute.groups g on = (written s).mute.groups :=
        BitVec.eq_of_getLsbD_eq fun j hj => by
          rw [setGroup_getLsbD _ g on j hj]
          split
          next e => rw [e, stands]
          next => rfl
      rw [same]
      refine ⟨fun _ => false, congrArg Host.Outcome.next ?_, ?_⟩ <;> rw [deriveMutes_unaffected]
      · exact hostPacket_written (takeGrpMute_withCtl (byteOf g) on) ho rfl
          ((takeGrpMute_in g on _).trans (if_pos stands))
      · exact .refl _
    · exact ⟨_, congrArg Host.Outcome.next (hostPacket_written (takeGrpMute_withCtl (byteOf g) on) ho rfl
        ((takeGrpMute_in g on _).trans (if_neg stands))), grpMute_all g on⟩
  · rw [← mute]
    by_cases stands : (written s).mute.room = on
    · have same : (⟨(written s).mute.groups, on⟩ : MuteUnit) = (written s).mute := by rw [← stands]
      rw [same]
      refine ⟨fun _ => false, congrArg Host.Outcome.next ?_, ?_⟩ <;> rw [deriveMutes_unaffected]
      · exact hostPacket_written (takeRoomMute_withCtl on) ho rfl (if_pos stands)
      · exact .refl _
    · exact ⟨_, congrArg Host.Outcome.next (hostPacket_written (takeRoomMute_withCtl on) ho rfl (if_neg stands)),
        roomMute_all on⟩

/-- Settles O24: the mutes derived from the new group mutes or room mute, and every change handed on. -/
theorem grpMuteAndRoomMuteKeepTheMutesDerived : Obligations.GrpMuteAndRoomMuteKeepTheMutesDerived := by
  unfold Obligations.GrpMuteAndRoomMuteKeepTheMutesDerived
  refine fun s ho => ⟨fun group on out => ?refused, fun g on held => ?group, fun on held => ?room, fun c m h => ?moved⟩
  case refused =>
    refine congrArg Host.Outcome.next (hostPacket_refused ho rfl ?_)
    rw [takeGrpMute, numberBelow_out out]
  case group =>
    refine congrArg Host.Outcome.next (hostPacket_written (takeGrpMute_withCtl (byteOf g) on) ho rfl
      ((takeGrpMute_in g on _).trans (if_pos ?_)))
    rw [(written_records s).mute]
    exact held
  case room =>
    refine congrArg Host.Outcome.next (hostPacket_written (takeRoomMute_withCtl on) ho rfl (if_pos ?_))
    rw [(written_records s).mute]
    exact held
  case moved =>
    obtain ⟨affected, exec, kept⟩ := exec_muteUnit ho h
    have records := written_records s
    have law (l : MuteLaw s) := kept.mute (written_muteLaw l)
    have handed := deriveMutes_handedOn affected { written s with mute := m }
    have src := deriveMutes_src { written s with mute := m } affected
    have rest := deriveMutes_rest { written s with mute := m } affected
    obtain ⟨noticed, only⟩ := deriveMutes_noticed affected { written s with mute := m }
    obtain ⟨mute, -⟩ := deriveMutes_shares affected { written s with mute := m }
    generalize written s = w at *
    have moved : InputsMoved s { w with mute := m } := .of_srcs records.srcs records.floor records.banks
    generalize deriveMutes affected { w with mute := m } = t at *
    refine ⟨t, exec, mute, law, fun i => ?_, moved.handedOn handed, noticed, only, ?_⟩
    · rw [← records.srcs]
      exact src i
    · rw [← records.srcs, ← records.floor, ← records.mute, ← records.freeCount]
      exact (congrArg (fun v : State => { v with mute := w.mute }) rest :)

end MuteCommands

end Sys2Proof.Machine
end

section
/-! Proof for O23: SRC.MUTE and SRC.GROUPS. -/

namespace Sys2Proof.Machine

variable {s t u w : State} {i j : SrcSlot} {x : Source}

theorem serviceIf_false (s : State) : serviceIf false s = s := rfl

/-- Whatever the floor was, an attempt leaves its source OPEN on the list or PENDING in the queue (R58, R64). -/
theorem attempt_stands (i : SrcSlot) (s : State) :
    (attempt i s).srcs[i].floorState = some .opened ∧ i ∈ (attempt i s).floor.list ∨
      (attempt i s).srcs[i].floorState = some .pending ∧
        (i ∈ (attempt i s).floor.chairs ∨ i ∈ (attempt i s).floor.delegates) := by
  have admitted (e : Option SrcSlot) :
      (admitSource i e s).srcs[i].floorState = some .opened ∧ i ∈ (admitSource i e s).floor.list := by
    rw [Admission.admitSource_eq, floorState_set .opened (Admission.admitSource_none_srcs i _), if_pos rfl,
      Admission.admitSource_none_floor]
    exact ⟨rfl, List.mem_append_right _ List.mem_cons_self⟩
  unfold attempt
  cases h : tryAdmit i s with
  | none =>
    rw [Option.getD_none, floorState_set .pending (joinTail_srcs i s), if_pos rfl, joinTail_floor]
    refine .inr ⟨rfl, ?_⟩
    cases s.srcs[i].isChair
    · exact .inr (List.mem_append_right _ List.mem_cons_self)
    · exact .inl (List.mem_append_right _ List.mem_cons_self)
  | some t =>
    rw [Option.getD_some]
    obtain ⟨-, ⟨-, rfl⟩ | ⟨-, e, -, rfl⟩⟩ := tryAdmit_cases h <;> exact .inl (admitted _)

theorem composeTarget_muted (p : Params) (n : Nat) (muted : x.effMute = true) : composeTarget p n x = -192 := by
  rw [composeTarget, muted]
  rfl

/-! ### The mute of one ACTIVE source derived again -/

namespace OneMute

/-- The mute of source `i` alone derived again, its record taken to be `x` (R15, R41). -/
def remuted (i : SrcSlot) (x : Source) (s : State) : State := deriveMutes (· == i) (s.setSrc i x)

theorem changes_of_same (h : deriveMute s.mute s.srcs[i] = s.srcs[i].effMute) : muteChanges (· == i) s = [] := by
  refine List.eq_nil_iff_forall_not_mem.mpr fun j change => ?_
  obtain ⟨here, -, differs⟩ := mem_muteChanges.mp change
  rw [beq_iff_eq.mp here] at differs
  exact differs h

theorem eq_singleton {l : List SrcSlot} (once : l.Nodup) (single : ∀ j, j ∈ l ↔ j = i) : l = [i] :=
  List.perm_singleton.mp ((List.perm_ext_iff_of_nodup once (List.nodup_singleton i)).mpr fun j => by
    rw [single, List.mem_singleton])

section Differs

variable (used : s.srcs[i].inUse = true) (differs : deriveMute s.mute s.srcs[i] ≠ s.srcs[i].effMute)
include used differs

theorem mem_changes (j : SrcSlot) : j ∈ muteChanges (· == i) s ↔ j = i := by
  rw [mem_muteChanges, beq_iff_eq]
  exact ⟨fun change => change.1, fun e => by rw [e]; exact ⟨rfl, used, differs⟩⟩

theorem changed : muteChanges (· == i) s ≠ [] := List.ne_nil_of_mem ((mem_changes used differs i).mpr rfl)

theorem order_of_ofFloor (h : OfFloor s i) : handedOrder (· == i) s = [i] :=
  eq_singleton ((inFreeOrder_perm _ _).nodup_iff.mpr ((muteChanges_nodup _ s).filter _)) fun j => by
    rw [mem_handedOrder, mem_changes used differs]
    exact and_iff_left_of_imp fun e => e ▸ h

theorem order_of_apart (h : ¬ OfFloor s i) : handedOrder (· == i) s = [] :=
  List.eq_nil_iff_forall_not_mem.mpr fun j handed => by
    obtain ⟨change, ofFloor⟩ := mem_handedOrder.mp handed
    rw [mem_changes used differs] at change
    exact h (change ▸ ofFloor)

/-- The part with the one mute written, the floor not yet told. -/
def inked (i : SrcSlot) (s : State) : State := mutesWritten s (muteChanges (· == i) s)

omit used differs in
theorem inked_written (i : SrcSlot) (s : State) : Written s (inked i s) := mutesWritten_written s _

theorem inked_self : (inked i s).srcs[i] = setMute (deriveMute s.mute s.srcs[i]) s.srcs[i] := by
  rw [inked, mutesWritten_src, if_pos ((mem_changes used differs i).mpr rfl)]

theorem inked_other (apart : j ≠ i) : (inked i s).srcs[j] = s.srcs[j] := by
  rw [inked, mutesWritten_src, if_neg fun change => apart ((mem_changes used differs j).mp change)]

theorem served_apart (h : ¬ OfFloor s i) : mutesServed (· == i) s = inked i s := by
  have handed : mutesHanded (· == i) s = (inked i s, false) := by
    rw [mutesHanded, order_of_apart used differs h, List.foldl_nil, inked]
  rw [mutesServed, handed]
  exact serviceIf_false _

theorem handed_eq (h : OfFloor s i) : mutesHanded (· == i) s = handToFloor (inked i s, false) i := by
  rw [mutesHanded, order_of_ofFloor used differs h, List.foldl_cons, List.foldl_nil, inked]

theorem served_muted (h : OfFloor s i) (muted : deriveMute s.mute s.srcs[i] = true) :
    mutesServed (· == i) s = removal i (inked i s) := by
  have self := inked_self used differs
  rw [mutesServed, handed_eq used differs h]
  obtain ⟨-, e⟩ | ⟨⟨unmuted, -⟩, -⟩ | ⟨⟨unmuted, -⟩, -⟩ := handToFloor_cases (inked i s) false i
  · rw [e, Bool.false_or, removal]
  all_goals
    rw [self, muted] at unmuted
    cases unmuted

theorem served_unmuted (h : OfFloor s i) (unmuted : deriveMute s.mute s.srcs[i] = false) :
    mutesServed (· == i) s = if s.srcs[i].voice = .voiced then attempt i (inked i s) else inked i s := by
  have self := inked_self used differs
  have voice : (inked i s).srcs[i].voice = s.srcs[i].voice := by rw [self]; rfl
  rw [mutesServed, handed_eq used differs h, ← voice]
  obtain ⟨muted, -⟩ | ⟨⟨-, voiced⟩, e⟩ | ⟨⟨-, quiet⟩, e⟩ := handToFloor_cases (inked i s) false i
  · rw [self, unmuted] at muted
    cases muted
  · rw [e, if_pos voiced, serviceIf_false]
  · rw [e, if_neg (by rw [quiet]; nofun), serviceIf_false]

/-- On a lawful floor a muted source is removed from it, if it stood there. -/
theorem served_removed (law : MembershipLaw s) (muted : deriveMute s.mute s.srcs[i] = true) :
    mutesServed (· == i) s = removal i (inked i s) := by
  by_cases h : OfFloor s i
  · exact served_muted used differs h muted
  · rw [served_apart used differs h, removal_outside_eq]
    rw [Inside, (inked_written i s).floor]
    exact fun inside => h (law.places.ofFloor_of_inside inside)

theorem remuted_alike : Alike (mutesServed (· == i) s) (deriveMutes (· == i) s) :=
  deriveMutes_alike (changed used differs)

theorem effMute_eq : (deriveMutes (· == i) s).srcs[i].effMute = deriveMute s.mute s.srcs[i] := by
  rw [deriveMutes_effMute, if_pos ((mem_changes used differs i).mpr rfl)]

/-- The target handed on to the source whose mute has changed (R39, R102). -/
theorem target_eq (active : s.srcs[i].state = .active) : (deriveMutes (· == i) s).srcs[i].gain.target
    = composeTarget (deriveMutes (· == i) s).params (deriveMutes (· == i) s).floor.list.length
        (deriveMutes (· == i) s).srcs[i] := by
  have hands : HandsOn s (deriveMutes (· == i) s) i := by
    refine ⟨?_, .inl ?_⟩
    · rw [deriveMutes_src]
      exact active
    · rw [effMute_eq used differs]
      exact differs
  rw [((deriveMutes_gain (· == i) s i).1 hands), GainUnit.hand_target]

/-- Where the floor is not moved, nothing but the one record and the free order's counter is. -/
theorem unmoved (still : mutesServed (· == i) s = inked i s) :
    (deriveMutes (· == i) s).notice = s.notice ∧ ∀ j : SrcSlot, j ≠ i → (deriveMutes (· == i) s).srcs[j] = s.srcs[j] := by
  have floor := (inked_written i s).floor
  have notice : (inked i s).notice = s.notice := State.mapSrcs_notice _ _
  have other (j : SrcSlot) (apart : j ≠ i) := inked_other used differs apart
  rw [deriveMutes_eq (changed used differs), still]
  generalize inked i s = v at floor notice other ⊢
  have unmoved : collectionsMoved s { v with freeCount := s.freeCount + 1 } = false := by
    rw [← Bool.not_eq_true, collectionsMoved_iff]
    change ¬ (v.floor.list ≠ s.floor.list ∨ v.floor.chairs ≠ s.floor.chairs ∨ v.floor.delegates ≠ s.floor.delegates)
    rw [floor]
    simp
  refine ⟨?_, fun j apart => ?_⟩
  · rw [finishEvent_notice, noteFloor, ← collectionsMoved, unmoved]
    exact notice
  · have record : ({ v with freeCount := s.freeCount + 1 } : State).srcs[j] = s.srcs[j] := other j apart
    have idle : ¬ HandsOn s { v with freeCount := s.freeCount + 1 } j := by
      refine not_handsOn (by rw [record]) ?_ (by rw [record])
      change v.floor.list.length = _
      rw [floor]
    rw [finishEvent_src, if_neg fun hands => idle ((handedOn_iff s _ j).mp hands)]
    exact record

end Differs

/-- A source whose mute stays moves in floor state and gain alone. -/
theorem unchanged_src {affected : SrcSlot → Bool} (h : j ∉ muteChanges affected s) :
    (deriveMutes affected s).srcs[j] = s.srcs[j].withFloorOf (deriveMutes affected s).srcs[j] := by
  have src := deriveMutes_src s affected j
  have mute := deriveMutes_effMute affected s j
  obtain ⟨twm, alert⟩ := deriveMutes_twm affected s j
  rw [mutesWritten_src, if_neg h] at twm alert
  rw [if_neg h] at mute
  generalize (deriveMutes affected s).srcs[j] = y at *
  rw [mute, twm, alert] at src
  exact src

/-! ### SRC.MUTE and SRC.GROUPS (R15, R41) -/

theorem takeSrcMute_withCtl (slot : Byte) (on : Bool) (c : ControlLink) (s : State) :
    takeSrcMute slot on (s.withCtl c) = (takeSrcMute slot on s).withCtl c := by
  have same : activeSrc slot (s.withCtl c) = activeSrc slot s := rfl
  unfold takeSrcMute
  rw [same]
  split
  next => rfl
  next i _ =>
    exact congrArg Taken.write (deriveMutes_withCtl c (· == i) (s.setSrc i { s.srcs[i] with userMute := on }))

/-- Either command sets its field in the record and derives the one mute again. -/
theorem exec_remuted {c : Instr} (ho : hostOwnsLine s) (active : s.srcs[i].state = .active)
    (h : (∃ on, c = .srcMute (byteOf i) on ∧ x = { s.srcs[i] with userMute := on }) ∨
      ∃ g, c = .srcGroups (byteOf i) g ∧ x = { s.srcs[i] with groups := g }) :
    exec c s = .next (remuted i x (written s)) ∧
      x = { s.srcs[i] with groups := x.groups, userMute := x.userMute, privacy := x.privacy } := by
  have srcs : (written s).srcs = s.srcs := (written_records s).srcs
  have ok : activeSrc (byteOf i) (written s) = .ok i := OneRecord.activeSrc_active (by rw [srcs]; exact active)
  rw [← srcs] at h ⊢
  obtain ⟨on, rfl, rfl⟩ | ⟨g, rfl, rfl⟩ := h
  · refine ⟨congrArg Host.Outcome.next (hostPacket_written (takeSrcMute_withCtl (byteOf i) on) ho rfl ?_), rfl⟩
    rw [takeSrcMute, ok]
    rfl
  · refine ⟨congrArg Host.Outcome.next (hostPacket_written (take := takeSrcGroups (byteOf i) g)
      (fun c => takeCommand_withCtl c (cmd := .srcGroups (byteOf i) g) rfl) ho rfl ?_), rfl⟩
    rw [takeSrcGroups, ok]
    rfl

theorem setSrc_inputs (frame : x = { s.srcs[i] with groups := x.groups, userMute := x.userMute, privacy := x.privacy }) :
    InputsMoved s (s.setSrc i x) where
  src j := by
    rw [setSrc_at]
    split
    next e => rw [e]; exact frame
    next => rfl
  floor := rfl
  params := rfl

section Muted

variable {v : State} (moved : InputsMoved s v)
include moved

theorem inked_alike : Alike s (inked i v) := moved.alike.trans (inked_written i v).alike

variable (used : v.srcs[i].inUse = true) (differs : deriveMute v.mute v.srcs[i] ≠ v.srcs[i].effMute)
include used differs

/-- A source muted: whatever collection it stood in it has left (R39, R70). -/
theorem muted_floor (law : MembershipLaw s) (muted : deriveMute v.mute v.srcs[i] = true) :
    (i ∈ s.floor.list → SameFloor (pendingService (closeSource i s)) (deriveMutes (· == i) v) ∧
      QueueServed (deriveMutes (· == i) v)) ∧
    (i ∉ s.floor.list → (deriveMutes (· == i) v).floor = { s.floor with
        chairs := s.floor.chairs.erase i, delegates := s.floor.delegates.erase i } ∧
      (i ∈ s.floor.chairs ∨ i ∈ s.floor.delegates → (deriveMutes (· == i) v).srcs[i].floorState = some .closed) ∧
      (i ∉ s.floor.chairs → i ∉ s.floor.delegates →
        (deriveMutes (· == i) v).srcs[i].floorState = s.srcs[i].floorState) ∧
      ∀ j : SrcSlot, j ≠ i → (deriveMutes (· == i) v).srcs[j].floorState = s.srcs[j].floorState) := by
  have lawful := moved.membership law
  have alike := inked_alike (i := i) moved
  have places := (inked_written i v).places lawful.places
  have done := remuted_alike used differs
  rw [served_removed used differs lawful muted] at done
  generalize inked i v = k at alike places done
  generalize deriveMutes (· == i) v = t at done ⊢
  refine ⟨fun member => ?_, fun off => ?_⟩
  · have there : i ∈ k.floor.list := by rw [alike.floor]; exact member
    have served := removal_served places there
    rw [removal_member there] at done served
    exact ⟨((alike.closeSource i).pendingService.trans done).sameFloor, done.queueServed served⟩
  · obtain ⟨floor, others, queued, apart⟩ := removal_waiting (s := k) (by rw [alike.floor]; exact off)
    rw [alike.floor] at floor queued apart
    simp only [done.floor, done.floorState, ← alike.floorState]
    exact ⟨floor, queued, apart, others⟩

/-- A source unmuted: it makes an attempt where it is VOICED and of a floor class, and otherwise nothing follows (R39,
R71). -/
theorem unmuted_floor (active : v.srcs[i].state = .active) (unmuted : deriveMute v.mute v.srcs[i] = false) :
    (v.srcs[i].voice = .voiced → v.srcs[i].floorClass = true → SameFloor (attempt i s) (deriveMutes (· == i) v)) ∧
    (v.srcs[i].voice = .quiet ∨ v.srcs[i].floorClass = false → mutesServed (· == i) v = inked i v ∧
      SameFloor s (deriveMutes (· == i) v)) := by
  have alike := inked_alike (i := i) moved
  have done := remuted_alike used differs
  refine ⟨fun voiced bound => ?_, fun idle => ?_⟩
  · rw [served_unmuted used differs ⟨isActive_iff.mpr active, bound⟩ unmuted, if_pos voiced] at done
    exact ((alike.attempt i).trans done).sameFloor
  · have still : mutesServed (· == i) v = inked i v := by
      by_cases h : OfFloor v i
      · obtain quiet | unbound := idle
        · rw [served_unmuted used differs h unmuted, if_neg (by rw [quiet]; nofun)]
        · exact absurd (unbound.symm.trans h.2) nofun
      · exact served_apart used differs h
    rw [still] at done
    exact ⟨still, (alike.trans done).sameFloor⟩

end Muted

/-- Settles O23: the one mute derived again, and its change handed on. -/
theorem srcMuteAndSrcGroupsHandOnTheMute : Obligations.SrcMuteAndSrcGroupsHandOnTheMute := by
  unfold Obligations.SrcMuteAndSrcGroupsHandOnTheMute
  intro s i c x ho active row
  obtain ⟨exec, frame⟩ := exec_remuted ho active row
  have records := written_records s
  generalize written s = w at *
  clear row ho
  rw [remuted] at exec
  have self : (w.setSrc i x).srcs[i] = x := State.setSrc_same w i x
  have other (j : SrcSlot) (apart : j ≠ i) : (w.setSrc i x).srcs[j] = s.srcs[j] := by
    rw [State.setSrc_other w x apart, records.srcs]
  have moved : InputsMoved s (w.setSrc i x) :=
    records.inputs.trans (setSrc_inputs (by rw [records.srcs]; exact frame))
  have mute : (w.setSrc i x).mute = s.mute := records.mute
  have notice : (w.setSrc i x).notice = w.notice := rfl
  have floor : (w.setSrc i x).floor = w.floor := rfl
  have stands : w.setSrc i x = { w with srcs := s.srcs.set i x } := by rw [← records.srcs]; rfl
  have rest (t : State) (h : { t with
      srcs := (w.setSrc i x).srcs, floor := (w.setSrc i x).floor
      notice := (w.setSrc i x).notice, freeCount := (w.setSrc i x).freeCount } = w.setSrc i x) :
      { t with srcs := s.srcs, floor := s.floor, notice := w.notice, freeCount := s.freeCount } = w := by
    rw [← records.srcs, ← records.floor, ← records.freeCount]
    exact (congrArg (fun u : State => { u with srcs := w.srcs }) h :)
  generalize w.setSrc i x = v at *
  have voice : v.srcs[i].voice = x.voice := by rw [self]
  have activeV : v.srcs[i].state = .active := (moved.state i).trans active
  have used : v.srcs[i].inUse = true := inUse_of_isActive (isActive_iff.mpr activeV)
  have before : v.srcs[i].effMute = s.srcs[i].effMute := moved.effMute i
  have handed := deriveMutes_handedOn (· == i) v
  obtain ⟨noticed, only⟩ := deriveMutes_noticed (· == i) v
  have effMute : (deriveMutes (· == i) v).srcs[i].effMute = deriveMute s.mute x := by
    rw [← mute, ← self]
    by_cases same : deriveMute v.mute v.srcs[i] = v.srcs[i].effMute
    · rw [deriveMutes_nil (changes_of_same same), same]
    · exact effMute_eq used same
  have differs (ne : deriveMute s.mute x ≠ s.srcs[i].effMute) : deriveMute v.mute v.srcs[i] ≠ v.srcs[i].effMute := by
    rw [mute, before, self]
    exact ne
  refine ⟨deriveMutes (· == i) v, deriveMute s.mute x, exec, deriveMute_iff _ _, fun same => ?same, ?record,
    fun ne on => ?muted, fun ne off => ?unmuted, fun j apart => ?others, fun j => moved.gains (deriveMutes_gain _ v j),
    ?noticed, ?only, rest _ (deriveMutes_rest v _)⟩
  case same => rw [deriveMutes_nil (changes_of_same (by rw [mute, before, self, same])), stands]
  case record =>
    have here := deriveMutes_src v (· == i) i
    rw [effMute, self] at here
    exact here
  case others =>
    have unchanged : j ∉ muteChanges (· == i) v := fun change => apart (beq_iff_eq.mp (mem_muteChanges.mp change).1)
    rw [← other j apart]
    exact unchanged_src unchanged
  case noticed =>
    rw [FloorNoticed, notice, floor] at noticed
    exact noticed
  case only =>
    rw [OnlyNotices, notice] at only
    exact only
  case muted =>
    have differs := differs ne
    have muted : deriveMute v.mute v.srcs[i] = true := by rw [mute, self]; exact on
    have now := effMute.trans on
    obtain ⟨twm, alert⟩ := handed.kept i (.inr now)
    rw [self] at twm alert
    have removed (law : MembershipLaw s) := muted_floor moved used differs law muted
    refine ⟨twm, alert, ?_, fun law => handed.muted (moved.membership law) i ?_ now,
      fun law member => ((removed law).1 member).1, fun law => (removed law).2,
      fun law member => ((removed law).1 member).2⟩
    · rw [target_eq used differs activeV, composeTarget_muted _ _ now]
    · rw [muted] at differs
      exact Bool.of_not_eq_true differs.symm
  case unmuted =>
    have differs := differs ne
    have unmuted : deriveMute v.mute v.srcs[i] = false := by rw [mute, self]; exact off
    have now := effMute.trans off
    have was : v.srcs[i].effMute = true := by
      rw [unmuted] at differs
      exact Bool.of_not_eq_false differs.symm
    obtain ⟨twm, alert⟩ := handed.cleared i was now
    obtain ⟨attempts, idle⟩ := unmuted_floor moved used differs activeV unmuted
    rw [self] at attempts idle
    refine ⟨twm, alert, ?_, fun voiced bound => ?_, fun silent => ?_⟩
    · have params : (deriveMutes (· == i) v).params = s.params :=
        (remuted_alike used differs).params.trans (((mutesServed_frame _ v).params.trans
          (mutesWritten_written v _).params).trans moved.params)
      rw [target_eq used differs activeV, params]
    · have same := attempts voiced bound
      refine ⟨same, ?_⟩
      rw [same.1, same.2]
      exact attempt_stands i s
    · obtain ⟨still, same⟩ := idle silent
      obtain ⟨noNotice, others⟩ := unmoved used differs still
      exact ⟨same, noNotice.trans notice, fun j apart => (others j apart).trans (other j apart)⟩

end OneMute

end Sys2Proof.Machine
end

section
/-! Proof for O51: a good frame in SYNC. -/

namespace Sys2Proof.Machine.GoodFrame

variable {s t v : State} {i : SrcSlot} {l : PodLink} {h : PodHeader} {audio : Vector Byte 1152}

/-! ### The blocks of a frame (R148) -/

theorem framedBlocks_length (good : h.good = true) (audio : Vector Byte 1152) :
    (framedBlocks h audio).length = h.elements.toNat := by
  obtain ⟨-, -, -, few⟩ := good_iff.mp good
  rw [framedBlocks, List.length_map, List.length_take, List.length_finRange]
  exact Nat.min_eq_left few

theorem framedBlocks_block {e : Element} {b : Block} (there : (framedBlocks h audio)[e.val]? = some b) :
    b = elementBlock audio e := by
  rw [framedBlocks, List.getElem?_map, Option.map_eq_some_iff] at there
  obtain ⟨x, found, rfl⟩ := there
  rw [List.getElem?_take] at found
  split at found
  next =>
    rw [List.getElem?_eq_some_iff] at found
    obtain ⟨within, rfl⟩ := found
    rw [List.getElem_finRange]
    rfl
  next => cases found

/-! ### The sources of a pod (R42, R46) -/

theorem onPod_iff {x : Source} : x.onPod l = true ↔ ∃ e, x.origin = some (.pod l e) := by
  unfold Source.onPod
  split
  next m e origin =>
    rw [origin, beq_iff_eq]
    constructor
    · rintro rfl
      exact ⟨e, rfl⟩
    · rintro ⟨e', same⟩
      cases same
      rfl
  next other => exact iff_of_false nofun fun ⟨e, origin⟩ => other l e origin

theorem onPod_false_iff {x : Source} : x.onPod l = false ↔ ∀ e, x.origin ≠ some (.pod l e) := by
  rw [← Bool.not_eq_true, onPod_iff, not_exists]

theorem mutePressActs_iff {pressed : Bool} : mutePressActs s l pressed = true ↔ pressed = true ∧
    ∃ (i : SrcSlot) (e : Element), s.srcs[i].state = .active ∧ s.srcs[i].origin = some (.pod l e) := by
  simp only [mutePressActs, srcSlots, Bool.and_eq_true, List.any_eq_true, List.mem_finRange, true_and, isActive_iff,
    onPod_iff, exists_and_left]

theorem chairPressActs_iff {pressed : Bool} : chairPressActs s l pressed = true ↔ pressed = true ∧
    ∃ (i : SrcSlot) (e : Element), s.srcs[i].state = .active ∧ s.srcs[i].origin = some (.pod l e) ∧
      s.srcs[i].cls = some .chair := by
  simp only [chairPressActs, srcSlots, Bool.and_eq_true, List.any_eq_true, List.mem_finRange, true_and, isActive_iff,
    onPod_iff, Admission.isChair_iff, exists_and_left, exists_and_right, and_assoc]

theorem mutePressValue_iff : mutePressValue s l = true ↔ ∃ (j : SrcSlot) (e : Element), s.srcs[j].state = .active ∧
    s.srcs[j].origin = some (.pod l e) ∧ s.srcs[j].userMute = false := by
  simp only [mutePressValue, srcSlots, Bool.and_eq_true, List.any_eq_true, List.mem_finRange, true_and, isActive_iff,
    onPod_iff, Bool.not_eq_true', exists_and_left, exists_and_right, and_assoc]

/-! ### The inputs of a frame -/

section
variable (l : PodLink) (mp cp pv : Bool) (s : State)

theorem frameInputs_pods : (frameInputs l mp cp pv s).pods = s.pods.set l { s.pods[l] with privacy := pv } := by
  simp only [frameInputs, State.addNoticeIf_pods, State.setPod_pods, State.mapSrcs_pods]

theorem frameInputs_has (k : NoticeKind) : (frameInputs l mp cp pv s).notice.set.has k = ((s.notice.set.has k ||
    (mutePressActs s l mp || chairPressActs s l cp) && k == .button) || (pv != s.pods[l].privacy) && k == .privacy) := by
  rw [frameInputs, addNoticeIf_has, addNoticeIf_has, State.setPod_notice]
  simp only [State.mapSrcs_notice]

theorem frameInputs_mask : (frameInputs l mp cp pv s).notice.mask = s.notice.mask := by
  rw [frameInputs, addNoticeIf_mask, addNoticeIf_mask, State.setPod_notice]
  simp only [State.mapSrcs_notice]

theorem frameInputs_moved : InputsMoved s (frameInputs l mp cp pv s) where
  src i := by rw [frameInputs_src]
  floor := (congrArg State.floor (frameInputs_rest l mp cp pv s) :)
  params := (frameInputs_calm l mp cp pv s).params

end

/-- A frame that presses nothing and brings no change of privacy moves no input. -/
theorem frameInputs_idle (noMute : mutePressActs s l mp = false) (noChair : chairPressActs s l cp = false)
    (same : pv = s.pods[l].privacy) : frameInputs l mp cp pv s = s := by
  subst same
  have rest := frameInputs_rest l mp cp s.pods[l].privacy s
  have srcs : (frameInputs l mp cp s.pods[l].privacy s).srcs = s.srcs := Vector.ext fun k hk => by
    have src := frameInputs_src l mp cp s.pods[l].privacy s ⟨k, hk⟩
    rw [noMute, bne_self_eq_false] at src
    simp only [Bool.false_and, Bool.and_false, Bool.false_eq_true, if_false] at src
    generalize frameInputs l mp cp s.pods[l].privacy s = t at src ⊢
    exact src
  have mute : (frameInputs l mp cp s.pods[l].privacy s).mute = s.mute := by
    rw [frameInputs_mute, noChair]
    rfl
  have pods : (frameInputs l mp cp s.pods[l].privacy s).pods = s.pods := by
    rw [frameInputs_pods]
    exact Vector.set_getElem_self ..
  have notice : (frameInputs l mp cp s.pods[l].privacy s).notice = s.notice := by
    simp only [frameInputs, State.addNoticeIf, noMute, noChair, bne_self_eq_false, Bool.or_false, Bool.false_eq_true,
      if_false, State.setPod_notice, State.mapSrcs_notice]
  generalize frameInputs l mp cp s.pods[l].privacy s = t at *
  refine Eq.trans ?_ rest
  rw [← srcs, ← mute, ← pods, ← notice]

theorem frameAffects_idle (noMute : mutePressActs s l mp = false) (noChair : chairPressActs s l cp = false)
    (same : pv = s.pods[l].privacy) (i : SrcSlot) : frameAffects l mp cp pv s i = false := by
  rw [frameAffects, noMute, noChair, same]
  simp

theorem frameIntake_idle (noMute : mutePressActs s l mp = false) (noChair : chairPressActs s l cp = false)
    (same : pv = s.pods[l].privacy) : frameIntake l mp cp pv s = s := by
  rw [frameIntake_eq, frameInputs_idle noMute noChair same, funext (frameAffects_idle noMute noChair same)]
  exact deriveMutes_unaffected s

/-! ### What the derivation of the mutes behind a frame leaves -/

section
variable (l : PodLink) (mp cp pv : Bool) (s : State)

theorem frameIntake_has (k : NoticeKind) (other : k ≠ .floor) : (frameIntake l mp cp pv s).notice.set.has k =
    ((s.notice.set.has k || (mutePressActs s l mp || chairPressActs s l cp) && k == .button) ||
      (pv != s.pods[l].privacy) && k == .privacy) := by
  have derived := (deriveMutes_noticed (frameAffects l mp cp pv s) (frameInputs l mp cp pv s)).2.1 k
  rw [frameIntake_eq, derived (by rw [List.mem_singleton]; exact other), frameInputs_has]

theorem frameIntake_noticed : FloorNoticed s (frameIntake l mp cp pv s) := by
  have derived := (deriveMutes_noticed (frameAffects l mp cp pv s) (frameInputs l mp cp pv s)).1
  have floor : (frameInputs l mp cp pv s).notice.set.floor = s.notice.set.floor := by
    have has := frameInputs_has l mp cp pv s .floor
    have button : (NoticeKind.floor == .button) = false := rfl
    have privacy : (NoticeKind.floor == .privacy) = false := rfl
    rw [button, privacy, Bool.and_false, Bool.and_false, Bool.or_false, Bool.or_false] at has
    exact has
  rw [frameIntake_eq]
  rw [FloorNoticed, floor, (frameInputs_moved l mp cp pv s).floor] at derived
  exact derived

theorem frameIntake_only : OnlyNotices [.button, .privacy, .floor] s (frameIntake l mp cp pv s) := by
  refine ⟨fun k other => ?_, ?_⟩
  · simp only [List.mem_cons, List.not_mem_nil, or_false, not_or] at other
    obtain ⟨button, privacy, floor⟩ := other
    rw [frameIntake_has l mp cp pv s k floor, beq_eq_false_iff_ne.mpr button, beq_eq_false_iff_ne.mpr privacy,
      Bool.and_false, Bool.and_false, Bool.or_false, Bool.or_false]
  · rw [frameIntake_eq, (deriveMutes_noticed _ _).2.2, frameInputs_mask]

/-- The record of a source after a frame: user mute and privacy as the frame gives them, and the consequences. -/
theorem frameIntake_src (i : SrcSlot) : (frameIntake l mp cp pv s).srcs[i] = { s.srcs[i] with
    userMute := if s.srcs[i].onPod l && (mutePressActs s l mp && s.srcs[i].isActive) then mutePressValue s l
      else s.srcs[i].userMute
    privacy := if s.srcs[i].onPod l && ((pv != s.pods[l].privacy) && s.srcs[i].inUse) then pv
      else s.srcs[i].privacy
    effMute := (frameIntake l mp cp pv s).srcs[i].effMute
    twm := (frameIntake l mp cp pv s).srcs[i].twm
    alert := (frameIntake l mp cp pv s).srcs[i].alert
    floorState := (frameIntake l mp cp pv s).srcs[i].floorState
    gain := (frameIntake l mp cp pv s).srcs[i].gain } := by
  have derived := deriveMutes_src (frameInputs l mp cp pv s) (frameAffects l mp cp pv s) i
  rw [frameInputs_src, ← frameIntake_eq] at derived
  exact derived

theorem frameIntake_userMute_pressed (i : SrcSlot) (onPod : s.srcs[i].onPod l = true)
    (acts : mutePressActs s l mp = true) (active : s.srcs[i].isActive = true) :
    (frameIntake l mp cp pv s).srcs[i].userMute = mutePressValue s l := by
  rw [frameIntake_src]
  exact if_pos (by rw [onPod, acts, active]; rfl)

theorem frameIntake_userMute_kept (i : SrcSlot) (kept : mutePressActs s l mp = false ∨ s.srcs[i].isActive = false ∨
    s.srcs[i].onPod l = false) : (frameIntake l mp cp pv s).srcs[i].userMute = s.srcs[i].userMute := by
  rw [frameIntake_src]
  refine if_neg fun h => ?_
  simp only [Bool.and_eq_true] at h
  obtain ⟨onPod, acts, active⟩ := h
  obtain none_acts | inactive | off := kept
  · exact absurd (none_acts.symm.trans acts) nofun
  · exact absurd (inactive.symm.trans active) nofun
  · exact absurd (off.symm.trans onPod) nofun

theorem frameIntake_privacy_off (i : SrcSlot) (off : s.srcs[i].onPod l = false) :
    (frameIntake l mp cp pv s).srcs[i].privacy = s.srcs[i].privacy := by
  rw [frameIntake_src]
  refine if_neg fun h => ?_
  rw [Bool.and_eq_true] at h
  exact absurd (off.symm.trans h.1) nofun

theorem frameIntake_shares : (frameIntake l mp cp pv s).mute = { s.mute with
      room := if chairPressActs s l cp then !s.mute.room else s.mute.room } ∧
    (frameIntake l mp cp pv s).pods = s.pods.set l { s.pods[l] with privacy := pv } := by
  obtain ⟨mute, pods⟩ := deriveMutes_shares (frameAffects l mp cp pv s) (frameInputs l mp cp pv s)
  rw [frameIntake_eq, mute, pods]
  exact ⟨frameInputs_mute l mp cp pv s, frameInputs_pods l mp cp pv s⟩

theorem frameIntake_handedOn : MutesHandedOn s (frameIntake l mp cp pv s) := by
  rw [frameIntake_eq]
  exact (frameInputs_moved l mp cp pv s).handedOn (deriveMutes_handedOn _ _)

theorem frameIntake_rest : { frameIntake l mp cp pv s with
    srcs := s.srcs, mute := s.mute, floor := s.floor, pods := s.pods, notice := s.notice
    freeCount := s.freeCount } = s := by
  have derived := deriveMutes_rest (frameInputs l mp cp pv s) (frameAffects l mp cp pv s)
  have inputs := frameInputs_rest l mp cp pv s
  rw [← frameIntake_eq] at derived
  generalize frameIntake l mp cp pv s = t at derived ⊢
  generalize frameInputs l mp cp pv s = u at derived inputs
  rw [← derived] at inputs
  exact (congrArg (fun v : State => { v with floor := s.floor, freeCount := s.freeCount }) inputs :)

end

/-! ### The frame taken (R154) -/

/-- The link's record as a good frame leaves it before its privacy is taken in. -/
def framedPod (h : PodHeader) (audio : Vector Byte 1152) (p : Pod) : Pod :=
  { p with
    badRun := 0
    goodFrames := raise p.goodFrames 1
    elements := h.count
    holding := some (framedBlocks h audio) }

theorem goodFrame_eq (l : PodLink) (h : PodHeader) (audio : Vector Byte 1152) (s : State) : goodFrame l h audio s =
    frameIntake l h.mutePress h.chairPress h.privacy (s.setPod l (framedPod h audio s.pods[l])) := rfl

theorem xor_cond (b c : Bool) : (if c then !b else b) = (b ^^ c) := by cases b <;> cases c <;> rfl

/-- Settles O51: the record, then buttons and privacy as one event. -/
theorem goodFrameIsTakenWhole : Obligations.GoodFrameIsTakenWhole := by
  unfold Obligations.GoodFrameIsTakenWhole
  refine fun s l h audio => ⟨fun other => ?idle, fun pod sync good record => ⟨framedBlocks_length good audio,
    fun e b there n => ?sample, fun noMute noChair same => ?plain, ?taken⟩⟩
  case idle =>
    refine congrArg Host.Outcome.next (if_neg fun ⟨sync, good⟩ => ?_)
    obtain unsync | bad := other
    · exact unsync sync
    · exact absurd (bad.symm.trans good) nofun
  case sample =>
    rw [framedBlocks_block there, elementBlock, Fin.getElem_fin, Vector.getElem_ofFn]
    rfl
  all_goals
    rw [Framing.exec_goodFrame sync good, goodFrame_eq]
    have framed : pod = { framedPod h audio s.pods[l] with privacy := h.privacy } := by
      rw [record, framedPod, raise]
      rfl
    have privacy : (framedPod h audio s.pods[l]).privacy = s.pods[l].privacy := rfl
    have self := State.setPod_same s l (framedPod h audio s.pods[l])
  case plain =>
    have noMute : mutePressActs (s.setPod l (framedPod h audio s.pods[l])) l h.mutePress = false := by
      rw [PodHeader.mutePress, noMute]
      rfl
    have noChair : chairPressActs (s.setPod l (framedPod h audio s.pods[l])) l h.chairPress = false := by
      rw [PodHeader.chairPress, noChair]
      rfl
    rw [frameIntake_idle noMute noChair (by rw [self]; exact same), framed]
    refine congrArg Host.Outcome.next (congrArg (fun p => { s with pods := s.pods.set l p }) ?_)
    rw [PodHeader.privacy, same]
    rfl
  case taken =>
    have law := goodFrame_all (audio := audio) sync good
    rw [goodFrame_eq] at law
    have pods : (s.setPod l (framedPod h audio s.pods[l])).pods = s.pods.set l (framedPod h audio s.pods[l]) := rfl
    have handed := frameIntake_handedOn l h.mutePress h.chairPress h.privacy (s.setPod l (framedPod h audio s.pods[l]))
    have moved : InputsMoved s (s.setPod l (framedPod h audio s.pods[l])) := .of_srcs rfl rfl rfl
    have src := frameIntake_src l h.mutePress h.chairPress h.privacy (s.setPod l (framedPod h audio s.pods[l]))
    obtain ⟨mute, podsAfter⟩ := frameIntake_shares l h.mutePress h.chairPress h.privacy
      (s.setPod l (framedPod h audio s.pods[l]))
    have has := frameIntake_has l h.mutePress h.chairPress h.privacy (s.setPod l (framedPod h audio s.pods[l]))
    have noticed := frameIntake_noticed l h.mutePress h.chairPress h.privacy (s.setPod l (framedPod h audio s.pods[l]))
    have only := frameIntake_only l h.mutePress h.chairPress h.privacy (s.setPod l (framedPod h audio s.pods[l]))
    have rest := frameIntake_rest l h.mutePress h.chairPress h.privacy (s.setPod l (framedPod h audio s.pods[l]))
    rw [self, pods, Vector.set_set, ← framed] at podsAfter
    rw [self, privacy] at has
    have acts := mutePressActs_iff (s := s.setPod l (framedPod h audio s.pods[l])) (l := l) (pressed := h.mutePress)
    have seats := chairPressActs_iff (s := s.setPod l (framedPod h audio s.pods[l])) (l := l) (pressed := h.chairPress)
    have value := mutePressValue_iff (s := s.setPod l (framedPod h audio s.pods[l])) (l := l)
    have pressed := frameIntake_userMute_pressed l h.mutePress h.chairPress h.privacy
      (s.setPod l (framedPod h audio s.pods[l]))
    have kept := frameIntake_userMute_kept l h.mutePress h.chairPress h.privacy
      (s.setPod l (framedPod h audio s.pods[l]))
    have off := frameIntake_privacy_off l h.mutePress h.chairPress h.privacy
      (s.setPod l (framedPod h audio s.pods[l]))
    have restAll : { frameIntake l h.mutePress h.chairPress h.privacy (s.setPod l (framedPod h audio s.pods[l])) with
        srcs := s.srcs, mute := s.mute, floor := s.floor, pods := s.pods, notice := s.notice
        freeCount := s.freeCount } = s := (congrArg (fun u : State => { u with pods := s.pods }) rest :)
    have srcs : (s.setPod l (framedPod h audio s.pods[l])).srcs = s.srcs := rfl
    have held : pod.privacy = h.privacy := by rw [framed]
    rw [srcs] at acts seats value
    generalize frameIntake l h.mutePress h.chairPress h.privacy (s.setPod l (framedPod h audio s.pods[l])) = t at *
    refine ⟨t, rfl, podsAfter, fun mutes hm chairs hc => ?notices, fun i apart => off i (onPod_false_iff.mpr apart),
      law.mute, moved.handedOn handed, noticed, only, fun i => ?record, restAll⟩
    case notices =>
      obtain rfl : mutes = mutePressActs (s.setPod l (framedPod h audio s.pods[l])) l h.mutePress :=
        Bool.eq_iff_iff.mpr (hm.trans acts.symm)
      obtain rfl : chairs = chairPressActs (s.setPod l (framedPod h audio s.pods[l])) l h.chairPress :=
        Bool.eq_iff_iff.mpr (hc.trans seats.symm)
      have button : t.notice.set.button = (s.notice.set.button ||
          (mutePressActs (s.setPod l (framedPod h audio s.pods[l])) l h.mutePress ||
            chairPressActs (s.setPod l (framedPod h audio s.pods[l])) l h.chairPress)) := by
        have has := has .button nofun
        have here : (NoticeKind.button == .button) = true := rfl
        have there : (NoticeKind.button == .privacy) = false := rfl
        rw [here, there, Bool.and_true, Bool.and_false, Bool.or_false] at has
        exact has
      have level : t.notice.set.privacy = (s.notice.set.privacy || h.privacy != s.pods[l].privacy) := by
        have has := has .privacy nofun
        have here : (NoticeKind.privacy == .privacy) = true := rfl
        have there : (NoticeKind.privacy == .button) = false := rfl
        rw [here, there, Bool.and_true, Bool.and_false, Bool.or_false] at has
        exact has
      refine ⟨?_, ?_, ?_, fun i e on active origin => ?_, fun i unpressed => kept i ?_⟩
      · rw [mute, xor_cond]
        rfl
      · rw [button, Bool.or_eq_true, Bool.or_eq_true]
      · rw [level, held, Bool.or_eq_true, bne_iff_ne]
      · rw [pressed i (onPod_iff.mpr ⟨e, origin⟩) on (isActive_iff.mpr active)]
        exact value
      · exact unpressed.imp_right fun h => h.imp (fun idle => beq_eq_false_iff_ne.mpr idle) onPod_false_iff.mpr
    case record =>
      have here := src i
      rw [srcs] at here
      generalize t.srcs[i] = y at here ⊢
      rw [here]

end Sys2Proof.Machine.GoodFrame
end

section
/-! Proof for O52: bad frames in SYNC, and the loss of the link. -/

namespace Sys2Proof.Machine

variable {s t u v w : State} {i j : SrcSlot}

/-! ### Several sources removed (R69, R74) -/

theorem removeSource_floor (i : SrcSlot) (s : State) : (removeSource i s).1.floor = s.floor.without i := by
  obtain ⟨⟨-, closed⟩ | ⟨out, same⟩, -⟩ := removeSource_eq i s
  · rw [closed, closeSource_floor]
  · obtain ⟨list, chairs, delegates⟩ : i ∉ s.floor.list ∧ i ∉ s.floor.chairs ∧ i ∉ s.floor.delegates := by
      simpa only [Inside, not_or] using out
    rw [same, FloorCtl.without, List.erase_of_not_mem list, List.erase_of_not_mem chairs, List.erase_of_not_mem delegates]

theorem removeSource_state (i j : SrcSlot) (s : State) : (removeSource i s).1.srcs[j].floorState = some .closed ∧
      j = i ∧ Inside s i ∨ (removeSource i s).1.srcs[j].floorState = s.srcs[j].floorState ∧ ¬ (j = i ∧ Inside s i) := by
  obtain ⟨⟨inside, closed⟩ | ⟨out, same⟩, -⟩ := removeSource_eq i s
  · rw [closed, floorState_set .closed (closeSource_srcs i s)]
    split
    next e => exact .inl ⟨rfl, e, inside⟩
    next e => exact .inr ⟨rfl, fun h => e h.1⟩
  · rw [same]
    exact .inr ⟨rfl, fun h => out h.2⟩

theorem filter_erase {l : List SrcSlot} (once : l.Nodup) (is : List SrcSlot) (i : SrcSlot) :
    (l.filter fun j => decide (j ∉ is)).erase i = l.filter fun j => decide (j ∉ is ++ [i]) := by
  rw [(once.filter _).erase_eq_filter, List.filter_filter]
  refine List.filter_congr fun j _ => ?_
  rw [Bool.eq_iff_iff, Bool.and_eq_true, bne_iff_ne, decide_eq_true_iff, decide_eq_true_iff, List.mem_append,
    List.mem_singleton, not_or]
  exact and_comm

/-- The removed are gone from the collections, the others keep their order (R57). -/
theorem removeSources_floor (law : PlacesLaw s) (is : List SrcSlot) : (removeSources is s).1.floor = { s.floor with
    list := s.floor.list.filter fun j => decide (j ∉ is)
    chairs := s.floor.chairs.filter fun j => decide (j ∉ is)
    delegates := s.floor.delegates.filter fun j => decide (j ∉ is) } := by
  obtain ⟨list, chairs, delegates⟩ := law.once
  induction is using List.reverseRecOn with
  | nil =>
    have all (l : List SrcSlot) : (l.filter fun j => decide (j ∉ ([] : List SrcSlot))) = l :=
      List.filter_eq_self.mpr fun _ _ => rfl
    rw [removeSources_nil, all, all, all]
  | append_singleton is i ih =>
    rw [removeSources_append, removeSource_floor, ih, FloorCtl.without]
    dsimp only
    rw [filter_erase list, filter_erase chairs, filter_erase delegates]

/-- The removed that stood in a collection are CLOSED, and no other floor state moves. -/
theorem removeSources_state (law : PlacesLaw s) (is : List SrcSlot) (j : SrcSlot) :
    (removeSources is s).1.srcs[j].floorState = some .closed ∧ j ∈ is ∧ Inside s j ∨
      (removeSources is s).1.srcs[j].floorState = s.srcs[j].floorState ∧ ¬ (j ∈ is ∧ Inside s j) := by
  induction is using List.reverseRecOn with
  | nil => exact .inr ⟨rfl, fun h => absurd h.1 List.not_mem_nil⟩
  | append_singleton is i ih =>
    rw [removeSources_append, List.mem_append, List.mem_singleton]
    have stands : Inside (removeSources is s).1 j → Inside s j := fun inside =>
      ((removeSources_work law is).inside j inside).elim id False.elim
    obtain ⟨now, e, inside⟩ | ⟨same, kept⟩ := removeSource_state i j (removeSources is s).1
    · subst e
      exact .inl ⟨now, .inr rfl, stands inside⟩
    · rw [same]
      obtain ⟨closed, listed, inside⟩ | ⟨still, apart⟩ := ih
      · exact .inl ⟨closed, .inl listed, inside⟩
      · refine .inr ⟨still, fun ⟨which, inside⟩ => ?_⟩
        obtain listed | e := which
        · exact apart ⟨listed, inside⟩
        · subst e
          refine kept ⟨rfl, ?_⟩
          by_cases listed : j ∈ is
          · exact absurd ⟨listed, inside⟩ apart
          · rw [Inside, removeSources_floor law]
            simp only [List.mem_filter, decide_eq_true_iff, listed, not_false_eq_true, and_true]
            exact inside

theorem removeSources_flag (law : PlacesLaw s) (is : List SrcSlot) :
    (removeSources is s).2 = true ↔ ∃ i ∈ is, i ∈ s.floor.list := by
  induction is using List.reverseRecOn with
  | nil => exact iff_of_false nofun fun ⟨_, listed, _⟩ => absurd listed List.not_mem_nil
  | append_singleton is i ih =>
    rw [removeSources_append, Bool.or_eq_true, ih, (removeSource_eq i _).2, removeSources_floor law]
    simp only [List.mem_filter, decide_eq_true_iff, List.mem_append, List.mem_singleton]
    constructor
    · rintro (⟨k, listed, member⟩ | ⟨member, -⟩)
      · exact ⟨k, .inl listed, member⟩
      · exact ⟨i, .inr rfl, member⟩
    · rintro ⟨k, listed | rfl, member⟩
      · exact .inl ⟨k, listed, member⟩
      · by_cases listed : k ∈ is
        · exact .inl ⟨k, listed, member⟩
        · exact .inr ⟨member, listed⟩

theorem OnlyNotices.trans {ks : List NoticeKind} (h : OnlyNotices ks s u) (k : OnlyNotices ks u t) : OnlyNotices ks s t :=
  ⟨fun n other => (k.1 n other).trans (h.1 n other), k.2.trans h.2⟩

namespace LinkLoss

variable {l : PodLink} {h : PodHeader}

/-! ### What the loss writes before the floor is told (R34, R159) -/

/-- The part at the fourth bad frame, its sources not yet off the floor. -/
def unlinked (l : PodLink) (s : State) : State := syncLost l (s.setPod l (badPod s.pods[l]))

/-- A source's Level Monitor fields at the loss of its pod's link (R34). -/
def unleveled (l : PodLink) (x : Source) : Source := if x.inUse && x.onPod l then resetLevel x else x

theorem unleveled_on {x : Source} (on : ∃ e, x.origin = some (.pod l e)) (used : x.state ≠ .free) :
    unleveled l x = resetLevel x := by
  refine if_pos ?_
  rw [Bool.and_eq_true, GoodFrame.onPod_iff, Source.inUse, bne_iff_ne]
  exact ⟨used, on⟩

theorem unleveled_off {x : Source} (away : ∀ e, x.origin ≠ some (.pod l e)) : unleveled l x = x := by
  rw [unleveled, GoodFrame.onPod_false_iff.mpr away, Bool.and_false]
  rfl

/-- The levels are read by nothing that the floor, the gains or the places depend on. -/
theorem unleveled_frame (l : PodLink) (x : Source) : unleveled l x = { x with
    s := (unleveled l x).s, n := (unleveled l x).n, creep := (unleveled l x).creep, voice := (unleveled l x).voice
    twm := (unleveled l x).twm, alert := (unleveled l x).alert } := by
  unfold unleveled
  split <;> rfl

/-- Whatever record and whatever levels the loss writes, it writes no more than these and POD_LINK. -/
theorem writes_rest (l : PodLink) (s : State) (x : Pod) (f : SrcSlot → Source → Source) :
    { ((s.setPod l x).addNotice .podLink).mapSrcs f with srcs := s.srcs, pods := s.pods, notice := s.notice } = s := by
  rw [State.mapSrcs, State.addNotice, State.setPod]

section
variable (l : PodLink) (s : State)

theorem unlinked_src (i : SrcSlot) : (unlinked l s).srcs[i] = unleveled l s.srcs[i] := by
  rw [unlinked, syncLost_setPod, State.mapSrcs_at]
  rfl

theorem unlinked_rest : { unlinked l s with srcs := s.srcs, pods := s.pods, notice := s.notice } = s := by
  rw [unlinked, syncLost_setPod]
  exact writes_rest ..

theorem unlinked_floor : (unlinked l s).floor = s.floor := (congrArg State.floor (unlinked_rest l s) :)

theorem unlinked_params : (unlinked l s).params = s.params :=
  params_of_banks (congrArg State.banks (unlinked_rest l s) :)

theorem unlinked_pods : (unlinked l s).pods = s.pods.set l (lostPod (badPod s.pods[l])) := by
  rw [unlinked, syncLost_setPod]
  rfl

theorem unlinked_has (k : NoticeKind) : (unlinked l s).notice.set.has k = (s.notice.set.has k || k == .podLink) := by
  rw [unlinked, syncLost_setPod]
  rw [State.mapSrcs_notice]
  exact NoticeSet.add_has s.notice.set .podLink k

theorem unlinked_mask : (unlinked l s).notice.mask = s.notice.mask := by
  rw [unlinked, syncLost_setPod, State.mapSrcs_notice]
  rfl

theorem unlinked_alike : Alike s (unlinked l s) where
  floor := unlinked_floor l s
  params := unlinked_params l s
  floorState i := by rw [unlinked_src, unleveled_frame]
  cls i := by rw [unlinked_src, unleveled_frame]

theorem unlinked_membership (law : MembershipLaw s) : MembershipLaw (unlinked l s) :=
  have floor := unlinked_floor l s
  law.of_same (by rw [floor]) (by rw [floor]) (by rw [floor]) (fun i => by rw [unlinked_src, unleveled_frame]) (fun i => by rw [unlinked_src, unleveled_frame])
    (fun i => by rw [unlinked_src, unleveled_frame]) fun i => by rw [unlinked_src, unleveled_frame]

theorem podActive_unlinked : podActive l (unlinked l s) = podActive l s := by
  refine List.filter_congr fun i _ => ?_
  rw [unlinked_src, unleveled_frame]
  rfl

end

theorem gains_unlinked (gain : GainFollows (unlinked l s) t i) : GainFollows s t i := by
  have effMute : (unlinked l s).srcs[i].effMute = s.srcs[i].effMute := by rw [unlinked_src, unleveled_frame]
  have same : (unlinked l s).srcs[i].gain = s.srcs[i].gain := by rw [unlinked_src, unleveled_frame]
  have floorState := (unlinked_alike l s).floorState i
  rw [GainFollows, HandsOn, gateShut, gateShut, effMute, unlinked_floor, floorState, same] at gain
  exact gain

theorem noticed_unlinked (noticed : FloorNoticed (unlinked l s) t) : FloorNoticed s t := by
  have floor : (unlinked l s).notice.set.floor = s.notice.set.floor := by
    have has := unlinked_has l s .floor
    have other : (NoticeKind.floor == .podLink) = false := rfl
    rw [other, Bool.or_false] at has
    exact has
  rw [FloorNoticed, floor, unlinked_floor] at noticed
  exact noticed

theorem only_unlinked (l : PodLink) (s : State) : OnlyNotices [.podLink, .floor] s (unlinked l s) := by
  refine ⟨fun k other => ?_, unlinked_mask l s⟩
  rw [unlinked_has, beq_eq_false_iff_ne.mpr fun e : k = .podLink => other (e ▸ List.mem_cons_self), Bool.or_false]

/-! ### The sources of the pod off the floor (R69, R74) -/

theorem mem_podActive : i ∈ podActive l s ↔ s.srcs[i].isActive = true ∧ ∃ e, s.srcs[i].origin = some (.pod l e) := by
  rw [podActive, List.mem_filter, Bool.and_eq_true, GoodFrame.onPod_iff]
  exact and_iff_right (List.mem_finRange i)

/-- The part once the pod's sources are off the floor. -/
def emptied (l : PodLink) (s : State) : State × Bool := removeSources (podActive l s) (unlinked l s)

/-- The part once pending service has followed the removal. -/
def vacated (l : PodLink) (s : State) : State := serviceIf (emptied l s).2 (emptied l s).1

theorem badFrame_lost (fourth : 3 ≤ s.pods[l].badRun) : badFrame l s = finishEvent (unlinked l s) (vacated l s) := by
  rw [badFrame_eq, if_pos (Nat.add_le_add_right fourth 1), loseSync_eq, ← unlinked, podActive_unlinked]
  rfl

theorem vacated_frame (l : PodLink) (s : State) : FloorFrame (unlinked l s) (vacated l s) :=
  (removeSources_frame _ _).trans (serviceIf_frame _ _)

/-- On a lawful floor the flag of the removal says whether a member stood on the pod. -/
theorem emptied_flag (law : MembershipLaw s) :
    (emptied l s).2 = true ↔ ∃ i ∈ s.floor.list, ∃ e, s.srcs[i].origin = some (.pod l e) := by
  rw [emptied, removeSources_flag (unlinked_membership l s law).places, unlinked_floor]
  constructor
  · rintro ⟨i, listed, member⟩
    exact ⟨i, member, (mem_podActive.mp listed).2⟩
  · rintro ⟨i, member, on⟩
    exact ⟨i, mem_podActive.mpr ⟨((law.list i).mp member).1, on⟩, member⟩

/-- What stays of a collection is what does not stand on the pod. -/
theorem filter_away {away : SrcSlot → Bool} (pod : ∀ i : SrcSlot, away i = true ↔ ∃ e, s.srcs[i].origin = some (.pod l e))
    {is : List SrcSlot} (active : ∀ i ∈ is, s.srcs[i].isActive = true) :
    (is.filter fun j => decide (j ∉ podActive l s)) = is.filter fun j => !away j :=
  List.filter_congr fun j listed => by
    rw [Bool.eq_iff_iff, decide_eq_true_iff, mem_podActive, Bool.not_eq_true', ← Bool.not_eq_true, pod,
      and_iff_right (active j listed)]

theorem emptied_alike (law : MembershipLaw s) {away : SrcSlot → Bool}
    (pod : ∀ i : SrcSlot, away i = true ↔ ∃ e, s.srcs[i].origin = some (.pod l e)) (hw : w = { s with
      floor := { s.floor with
        list := s.floor.list.filter fun i => !away i
        chairs := s.floor.chairs.filter fun i => !away i
        delegates := s.floor.delegates.filter fun i => !away i }
      srcs := Vector.ofFn fun i =>
        if away i ∧ (i ∈ s.floor.list ∨ i ∈ s.floor.chairs ∨ i ∈ s.floor.delegates) then
          { s.srcs[i] with floorState := some .closed }
        else s.srcs[i] }) : Alike (emptied l s).1 w := by
  have places := (unlinked_membership l s law).places
  have frame := removeSources_frame (podActive l s) (unlinked l s)
  have record (i : SrcSlot) : away i = true ∧ Inside s i ∧ w.srcs[i] = { s.srcs[i] with floorState := some .closed } ∨
      ¬ (away i = true ∧ Inside s i) ∧ w.srcs[i] = s.srcs[i] := by
    rw [hw]
    simp only [Fin.getElem_fin, Vector.getElem_ofFn]
    split
    next there => exact .inl ⟨there.1, there.2, rfl⟩
    next apart => exact .inr ⟨apart, rfl⟩
  have same := unlinked_alike l s
  have gone (i : SrcSlot) : i ∈ podActive l s ∧ Inside (unlinked l s) i ↔ away i = true ∧ Inside s i := by
    rw [Inside, unlinked_floor, ← Inside, mem_podActive, pod]
    exact ⟨fun ⟨⟨_, on⟩, there⟩ => ⟨on, there⟩,
      fun ⟨on, there⟩ => ⟨⟨(law.places.ofFloor_of_inside there).1, on⟩, there⟩⟩
  have params : w.params = s.params := params_of_banks (by rw [hw])
  have floor := removeSources_floor places (podActive l s)
  have state := removeSources_state places (podActive l s)
  rw [unlinked_floor, filter_away pod fun i m => ((law.list i).mp m).1, filter_away pod fun i m => ((law.chairs i).mp m).1,
    filter_away pod fun i m => ((law.delegates i).mp m).1] at floor
  have floorW := congrArg State.floor hw
  simp only [gone, same.floorState] at state
  rw [← emptied] at frame floor state
  generalize (emptied l s).1 = u at frame floor state ⊢
  clear hw
  refine ⟨floorW.trans floor.symm, ?_, fun i => ?_, fun i => ?_⟩
  · rw [params, frame.params, same.params]
  · obtain ⟨closed, which⟩ | ⟨kept, which⟩ := state i <;> obtain ⟨there, inside, rec⟩ | ⟨apart, rec⟩ := record i <;>
      rw [rec]
    · exact closed.symm
    · exact absurd which apart
    · exact absurd ⟨there, inside⟩ which
    · exact kept.symm
  · have cls : u.srcs[i].cls = s.srcs[i].cls := by rw [frame.srcs i, ← same.cls i]
    rw [cls]
    obtain ⟨-, -, rec⟩ | ⟨-, rec⟩ := record i <;> rw [rec]

/-- A source of the pod that the floor may hold is CLOSED and in no collection. -/
theorem vacated_closed (law : MembershipLaw s) (on : ∃ e, s.srcs[i].origin = some (.pod l e))
    (active : s.srcs[i].state = .active) (bound : s.srcs[i].floorClass = true) :
    (vacated l s).srcs[i].floorState = some .closed ∧ ¬ Inside (vacated l s) i := by
  have places := (unlinked_membership l s law).places
  have frame := removeSources_frame (podActive l s) (unlinked l s)
  have active' := isActive_iff.mpr active
  have out := removeSources_outside places (mem_podActive.mpr ⟨active', on⟩)
  have removed := (removeSources_work places (podActive l s)).places
  have ofFloor : OfFloor (removeSources (podActive l s) (unlinked l s)).1 i := by
    rw [OfFloor, frame.srcs i, unlinked_src, unleveled_frame]
    exact ⟨active', bound⟩
  have served := serviceIf_work (emptied l s).2 removed
  have stays := served.closed removed (removed.closed_of_outside ofFloor out) id
  exact ⟨stays, served.places.outside_of_closed stays⟩

/-! ### What the loss leaves -/

section Lost

variable (fourth : 3 ≤ s.pods[l].badRun)
include fourth

theorem lost_src : (badFrame l s).srcs[i] = (unleveled l s.srcs[i]).withFloorOf (badFrame l s).srcs[i] := by
  rw [← unlinked_src, badFrame_lost fourth]
  exact eq_withFloorOf (finishEvent_src_frame _ _ i) ((vacated_frame l s).srcs i)

theorem lost_gain : GainFollows s (badFrame l s) i := by
  rw [badFrame_lost fourth]
  exact gains_unlinked (finishEvent_gain _ i (by rw [(vacated_frame l s).srcs i]))

theorem lost_notices : FloorNoticed s (badFrame l s) ∧ OnlyNotices [.podLink, .floor] s (badFrame l s) ∧
    (badFrame l s).notice.set.podLink = true := by
  have notice := (vacated_frame l s).notice
  have noted : (vacated l s).notice.set.has .podLink = true := by
    rw [notice, unlinked_has]
    exact Bool.or_true _
  rw [badFrame_lost fourth]
  refine ⟨noticed_unlinked (finishEvent_noticed (by rw [notice])),
    (only_unlinked l s).trans (finishEvent_only (List.mem_cons_of_mem _ List.mem_cons_self) (.of_notice notice)), ?_⟩
  rw [finishEvent_notice]
  exact (noteFloor_other (unlinked l s) (vacated l s) (k := .podLink) nofun).trans noted

theorem lost_rest : (badFrame l s).pods = s.pods.set l (lostPod (badPod s.pods[l])) ∧
    { badFrame l s with srcs := s.srcs, floor := s.floor, pods := s.pods, notice := s.notice } = s := by
  have frame := (vacated_frame l s).rest
  have before := unlinked_rest l s
  have pods := unlinked_pods l s
  have finished := finishEvent_over (s := unlinked l s) (u := vacated l s)
    (congrArg (fun v : State => { v with notice := (unlinked l s).notice }) frame :)
  rw [badFrame_lost fourth]
  generalize finishEvent (unlinked l s) (vacated l s) = t at finished ⊢
  generalize unlinked l s = u at finished before pods
  rw [← finished] at before
  exact ⟨(congrArg State.pods finished).trans pods,
    (congrArg (fun v : State => { v with floor := s.floor }) before :)⟩

end Lost

/-- Settles O52: a bad frame is counted, and the fourth in a row loses the link. -/
theorem badFramesLoseTheLink : Obligations.BadFramesLoseTheLink := by
  unfold Obligations.BadFramesLoseTheLink
  refine fun s l h => ⟨fun other => ?idle, fun sync bad few => ?counted, fun sync bad fourth => ?lost⟩
  case idle =>
    refine congrArg Host.Outcome.next (if_neg fun ⟨sync, bad⟩ => ?_)
    obtain unsync | good := other
    · exact unsync sync
    · exact absurd (bad.symm.trans good) nofun
  all_goals have exec : exec (.badFrameInSync l h) s = .next (badFrame l s) := congrArg Host.Outcome.next (if_pos ⟨sync, bad⟩)
  case counted =>
    rw [exec, badFrame_eq, if_neg (by omega), badPod]
    rfl
  case lost =>
    have src (i : SrcSlot) := lost_src (i := i) fourth
    have gain (i : SrcSlot) := lost_gain (i := i) fourth
    obtain ⟨noticed, only, podLink⟩ := lost_notices (l := l) fourth
    obtain ⟨pods, rest⟩ := lost_rest (l := l) fourth
    have alike : Alike (vacated l s) (badFrame l s) := by
      rw [badFrame_lost fourth]
      exact finishEvent_alike _ _
    have removed (law : MembershipLaw s) : PlacesLaw (emptied l s).1 :=
      (removeSources_work (unlinked_membership l s law).places (podActive l s)).places
    generalize badFrame l s = t at *
    refine ⟨t, nextPlace s.pods[l].place, exec, rfl, pods, podLink, noticed, only, fun law there => ?_,
      fun w away law pod hw => ⟨fun there => ?_, fun none => ?_⟩, fun i => ⟨gain i, fun on used => ?_, fun off => ?_,
        fun law on active bound => ?_⟩, rest⟩
    · rw [vacated, (emptied_flag law).mpr there] at alike
      exact alike.queueServed (Service.pendingService_served (removed law))
    · have flag : (emptied l s).2 = true := by
        obtain ⟨i, member, on⟩ := there
        exact (emptied_flag law).mpr ⟨i, member, (pod i).mp on⟩
      rw [vacated, flag] at alike
      exact ((emptied_alike law pod hw).symm.pendingService.trans alike).sameFloor
    · have flag : (emptied l s).2 = false := by
        rw [← Bool.not_eq_true, emptied_flag law]
        rintro ⟨i, member, on⟩
        exact absurd ((none i member).symm.trans ((pod i).mpr on)) nofun
      rw [vacated, flag] at alike
      exact ((emptied_alike law pod hw).symm.trans alike).sameFloor
    · have here := src i
      rw [unleveled_on on used] at here
      exact here
    · have here := src i
      rw [unleveled_off off] at here
      exact here
    · obtain ⟨closed, out⟩ := vacated_closed law on active bound
      rw [Inside, ← alike.floor] at out
      rw [not_or, not_or] at out
      exact ⟨(alike.floorState i).trans closed, out⟩

end LinkLoss

end Sys2Proof.Machine
end

section
/-! Proof for O33: the swap effect. -/

namespace Sys2Proof.Machine.Swap

variable {s t : State} {i : SrcSlot}

theorem exec_swapEffect (pending : s.banks.swap = .swapPending) : exec .swapEffect s = .next (swapEffect s) :=
  congrArg Host.Outcome.next (if_pos pending)

/-- The floor once its stamps are dropped and expired under the new parameters, before pending service. -/
theorem floorSwap_places (law : PlacesLaw s) : PlacesLaw (expireStamps (floorSwap s)) := by
  have places := holdsAdjusted_places law
  have shrunk := shrinkFloor_work (holdsAdjusted s).floor.list.length places
  rw [floorSwap_eq]
  exact (expireStamps_work (swapStamps_work shrunk.places).places).places

theorem retargeted_alike (v u : State) : Alike u (retargeted v u) where
  floor := retargeted_floor v u
  params := retargeted_params v u
  floorState i := by rw [retargeted_frame]
  cls i := by rw [retargeted_frame]

theorem swapEffect_alike (s : State) : Alike (swapServed (exchanged s)) (swapEffect s) := by
  rw [swapEffect_eq]
  exact retargeted_alike _ _

theorem swapEffect_floor (s : State) : (swapEffect s).floor = (swapServed (exchanged s)).floor :=
  (swapEffect_alike s).floor

theorem swapEffect_block (s : State) : (swapEffect s).floor.block = s.floor.block := by
  rw [swapEffect_floor, (swapDone_frame _).block, exchanged_floor]

theorem swapEffect_served (law : MembershipLaw s) : QueueServed (swapEffect s) :=
  (swapEffect_alike s).queueServed
    (Service.pendingService_served (floorSwap_places (exchanged_membership law).places))

/-- The creep count comes below the new CreepBlocks (R36). -/
theorem swapEffect_creep (s : State) (i : SrcSlot) : (swapEffect s).srcs[i].creep =
    if s.banks.editBank.params.creepBlocks ≤ s.srcs[i].creep then s.banks.editBank.params.creepBlocks - 1
    else s.srcs[i].creep := by
  have served : (swapEffect s).srcs[i].creep = (exchanged s).srcs[i].creep := by
    rw [swapEffect_eq, retargeted_frame, (swapDone_frame _).srcs i]
  rw [served, exchanged_src, adjustCreep]
  split <;> rfl

/-- The one gain handed on where the source is ACTIVE and of a floor class (R103). -/
theorem retargeted_gain (v u : State) (i : SrcSlot) : (retargeted v u).srcs[i].gain =
    if u.srcs[i].state = .active ∧ u.srcs[i].floorClass = true then
      u.srcs[i].gain.hand (composeTarget u.params (retargeted v u).floor.list.length (retargeted v u).srcs[i])
    else u.srcs[i].gain := by
  have frame := retargeted_frame v u i
  have read : composeTarget u.params (retargeted v u).floor.list.length (retargeted v u).srcs[i]
      = composeTarget u.params u.floor.list.length u.srcs[i] := by
    rw [retargeted_floor]
    apply composeTarget_of_same <;> rw [frame]
  rw [read, retargeted_src, retarget]
  simp only [Bool.and_eq_true, isActive_iff]
  split <;> rfl

theorem swapEffect_gain (s : State) (i : SrcSlot) : (swapEffect s).srcs[i].gain =
    if s.srcs[i].state = .active ∧ s.srcs[i].floorClass = true then
      s.srcs[i].gain.hand (composeTarget s.banks.editBank.params (swapEffect s).floor.list.length (swapEffect s).srcs[i])
    else s.srcs[i].gain := by
  have src := swapServed_src s i
  have params : (swapServed (exchanged s)).params = s.banks.editBank.params := by
    rw [(swapDone_frame _).params, exchanged_params]
  have handed := retargeted_gain (exchanged s) (swapServed (exchanged s)) i
  rw [← swapEffect_eq, params] at handed
  generalize (exchanged s).srcs[i].creep = c at src
  generalize (swapServed (exchanged s)).srcs[i] = x at src handed
  rw [handed]
  generalize swapEffect s = t
  rw [src]
  rfl

theorem swapEffect_target (s : State) (active : s.srcs[i].state = .active) (bound : s.srcs[i].floorClass = true) :
    (swapEffect s).srcs[i].gain.target
      = composeTarget s.banks.editBank.params (swapEffect s).floor.list.length (swapEffect s).srcs[i] := by
  rw [swapEffect_gain, if_pos ⟨active, bound⟩, GainUnit.hand_target]

theorem swapEffect_notices (s : State) : FloorNoticed s (swapEffect s) ∧ OnlyNotices [.floor] s (swapEffect s) := by
  have before : (exchanged s).notice = s.notice := (overlay_exchanged (exchanged_rest s)).2.2.2.2.2
  have served : (swapServed (exchanged s)).notice = (exchanged s).notice := (swapDone_frame _).notice
  have noticed := noteFloor_noticed (s := exchanged s) (u := swapServed (exchanged s)) (by rw [served])
  rw [FloorNoticed, OnlyNotices, swapEffect_floor, swapEffect_eq, retargeted_notice]
  rw [before, exchanged_floor] at noticed
  refine ⟨noticed, fun k other => ?_, ?_⟩
  · rw [noteFloor_other _ _ fun e : k = .floor => other (e ▸ List.mem_cons_self), served, before]
  · rw [noteFloor_mask, served, before]

/-! ### The swap effect within a block's start (R77, R107) -/

theorem worked_pending (pending : s.banks.swap = .swapPending) : worked s = swapEffect (advanced s) := if_pos pending

theorem swapRamps_stepped (former new : Bank) (f : FeedSlot) (i : SrcSlot) :
    (swapRamps former new)[f][i].map XpRamp.step = (swapRamps former new)[f][i].map fun r => { r with done := 1 } := by
  rw [swapRamps_at]
  split
  · rfl
  · have steps : 0 < rampDuration (new.xp[f][i] - former.xp[f][i]).natAbs := by
      have := rampDuration_mem (new.xp[f][i] - former.xp[f][i]).natAbs
      omega
    exact congrArg some (if_pos steps)

theorem startBlock_banks (aux : Vector Block 8) (s : State) : (startBlock aux s).banks = (worked s).banks := by
  have read := readBlock_rest (w := readied aux s)
  rw [startBlock_readied, ← readied_banks aux s]
  generalize readBlock (readied aux s) = u at read ⊢
  exact (congrArg State.banks read :)

/-- Settles O33: the roles exchanged, the ramps made, the floor's work done and every floor-class target handed on. -/
theorem swapEffectExchangesTheBanks : Obligations.SwapEffectExchangesTheBanks := by
  unfold Obligations.SwapEffectExchangesTheBanks
  refine fun s => ⟨fun idle => congrArg Host.Outcome.next (if_neg idle), fun pending =>
    ⟨swapEffect s, exec_swapEffect pending, swapEffect_banks s, fun f i => ?ramps, fun i => ?src,
      fun i active bound => ?target, swapEffect_gain s, swapEffect_block s, fun banks law => ?floor, swapEffect_served, (swapEffect_notices s).1,
      (swapEffect_notices s).2, swapEffect_rest s, fun aux => ⟨startBlock aux s, rfl, ?banks, fun f i => ?stepped⟩⟩⟩
  case ramps =>
    rw [swapEffect_xpRamps, swapRamps_at]
    exact ⟨fun same => if_pos same, fun differ => if_neg differ⟩
  case src =>
    have src := swapEffect_src s i
    have creep := swapEffect_creep s i
    generalize (swapEffect s).srcs[i] = x at src creep ⊢
    rw [creep] at src
    exact src
  case target =>
    have composed := swapEffect_target s active bound
    generalize swapEffect s = t at composed ⊢
    exact composed
  case floor =>
    have kept := (swapEffect_all s).floor
    generalize swapEffect s = t at kept ⊢
    exact kept banks law
  case banks => rw [startBlock_banks, worked_pending pending, swapEffect_banks, swapEffect_banks]; rfl
  case stepped =>
    have same : swapRamps (advanced s).banks.opBank (advanced s).banks.editBank
        = swapRamps s.banks.opBank s.banks.editBank := rfl
    rw [startBlock_readied, readBlock_xpRamps, readied_xpRamp, worked_pending pending, swapEffect_xpRamps,
      swapEffect_xpRamps, same]
    exact swapRamps_stepped _ _ f i

end Sys2Proof.Machine.Swap
end

section
/-! The first two steps of the floor's work at a swap effect for O34: LAST and the holds (R78). -/

namespace Sys2Proof.Machine.Swap

variable {s t : State} {i j : SrcSlot} {is : List SrcSlot}

/-- What work of the floor leaves of a record whose floor state is known. -/
theorem src_of_frame (frame : FloorFrame s t) {f : Option FloorState} (state : t.srcs[i].floorState = f) :
    t.srcs[i] = { s.srcs[i] with floorState := f } := by
  rw [← state]
  exact frame.srcs i

/-! ### LAST (R78 step 1) -/

theorem swapLast_idle (h : s.params.lastMic = true ∨ ∀ i ∈ s.floor.list, s.srcs[i].floorState ≠ some .last) :
    swapLast s = s := by
  unfold swapLast
  split
  next => rfl
  next off =>
    have noLast := h.resolve_left off
    have none_found : (s.floor.list.find? fun i => s.floorState i == some .last) = none :=
      List.find?_eq_none.mpr fun i member last => noLast i member (beq_iff_eq.mp last)
    rw [none_found]

theorem closeSource_member (law : PlacesLaw s) (member : i ∈ s.floor.list) : closeSource i s = { s with
    floor := { s.floor with list := s.floor.list.erase i }
    srcs := s.srcs.set i { s.srcs[i] with floorState := some .closed } } := by
  obtain ⟨chairs, delegates⟩ := law.not_queued_of_member member
  have without : s.floor.without i = { s.floor with list := s.floor.list.erase i } := by
    rw [FloorCtl.without, List.erase_of_not_mem chairs, List.erase_of_not_mem delegates]
  rw [closeSource, without]
  rfl

theorem swapLast_leaves (law : PlacesLaw s) (member : i ∈ s.floor.list) (off : s.params.lastMic = false)
    (last : s.srcs[i].floorState = some .last)
    (only : ∀ j ∈ s.floor.list, s.srcs[j].floorState = some .last → j = i) : swapLast s = { s with
      floor := { s.floor with list := s.floor.list.erase i }
      srcs := s.srcs.set i { s.srcs[i] with floorState := some .closed } } := by
  rw [← closeSource_member law member]
  unfold swapLast
  rw [off, if_neg Bool.false_ne_true]
  split
  next k found =>
    obtain ⟨there, isLast⟩ := find_last_mem found
    rw [only k there isLast]
  next none_found =>
    exact absurd (beq_iff_eq.mpr last) (List.find?_eq_none.mp none_found i member)

/-! ### Holds that have come to 0 (R78 step 2) -/

/-- A source on hold, where the places are lawful, is on the floor list. -/
theorem member_of_hold (law : PlacesLaw s) (hold : isHold s.srcs[i].floorState = true) : i ∈ s.floor.list := by
  obtain ⟨c, held⟩ := isHold_iff.mp hold
  have ofFloor := law.ofFloor_of_state held nofun nofun
  exact (law.mem_list_iff ofFloor).mpr (by rw [held]; rfl)

/-- The removal of members leaves the queue. -/
theorem removeSources_members (law : PlacesLaw s) (members : ∀ j ∈ is, j ∈ s.floor.list) :
    (removeSources is s).1.floor = { s.floor with list := s.floor.list.filter fun j => decide (j ∉ is) } := by
  have kept {l : List SrcSlot} (apart : ∀ j ∈ s.floor.list, j ∉ l) : (l.filter fun j => decide (j ∉ is)) = l :=
    List.filter_eq_self.mpr fun j queued => decide_eq_true fun listed => apart j (members j listed) queued
  rw [removeSources_floor law, kept fun j m => (law.not_queued_of_member m).1,
    kept fun j m => (law.not_queued_of_member m).2]

theorem removeSources_closed (law : PlacesLaw s) (members : ∀ j ∈ is, j ∈ s.floor.list) (listed : i ∈ is) :
    (removeSources is s).1.srcs[i].floorState = some .closed := by
  obtain ⟨closed, -⟩ | ⟨-, apart⟩ := removeSources_state law is i
  · exact closed
  · exact absurd ⟨listed, .inl (members i listed)⟩ apart

theorem removeSources_stays (law : PlacesLaw s) (unlisted : i ∉ is) :
    (removeSources is s).1.srcs[i].floorState = s.srcs[i].floorState := by
  obtain ⟨-, listed, -⟩ | ⟨stays, -⟩ := removeSources_state law is i
  · exact absurd listed unlisted
  · exact stays

/-- Those of the sources that stand on hold at 0. -/
def zeros (s : State) (is : List SrcSlot) : List SrcSlot := is.filter fun i => s.srcs[i].floorState == some (.hold 0)

theorem mem_zeros : i ∈ zeros s is ↔ i ∈ is ∧ s.srcs[i].floorState = some (.hold 0) := by
  rw [zeros, List.mem_filter, beq_iff_eq]

theorem zeros_members (law : PlacesLaw s) : ∀ j ∈ zeros s is, j ∈ s.floor.list := fun j zero =>
  member_of_hold law (by rw [(mem_zeros.mp zero).2]; rfl)

theorem expireZero_of_zero (zero : s.srcs[i].floorState = some (.hold 0)) : expireZero s i = (expireHold i s).1 :=
  if_pos (beq_iff_eq.mpr zero)

theorem expireZero_of_not_zero (other : s.srcs[i].floorState ≠ some (.hold 0)) : expireZero s i = s :=
  if_neg fun zero => other (beq_iff_eq.mp zero)

theorem expireZeros_idle (none : ∀ i ∈ is, s.srcs[i].floorState ≠ some (.hold 0)) : is.foldl expireZero s = s := by
  induction is with
  | nil => rfl
  | cons i is ih =>
    obtain ⟨first, later⟩ := List.forall_mem_cons.mp none
    rw [List.foldl_cons, expireZero_of_not_zero first]
    exact ih later

/-- Where something keeps the last of them from being alone on a floor with an empty queue and LastMic on, holds at 0
expired one after another are removed together (R67). -/
theorem expireZeros_removed (law : PlacesLaw s) (once : is.Nodup) (stays : s.params.lastMic = false ∨ s.floor.chairs ≠ [] ∨
      s.floor.delegates ≠ [] ∨ ∃ k ∈ s.floor.list, k ∉ is ∨ s.srcs[k].floorState ≠ some (.hold 0)) :
    is.foldl expireZero s = (removeSources (zeros s is) s).1 := by
  induction is using List.reverseRecOn with
  | nil => rfl
  | append_singleton is i ih =>
    obtain ⟨once, -, apart⟩ := List.nodup_append'.mp once
    have unlisted : i ∉ is := fun listed => apart listed (List.mem_singleton_self i)
    rw [List.foldl_append, List.foldl_cons, List.foldl_nil, ih once (stays.imp_right fun h => h.imp_right fun h =>
      h.imp_right fun ⟨k, member, which⟩ => ⟨k, member, which.imp_left fun out listed => out (List.mem_append_left _ listed)⟩)]
    have same := removeSources_stays law (i := i) (is := zeros s is) fun listed => unlisted (mem_zeros.mp listed).1
    have floor := removeSources_members law (zeros_members (is := is) law)
    have params := (removeSources_frame (zeros s is) s).params
    have split : zeros s (is ++ [i]) = zeros s is ++ zeros s [i] := List.filter_append ..
    by_cases zero : s.srcs[i].floorState = some (.hold 0)
    · have single : zeros s [i] = [i] := List.filter_eq_self.mpr fun j listed => by
        rw [List.mem_singleton.mp listed]
        exact beq_iff_eq.mpr zero
      rw [split, single, removeSources_append]
      dsimp only
      generalize (removeSources (zeros s is) s).1 = u at same floor params ⊢
      have member : i ∈ u.floor.list := by
        rw [floor, List.mem_filter, decide_eq_true_iff]
        exact ⟨member_of_hold law (by rw [zero]; rfl), fun listed => unlisted (mem_zeros.mp listed).1⟩
      rw [removeSource_member member, expireZero_of_zero (same.trans zero)]
      obtain ⟨⟨lastMic, alone, chairs, delegates⟩, -⟩ | ⟨-, closes⟩ := expireHold_eq i u
      · rw [params] at lastMic
        rw [floor] at alone chairs delegates
        obtain off | queued | queued | ⟨k, there, which⟩ := stays
        · exact absurd (off.symm.trans lastMic) nofun
        · exact absurd chairs queued
        · exact absurd delegates queued
        · have unlisted_zero : k ∉ zeros s is := fun listed => which.elim
            (fun out => out (List.mem_append_left _ (mem_zeros.mp listed).1)) fun other => other (mem_zeros.mp listed).2
          have left : k ∈ [i] := by
            rw [← alone, List.mem_filter, decide_eq_true_iff]
            exact ⟨there, unlisted_zero⟩
          rw [List.mem_singleton.mp left] at which
          exact which.elim (fun out => absurd (List.mem_append_right _ (List.mem_singleton_self i)) out)
            fun other => absurd zero other
      · rw [closes]
    · have empty : zeros s [i] = [] := List.filter_eq_nil_iff.mpr fun j listed => by
        rw [List.mem_singleton.mp listed, beq_iff_eq]
        exact zero
      rw [split, empty, List.append_nil]
      exact expireZero_of_not_zero fun e => zero (same.symm.trans e)

/-! ### The holds lowered (R78 step 2) -/

/-- With HoldBlocks above 0 no hold expires. -/
theorem swapHolds_lowers (pos : 0 < s.params.holdBlocks)
    (counts : ∀ (i : SrcSlot) (c : Nat), s.srcs[i].floorState = some (.hold c) → 1 ≤ c) : swapHolds s = lowered s := by
  rw [swapHolds_eq]
  refine expireZeros_idle fun i _ zero => ?_
  rw [lowered_src] at zero
  obtain ⟨c, held, e⟩ | ⟨other, e⟩ := lowerHold_cases s.params.holdBlocks s.srcs[i].floorState
  · have count := counts i c held
    rw [e] at zero
    have : min c s.params.holdBlocks = 0 := FloorState.hold.inj (Option.some.inj zero)
    omega
  · rw [e] at zero
    rw [zero] at other
    cases other

section Zero

variable (zero : s.params.holdBlocks = 0)
include zero

/-- With HoldBlocks 0 every hold stands at 0. -/
theorem lowered_zero_iff : (lowered s).srcs[i].floorState = some (.hold 0) ↔ isHold s.srcs[i].floorState = true := by
  rw [lowered_src, zero]
  obtain ⟨c, held, e⟩ | ⟨other, e⟩ := lowerHold_cases 0 s.srcs[i].floorState
  · rw [e, held, Nat.min_zero]
    exact iff_of_true rfl rfl
  · rw [e, other]
    refine iff_of_false (fun hold => ?_) nofun
    rw [hold] at other
    cases other

omit zero in
theorem lowered_other (other : isHold s.srcs[i].floorState = false) :
    (lowered s).srcs[i].floorState = s.srcs[i].floorState := by
  rw [lowered_src]
  obtain ⟨c, held, -⟩ | ⟨-, e⟩ := lowerHold_cases s.params.holdBlocks s.srcs[i].floorState
  · rw [held] at other
    cases other
  · exact e

theorem mem_lowered_zeros : i ∈ zeros (lowered s) is ↔ i ∈ is ∧ isHold s.srcs[i].floorState = true := by
  rw [mem_zeros, lowered_zero_iff zero]

/-- The holds of a floor on which none is left alone, all CLOSED. -/
theorem swapHolds_closes (law : PlacesLaw s) (stays : s.params.lastMic = false ∨ s.floor.chairs ≠ [] ∨
      s.floor.delegates ≠ [] ∨ ∃ j ∈ s.floor.list, isHold s.srcs[j].floorState = false) :
    (swapHolds s).floor = { s.floor with list := s.floor.list.filter fun i => !isHold s.srcs[i].floorState } ∧
    ∀ i : SrcSlot, (swapHolds s).srcs[i].floorState
      = if isHold s.srcs[i].floorState then some .closed else s.srcs[i].floorState := by
  have places := lowered_places law
  have floor := lowered_floor s
  have params := (lowered_frame s).params
  have removed := expireZeros_removed places (is := s.floor.list) law.once.1 (by
    rw [floor, params]
    exact stays.imp_right fun h => h.imp_right fun h => h.imp_right fun ⟨k, member, other⟩ =>
      ⟨k, member, .inr fun held => by rw [(lowered_zero_iff zero).mp held] at other; cases other⟩)
  rw [swapHolds_eq, removed]
  have members := zeros_members (is := s.floor.list) places
  refine ⟨?_, fun i => ?_⟩
  · rw [removeSources_members places members, floor]
    refine congrArg (fun l => { s.floor with list := l }) (List.filter_congr fun i listed => ?_)
    rw [Bool.eq_iff_iff, decide_eq_true_iff, mem_lowered_zeros zero, Bool.not_eq_true', ← Bool.not_eq_true,
      and_iff_right listed]
  · split
    next hold => exact removeSources_closed places members ((mem_lowered_zeros zero).mpr ⟨member_of_hold law hold, hold⟩)
    next other =>
      rw [removeSources_stays places fun listed => other ((mem_lowered_zeros zero).mp listed).2,
        lowered_other (Bool.eq_false_iff.mpr other)]

/-- The holds of a floor that holds nothing else: the newest becomes LAST, the others CLOSED. -/
theorem swapHolds_last (law : PlacesLaw s) {older : List SrcSlot} (lastMic : s.params.lastMic = true)
    (chairs : s.floor.chairs = []) (delegates : s.floor.delegates = []) (list : s.floor.list = older ++ [i])
    (holds : ∀ j ∈ s.floor.list, isHold s.srcs[j].floorState = true) :
    (swapHolds s).floor = { s.floor with list := [i] } ∧ (swapHolds s).srcs[i].floorState = some .last ∧
    (∀ j ∈ older, (swapHolds s).srcs[j].floorState = some .closed) ∧
    ∀ j : SrcSlot, j ∉ s.floor.list → (swapHolds s).srcs[j].floorState = s.srcs[j].floorState := by
  have places := lowered_places law
  have floor := lowered_floor s
  have params := (lowered_frame s).params
  have once := law.once.1
  rw [list] at once
  obtain ⟨olderOnce, -, apart⟩ := List.nodup_append'.mp once
  have unlisted : i ∉ older := fun listed => apart listed (List.mem_singleton_self i)
  have newest : i ∈ s.floor.list := by
    rw [list]
    exact List.mem_append_right _ (List.mem_singleton_self i)
  have removed := expireZeros_removed places olderOnce (.inr (.inr (.inr ⟨i, by rw [floor]; exact newest, .inl unlisted⟩)))
  have all : zeros (lowered s) older = older := List.filter_eq_self.mpr fun j listed => beq_iff_eq.mpr
    ((lowered_zero_iff zero).mpr (holds j (by rw [list]; exact List.mem_append_left _ listed)))
  have members := zeros_members (is := older) places
  rw [all] at removed members
  have floorU := removeSources_members places members
  have closed (j : SrcSlot) (listed : j ∈ older) := removeSources_closed places members listed
  have stays (j : SrcSlot) (out : j ∉ older) := removeSources_stays places out
  have paramsU := (removeSources_frame older (lowered s)).params
  have alone : (s.floor.list.filter fun j => decide (j ∉ older)) = [i] := by
    rw [list, List.filter_append, List.filter_eq_nil_iff.mpr fun j listed => by simpa using listed,
      List.filter_eq_self.mpr fun j single => by rw [List.mem_singleton.mp single]; exact decide_eq_true unlisted]
    rfl
  rw [floor, alone] at floorU
  rw [swapHolds_eq, list, List.foldl_append, List.foldl_cons, List.foldl_nil, removed]
  generalize (removeSources older (lowered s)).1 = u at floorU closed stays paramsU ⊢
  have held : u.srcs[i].floorState = some (.hold 0) :=
    (stays i unlisted).trans ((lowered_zero_iff zero).mpr (holds i newest))
  have becomes : expireZero u i = u.setFloorState i .last := by
    rw [expireZero_of_zero held]
    obtain ⟨-, e⟩ | ⟨not, -⟩ := expireHold_eq i u
    · rw [e]
    · exact absurd ⟨by rw [paramsU, params, lastMic], by rw [floorU], by rw [floorU, chairs], by rw [floorU, delegates]⟩ not
  rw [becomes]
  have state := floorState_set .last (setFloorState_srcs_eq i .last u)
  refine ⟨by rw [State.setFloorState_floor, floorU], by rw [state, if_pos rfl], fun j listed => ?_, fun j out => ?_⟩
  · rw [state, if_neg fun e : j = i => unlisted (e ▸ listed), closed j listed]
  · have off : j ∉ older ∧ j ≠ i := by
      rw [List.mem_append, List.mem_singleton, not_or] at out
      exact out
    have other : isHold s.srcs[j].floorState = false := by
      rw [← Bool.not_eq_true]
      intro hold
      have member := member_of_hold law hold
      rw [list] at member
      exact out member
    rw [state, if_neg off.2, stays j off.1, lowered_other other]

end Zero

end Sys2Proof.Machine.Swap
end

section
/-! The surplus members that a swap effect takes off the floor, and the proof for O34 (R78). -/

namespace Sys2Proof.Machine.Swap

variable {s t : State} {i j : SrcSlot}

/-! ### Order in a list -/

theorem find?_first {l : List SrcSlot} {p : SrcSlot → Bool} (found : l.find? p = some i) (member : j ∈ l) (holds : p j = true)
    (apart : j ≠ i) : [i, j].Sublist l := by
  obtain ⟨-, older, younger, rfl, none⟩ := List.find?_eq_some_iff_append.mp found
  have later : j ∈ younger := by
    obtain early | late := List.mem_append.mp member
    · have not := none j early
      rw [holds] at not
      cases not
    · exact (List.mem_cons.mp late).resolve_left apart
  exact ((List.singleton_sublist.mpr later).cons_cons i).trans (List.sublist_append_right _ _)

theorem find?_reverse_last {l : List SrcSlot} {p : SrcSlot → Bool} (found : l.reverse.find? p = some i) (member : j ∈ l)
    (holds : p j = true) (apart : j ≠ i) : [j, i].Sublist l :=
  List.reverse_sublist.mp (find?_first found (List.mem_reverse.mpr member) holds apart)

/-- Of two elements of a list that holds each once, one comes first. -/
theorem not_before_both {l : List SrcSlot} (once : l.Nodup) (first : [i, j].Sublist l) (second : [j, i].Sublist l) : False := by
  induction l with
  | nil => cases first
  | cons k l ih =>
    obtain ⟨fresh, once⟩ := List.nodup_cons.mp once
    cases first with
    | cons _ first =>
      cases second with
      | cons _ second => exact ih once first second
      | cons_cons _ _ => exact fresh (first.subset (List.mem_cons_of_mem _ List.mem_cons_self))
    | cons_cons _ rest =>
      cases second with
      | cons _ second => exact fresh (second.subset (List.mem_cons_of_mem _ List.mem_cons_self))
      | cons_cons _ _ => exact fresh (List.singleton_sublist.mp rest)

/-- A filter that lets one more element through, which comes before all it has let through, puts it in front. -/
theorem filter_prepend {l : List SrcSlot} (once : l.Nodup) {p q : SrcSlot → Bool} (member : i ∈ l) (now : q i = true)
    (before : p i = false) (same : ∀ k, k ≠ i → q k = p k) (first : ∀ k ∈ l, p k = true → [i, k].Sublist l) :
    l.filter q = i :: l.filter p := by
  obtain ⟨older, younger, rfl⟩ := List.append_of_mem member
  obtain ⟨-, youngerOnce, apart⟩ := List.nodup_append'.mp once
  have fresh : i ∉ younger := (List.nodup_cons.mp youngerOnce).1
  have olderOther {k : SrcSlot} (early : k ∈ older) : k ≠ i := fun e => apart early (e ▸ List.mem_cons_self)
  have none (k : SrcSlot) (early : k ∈ older) : ¬ p k = true := fun through =>
    not_before_both once (first k (List.mem_append_left _ early) through)
      ((List.singleton_sublist.mpr early).append (List.singleton_sublist.mpr List.mem_cons_self))
  have skipped : older.filter p = [] := List.filter_eq_nil_iff.mpr none
  have skippedToo : older.filter q = [] := List.filter_eq_nil_iff.mpr fun k early => by
    rw [same k (olderOther early)]
    exact none k early
  have later : younger.filter q = younger.filter p := List.filter_congr fun k late => same k fun e => fresh (e ▸ late)
  rw [List.filter_append, List.filter_append, skipped, skippedToo, List.filter_cons_of_pos now,
    List.filter_cons_of_neg (by rw [before]; nofun), later]
  rfl

/-! ### The rank of the surplus (R78 step 3) -/

/-- The floor gives `i` up rather than `j`: LAST, then HOLD oldest first, then OPEN DELEGATE newest first, then OPEN CHAIR
newest first. -/
def GivenUpBefore (s : State) (i j : SrcSlot) : Prop :=
  s.srcs[i].floorState = some .last ∨ s.srcs[j].floorState ≠ some .last ∧
    (isHold s.srcs[i].floorState = true ∧ (isHold s.srcs[j].floorState = true → [i, j].Sublist s.floor.list) ∨
      s.srcs[i].floorState = some .opened ∧ s.srcs[j].floorState = some .opened ∧
        (s.srcs[i].cls = some .delegate ∧ (s.srcs[j].cls = some .delegate → [j, i].Sublist s.floor.list) ∨
          s.srcs[i].cls = some .chair ∧ s.srcs[j].cls = some .chair ∧ [j, i].Sublist s.floor.list))

theorem isDelegate_iff {x : Source} : x.isDelegate = true ↔ x.cls = some .delegate := beq_iff_eq

theorem opened_delegate_iff : (s.floorState i == some .opened && s.srcs[i].isDelegate) = true ↔
    s.srcs[i].floorState = some .opened ∧ s.srcs[i].cls = some .delegate := by
  rw [Bool.and_eq_true, beq_iff_eq, isDelegate_iff, State.floorState]

theorem opened_chair_iff : (s.floorState i == some .opened && s.srcs[i].isChair) = true ↔
    s.srcs[i].floorState = some .opened ∧ s.srcs[i].cls = some .chair := by
  rw [Bool.and_eq_true, beq_iff_eq, Admission.isChair_iff, State.floorState]

/-- The member given up comes before every other in the rank. -/
theorem surplus_before (law : PlacesLaw s) (found : surplus s = some i) (member : j ∈ s.floor.list) (apart : j ≠ i) :
    GivenUpBefore s i j := by
  simp only [surplus, Option.orElse_eq_orElse, Option.orElse_eq_or, Option.or_eq_some_iff] at found
  obtain last | ⟨noLast, found⟩ := found
  · exact .inl (find_last_mem last).2
  have notLast : s.srcs[j].floorState ≠ some .last := fun last =>
    List.find?_eq_none.mp noLast j member (beq_iff_eq.mpr last)
  refine .inr ⟨notLast, ?_⟩
  obtain hold | ⟨noHold, found⟩ := found
  · have held := List.find?_some hold
    exact .inl ⟨held, fun held => find?_first hold member held apart⟩
  have notHold : ¬ isHold s.srcs[j].floorState = true := fun held => List.find?_eq_none.mp noHold j member held
  have opened : s.srcs[j].floorState = some .opened :=
    (onFloor_iff.mp ((law.list j).mp member).2).resolve_right fun h => h.elim notHold notLast
  refine .inr ?_
  obtain delegate | ⟨noDelegate, chair⟩ := found
  · have given := List.find?_some delegate
    obtain ⟨openedI, cls⟩ := opened_delegate_iff.mp given
    exact ⟨openedI, opened, .inl ⟨cls, fun clsJ =>
      find?_reverse_last delegate member (opened_delegate_iff.mpr ⟨opened, clsJ⟩) apart⟩⟩
  · have given := List.find?_some chair
    obtain ⟨openedI, cls⟩ := opened_chair_iff.mp given
    have notDelegate : ¬ s.srcs[j].isDelegate = true := fun isDelegate =>
      List.find?_eq_none.mp noDelegate j (List.mem_reverse.mpr member)
        (opened_delegate_iff.mpr ⟨opened, isDelegate_iff.mp isDelegate⟩)
    have clsJ : s.srcs[j].cls = some .chair := Admission.isChair_iff.mp
      ((floorClass_iff.mp (law.ofFloor_of_inside (.inl member)).2).resolve_right notDelegate)
    exact ⟨openedI, opened, .inr ⟨cls, clsJ, find?_reverse_last chair member (opened_chair_iff.mpr ⟨opened, clsJ⟩) apart⟩⟩

/-! ### Members given up one after another -/

/-- The OPEN members of a class that the floor no longer holds when its list has become `l`, in their order of admission. -/
def waiting (s : State) (l : List SrcSlot) (c : SrcClass) : List SrcSlot :=
  s.floor.list.filter fun i => decide (i ∉ l ∧ s.srcs[i].floorState = some .opened ∧ s.srcs[i].cls = some c)

/-- From `s` to `t` the floor has given up members in the order of their rank. -/
structure GaveUp (s t : State) : Prop where
  frame : FloorFrame s t
  places : PlacesLaw t
  list : t.floor.list.Sublist s.floor.list
  before : ∀ i ∈ s.floor.list, i ∉ t.floor.list → ∀ j ∈ t.floor.list, GivenUpBefore s i j
  gone : ∀ i ∈ s.floor.list, i ∉ t.floor.list →
    t.srcs[i].floorState = if s.srcs[i].floorState = some .opened then some .pending else some .closed
  kept : ∀ i : SrcSlot, ¬ (i ∈ s.floor.list ∧ i ∉ t.floor.list) → t.srcs[i].floorState = s.srcs[i].floorState
  floor : t.floor = { s.floor with
    list := t.floor.list
    chairs := waiting s t.floor.list .chair ++ s.floor.chairs
    delegates := waiting s t.floor.list .delegate ++ s.floor.delegates }

/-- The member in the part of the queue that its class names, if it is given up OPEN (R58). -/
def requeued (s : State) (i : SrcSlot) (c : SrcClass) : List SrcSlot :=
  if s.srcs[i].floorState = some .opened ∧ s.srcs[i].cls = some c then [i] else []

theorem requeued_waits {c : SrcClass} (opened : s.srcs[i].floorState = some .opened) (cls : s.srcs[i].cls = some c) :
    requeued s i c = [i] := if_pos ⟨opened, cls⟩

theorem requeued_other {c : SrcClass} (h : s.srcs[i].floorState = some .opened → s.srcs[i].cls ≠ some c) :
    requeued s i c = [] := if_neg fun waits => h waits.1 waits.2

/-- A member evicted leaves the list; an OPEN one joins the head of its part of the queue (R64 step 1). -/
theorem evict_floor (law : PlacesLaw s) (member : i ∈ s.floor.list) : (evict i s).floor = { s.floor with
    list := s.floor.list.erase i
    chairs := requeued s i .chair ++ s.floor.chairs
    delegates := requeued s i .delegate ++ s.floor.delegates } := by
  obtain ⟨notChairs, notDelegates⟩ := law.not_queued_of_member member
  by_cases opened : s.srcs[i].floorState = some .opened
  · rw [Admission.evict_opened opened, moveToHead_floor, FloorCtl.without, List.erase_of_not_mem notChairs,
      List.erase_of_not_mem notDelegates]
    have bound := (law.ofFloor_of_inside (.inl member)).2
    cases chair : s.srcs[i].isChair with
    | true =>
      have cls := Admission.isChair_iff.mp chair
      rw [requeued_waits opened cls, requeued_other (c := .delegate) fun _ => by rw [cls]; nofun]
      rfl
    | false =>
      have cls := isDelegate_iff.mp ((isDelegate_iff_not_isChair bound).mpr chair)
      rw [requeued_waits opened cls, requeued_other (c := .chair) fun _ => by rw [cls]; nofun]
      rfl
  · rw [Admission.evict_closes opened, closeSource_floor, FloorCtl.without, List.erase_of_not_mem notChairs,
      List.erase_of_not_mem notDelegates, requeued_other fun h => absurd h opened,
      requeued_other fun h => absurd h opened]
    rfl

theorem evict_state (i j : SrcSlot) (s : State) : (evict i s).srcs[j].floorState = if j = i then
    (if s.srcs[i].floorState = some .opened then some .pending else some .closed) else s.srcs[j].floorState := by
  by_cases opened : s.srcs[i].floorState = some .opened
  · rw [Admission.evict_opened opened, floorState_set .pending (moveToHead_srcs i s), if_pos opened]
  · rw [Admission.evict_closes opened, floorState_set .closed (closeSource_srcs i s), if_neg opened]

namespace GaveUp

theorem refl (law : PlacesLaw s) : GaveUp s s where
  frame := .refl s
  places := law
  list := .refl _
  before i member gone := absurd member gone
  gone i member gone := absurd member gone
  kept _ _ := rfl
  floor := by
    have none (c : SrcClass) : waiting s s.floor.list c = [] := List.filter_eq_nil_iff.mpr fun i member h =>
      (of_decide_eq_true h).1 member
    rw [none, none, List.nil_append, List.nil_append]

section Step

variable (law : PlacesLaw s) (h : GaveUp s t) (found : surplus t = some i)
include h

theorem cls (j : SrcSlot) : t.srcs[j].cls = s.srcs[j].cls := by rw [h.frame.srcs j]

theorem state (member : j ∈ t.floor.list) : t.srcs[j].floorState = s.srcs[j].floorState :=
  h.kept j fun gone => gone.2 member

theorem before_of (member : i ∈ t.floor.list) (memberJ : j ∈ t.floor.list) (before : GivenUpBefore t i j) :
    GivenUpBefore s i j := by
  rw [GivenUpBefore, h.cls, h.cls, h.state member, h.state memberJ] at before
  refine before.imp_right fun ⟨notLast, rank⟩ => ⟨notLast, rank.imp (fun ⟨hold, order⟩ =>
    ⟨hold, fun held => (order held).trans h.list⟩) fun ⟨opened, openedJ, rank⟩ => ⟨opened, openedJ, rank.imp
      (fun ⟨cls, order⟩ => ⟨cls, fun clsJ => (order clsJ).trans h.list⟩)
      fun ⟨cls, clsJ, order⟩ => ⟨cls, clsJ, order.trans h.list⟩⟩⟩

include law found

/-- One more member given up stands, if it waits, before all of its class that have been given up. -/
theorem waiting_evict (c : SrcClass) :
    waiting s (t.floor.list.erase i) c = requeued t i c ++ waiting s t.floor.list c := by
  have member := surplus_mem found
  have once := law.once.1
  rw [requeued, h.cls, h.state member]
  have other (k : SrcSlot) (apart : k ≠ i) : k ∉ t.floor.list.erase i ↔ k ∉ t.floor.list :=
    not_congr (List.mem_erase_of_ne apart)
  split
  next waits =>
    refine filter_prepend once (h.list.subset member) (decide_eq_true ⟨(once.sublist h.list).not_mem_erase, waits⟩)
      (decide_eq_false fun gone => gone.1 member) (fun k apart => decide_eq_decide.mpr (and_congr_left fun _ => other k apart)) fun k memberK gone => ?_
    obtain ⟨left, opened, clsK⟩ := of_decide_eq_true gone
    obtain last | ⟨-, ⟨hold, -⟩ | ⟨-, -, ⟨cls, order⟩ | ⟨-, -, order⟩⟩⟩ := h.before k memberK left i member
    · rw [opened] at last
      cases last
    · rw [opened] at hold
      cases hold
    · exact order (waits.2.trans (clsK.symm.trans cls))
    · exact order
  next stays =>
    refine List.filter_congr fun k _ => decide_eq_decide.mpr ?_
    by_cases e : k = i
    · rw [e]
      exact iff_of_false (fun gone => stays gone.2) fun gone => stays gone.2
    · rw [other k e]

theorem evict : GaveUp s (evict i t) := by
  have member := surplus_mem found
  have once := law.once.1.sublist h.list
  have floor := evict_floor h.places member
  have state (k : SrcSlot) := evict_state i k t
  have mem (j : SrcSlot) : j ∈ t.floor.list.erase i ↔ j ≠ i ∧ j ∈ t.floor.list := once.mem_erase_iff
  refine ⟨h.frame.trans (evict_frame i t), (evict_work h.places member).places, ?_, fun k memberK gone j memberJ => ?_,
    fun k memberK gone => ?_, fun k stays => ?_, ?_⟩
  · rw [evict_list]
    exact List.erase_sublist.trans h.list
  · rw [evict_list, mem] at gone memberJ
    obtain ⟨apart, memberJ⟩ := memberJ
    by_cases e : k = i
    · subst e
      exact h.before_of member memberJ (surplus_before h.places found memberJ apart)
    · exact h.before k memberK (fun there => gone ⟨e, there⟩) j memberJ
  · rw [evict_list, mem] at gone
    rw [state]
    by_cases e : k = i
    · rw [if_pos e, e, h.state member]
    · rw [if_neg e]
      exact h.gone k memberK fun there => gone ⟨e, there⟩
  · rw [evict_list, mem] at stays
    have apart : k ≠ i := fun e => stays ⟨e ▸ h.list.subset member, fun there => there.1 e⟩
    rw [state, if_neg apart]
    exact h.kept k fun gone => stays ⟨gone.1, fun there => gone.2 there.2⟩
  · rw [evict_list, waiting_evict law h found, waiting_evict law h found, floor]
    conv_lhs => rw [h.floor]
    simp only [List.append_assoc]

end Step

end GaveUp

theorem shrinkFloor_gaveUp (law : PlacesLaw s) (h : GaveUp s t) (n : Nat) : GaveUp s (shrinkFloor n t) := by
  induction n generalizing t with
  | zero => exact h
  | succ n ih =>
    unfold shrinkFloor
    split
    next => exact h
    next =>
      split
      next i found => exact ih (h.evict law found)
      next => exact h

theorem shrinkFloor_length {n : Nat} (law : PlacesLaw s) (enough : s.floor.list.length ≤ n) :
    (shrinkFloor n s).floor.list.length = min s.floor.list.length s.params.maxOpen := by
  induction n generalizing s with
  | zero =>
    rw [shrinkFloor]
    omega
  | succ n ih =>
    unfold shrinkFloor
    split
    next fits => exact (Nat.min_eq_left fits).symm
    next long =>
      obtain ⟨k, member⟩ := List.exists_mem_of_length_pos (by omega : 0 < s.floor.list.length)
      obtain ⟨j, found⟩ := surplus_some law member
      rw [found]
      have evicted := evict_work law (surplus_mem found)
      have shorter : (evict j s).floor.list.length = s.floor.list.length - 1 := by
        rw [evict_list, List.length_erase_of_mem (surplus_mem found)]
      have length := ih evicted.places (by omega)
      rw [shorter, evicted.frame.params] at length
      exact length.trans (by omega)

/-! ### The whole of R78 -/

theorem swapStamps_dropped (s : State) : ∃ dropped kept : List Stamp, s.floor.stamps = dropped ++ kept ∧
    kept.length = min s.floor.stamps.length s.params.admitBurst ∧
    swapStamps s = { s with floor := { s.floor with stamps := kept } } := by
  refine ⟨s.floor.stamps.take (s.floor.stamps.length - s.params.admitBurst), _, (List.take_append_drop _ _).symm, ?_, rfl⟩
  rw [List.length_drop]
  omega

/-- Settles O34: the steps of R78, each on a floor that keeps its law, and their order at a swap effect. -/
theorem swapAdjustsTheFloorInOrder : Obligations.SwapAdjustsTheFloorInOrder := by
  unfold Obligations.SwapAdjustsTheFloorInOrder
  refine ⟨fun s pending => ?order, fun s law => ⟨swapLast_idle, fun i member off last only =>
    swapLast_leaves law.places member off last only, fun t done counts => ⟨fun pos => ?lowers,
      fun i older zero lastMic chairs delegates list holds => ?last, fun zero stays => ?closes⟩, fun t done => ?surplus,
    swapStamps_dropped s⟩⟩
  case order =>
    have alike := swapEffect_alike s
    have banks : (exchanged s).banks = (swapEffect s).banks := by
      rw [swapEffect_banks, exchanged, State.mapSrcs_banks]
    exact ⟨swapEffect s, exchanged s, _, exec_swapEffect pending, banks, exchanged_floor s, exchanged_frame s, rfl,
      alike.floor, alike.floorState⟩
  case lowers =>
    rw [done, swapHolds_lowers pos counts]
    exact ⟨lowered_floor s, lowered_src s⟩
  case last =>
    obtain ⟨floor, newest, closed, others⟩ := swapHolds_last zero law.places lastMic chairs delegates list holds
    have frame := swapHolds_frame s
    rw [done]
    exact ⟨floor, src_of_frame frame newest, fun j listed => src_of_frame frame (closed j listed), fun j out =>
      src_of_frame frame (others j out)⟩
  case closes =>
    obtain ⟨floor, state⟩ := swapHolds_closes zero law.places stays
    rw [done]
    exact ⟨floor, fun i => src_of_frame (swapHolds_frame s) (state i)⟩
  case surplus =>
    have gaveUp := shrinkFloor_gaveUp law.places (.refl law.places) s.floor.list.length
    have length := shrinkFloor_length law.places (le_refl s.floor.list.length)
    rw [← done] at gaveUp length
    refine ⟨gaveUp.list, length, fun i member j memberJ gone => gaveUp.before i member gone j memberJ, fun i =>
      src_of_frame gaveUp.frame ?_, gaveUp.floor, gaveUp.frame.rest⟩
    split
    next gone => exact gaveUp.gone i gone.1 gone.2
    next stays => exact gaveUp.kept i stays

end Sys2Proof.Machine.Swap
end
